-- ==== Sys2Proof/Word.lean ====
section
/-! DEFINITION. The widths of the KC440's words and the named values of its manual (`spec/00_scope.md`,
conventions). Only the plainest types stand here: everything a rule computes is in `Machine/`. -/

namespace Sys2Proof

/-- A time stamp: a 32-bit tick count that wraps (00_scope, units; R3). -/
abbrev Tick := BitVec 32

/-- A period number: a 32-bit count of period events (00_scope, units). -/
abbrev Period := BitVec 32

/-- A byte on a station link. -/
abbrev Byte := BitVec 8

/-- A raw value of the analogue converter, 0 to 4095 (R22). -/
abbrev Raw := BitVec 12

/-- Converter, pinion and motor A or B. -/
inductive Side where
  | a | b
  deriving DecidableEq, Repr

/-- One of the four vibration channels (R31, chapter Vibration Watch). -/
inductive Chan where
  | c0 | c1 | c2 | c3
  deriving DecidableEq, Repr

/-- One of the six thyristors of a bridge (section 1.5). -/
inductive Thy where
  | t1 | t2 | t3 | t4 | t5 | t6
  deriving DecidableEq, Repr

/-- One of the six slots of the record store (section 8.2). -/
inductive SlotIx where
  | s0 | s1 | s2 | s3 | s4 | s5
  deriving DecidableEq, Repr

/-- One of the three stations, and its link (00_scope, "How the part is reached"). -/
inductive Station where
  | c | p | m
  deriving DecidableEq, Repr

/-- The zero-cross inputs (section 1.1). -/
inductive ZLine where
  | za | zb | zc
  deriving DecidableEq, Repr

/-- The pulse inputs (section 2.6). -/
inductive PulseLine where
  | pa | pb | ka | kb | ks
  deriving DecidableEq, Repr

/-- The rotation markers a channel may be referenced to (section 5.1). -/
inductive Marker where
  | ka | kb | ks
  deriving DecidableEq, Repr

/-- The synchroniser's states (section 1.2). -/
inductive SyncState where
  | seek | locking | locked | holdover
  deriving DecidableEq, Repr

/-- The kind of an origin (R17, R19). -/
inductive OriginKind where
  | real | substitute
  deriving DecidableEq, Repr

/-- The converter states (section 3.1). -/
inductive ConvState where
  | off | firing | retard | held
  deriving DecidableEq, Repr

/-- The fault responses of a converter (R59). -/
inductive Response where
  | skip | retardResume | retardBlock | block
  deriving DecidableEq, Repr

/-- The thermal states of a motor (R84). -/
inductive Thermal where
  | cool | warm | hot
  deriving DecidableEq, Repr

/-- The channel states of the vibration watch (section 5.1). -/
inductive ChanState where
  | paused | learning | normal | alert | danger | unreferenced | sensorFault
  deriving DecidableEq, Repr

/-- The marker phases of a channel (section 5.2). -/
inductive Phase where
  | wait | timing | running
  deriving DecidableEq, Repr

/-- The drive states (section 6.1). -/
inductive Drive where
  | blocked | closing | starting | run | stopping | coast | tripStop | tripped | aux
  deriving DecidableEq, Repr

/-- The COAST exit reasons (section 6.4). -/
inductive ExitReason where
  | none | relocked | timeout | stop | trip
  deriving DecidableEq, Repr

/-- The classes of causes, from strongest to weakest (section 7.1). -/
inductive Class where
  | b | f | s | w
  deriving DecidableEq, Repr

/-- The 34 kinds of causes (section 7.1, the catalogue), those of a side or a channel by that side or channel. -/
inductive Cause where
  | convFault (x : Side)
  | convTransient (x : Side)
  | overcurrent (x : Side)
  | overvoltage (x : Side)
  | currentSensor (x : Side)
  | mainsSequence
  | mainsLoss
  | pinionMismatch
  | speedSensor (x : Side)
  | overspeed
  | stall
  | breakawayFailed
  | converterLost
  | thermalHot (x : Side)
  | vibDanger (n : Chan)
  | vibSensor (n : Chan)
  | permitLost
  | stationTrip
  | extTrip
  | currentNotDecaying
  | referenceHold
  deriving DecidableEq, Repr

/-- The kinds of notices (R199). -/
inductive Notice where
  | restarted | driveState | episode | recordSealed | recordLost
  | warning | derate | channel | applied | holdExpired
  deriving DecidableEq, Repr

/-- The reply statuses (R196). -/
inductive Status where
  | ok | clamped | refused | notOwner | unknown | malformed | stale | noRecord
  deriving DecidableEq, Repr

/-- The reasons carried with REFUSED (R196). -/
inductive Reason where
  | wrongState | releasing | noPermit | notLocked | episodeActive | notReady
  | notStill | noEpisode | notStopped | causePresent | recordUnread | recording
  deriving DecidableEq, Repr

/-- The kinds of records (section 8.2). -/
inductive RecordKind where
  | trip | manual
  deriving DecidableEq, Repr

/-- The apply classes of settings (section 9.3). -/
inductive ApplyClass where
  | live | stopped | revolution
  deriving DecidableEq, Repr

/-- The three bit rates of the links (R191). -/
inductive LinkRate where
  | r500k | r1M | r2M
  deriving DecidableEq, Repr

/-- The blocks that take a period event (00_scope, "Main paths"). -/
inductive Block where
  | meu | stu | vwa | dsq | pru | set | rcu
  deriving DecidableEq, Repr

/-- The blocks an origin is issued to (R18). -/
inductive OriginTaker where
  | cca | ccb | meu
  deriving DecidableEq, Repr

end Sys2Proof
end

