-- ==== Sys2Proof/Syntax.lean ====
section
/-! DEFINITION. The commands of the KC440: one constructor of `Instr` for each row of `spec/opcode_table.json`,
with the operands the row's rule needs. Each constructor's docstring names the row and its rule. -/

namespace Sys2Proof

/-- One taking of a moment at which several blocks act: a block takes the period event, one of the receivers of an
origin takes the origin that falls at the same instant (R17, R27), the protection unit takes the reports of a kind that
have reached it by then (R148), or the drive sequencer takes the trip demands that have (R90, R146). -/
inductive Taking where
  | period (b : Block)
  | origin (r : OriginTaker)
  | report (k : Cause)
  | demand
  deriving DecidableEq, Repr

/-- The order of takings that coincide, where the rules leave it open (R1 of chapter 0's "Timing of work": the
blocks have no common clock step). Every list may be partial: what it does not name follows in a default order. -/
structure Sched where
  /-- the order in which blocks take a period event or an origin (R25, R27, R47, R67, R159, R184). A kind named here is
  reported no sooner than at its place, and a trip demand is taken no sooner than at the place of `demand` (R90, R148);
  a report or a demand that is not named is taken as it is made -/
  takings : List Taking
  /-- the order in which reports made at one instant by one block reach the protection unit (R148) -/
  reports : List Cause
  /-- the order in which the channels of the vibration watch take one marker, scan, publication or apply (R108) -/
  channels : List Chan
  /-- whether the settings table takes a drive-state entry before the speed and torque unit and the converters (R185) -/
  applyFirst : Bool
  deriving DecidableEq, Repr

/-- The raw levels of the part's digital inputs at a release (R21, R38, R66, R154, R191, R198). -/
structure Pins where
  za : Bool
  zb : Bool
  zc : Bool
  pa : Bool
  pb : Bool
  ka : Bool
  kb : Bool
  ks : Bool
  faultA : Bool
  faultB : Bool
  extTrip : Bool
  rsel1 : Bool
  rsel0 : Bool
  /-- the receive lines of the three links (R191, R198): for how many ticks from the release the line is still low, 0
  where it is high, the resting level -/
  rxC : Nat
  rxP : Nat
  rxM : Nat
  deriving DecidableEq, Repr

/-- The raw values of one conversion of a group of four inputs, taken as one set (R22). -/
structure RawSet where
  r0 : Raw
  r1 : Raw
  r2 : Raw
  r3 : Raw
  deriving DecidableEq, Repr

/-- A low stretch of a receive line (R191, R197): the instant from which it is low, and for how many ticks. -/
structure LowSpan where
  start : Tick
  length : Nat
  deriving DecidableEq, Repr

/-- A further low stretch of a receive line before the line has been high for a bit time (R191): the line is high for
`high` ticks after the stretch before, and then low for `low`. -/
structure Dip where
  high : Nat
  low : Nat
  deriving DecidableEq, Repr

/-- A low stretch of a receive line, and the further ones that follow it before the line has been high for a bit time
(R191, R197). -/
structure LowRun where
  span : LowSpan
  dips : List Dip
  deriving DecidableEq, Repr

/-- The commands. `t` is the instant of an event that comes from outside; `o` is the order of coinciding takings. -/
inductive Instr where
  /-- POWER_ON (R179 and each block's resets): release after power-on at `t` with the lines at `pins`. -/
  | powerOn (t : Tick) (pins : Pins) (o : Sched)
  /-- RESET_LINE_RELEASE (R180 and each block's resets). -/
  | resetLineRelease (t : Tick) (pins : Pins) (o : Sched)
  /-- ZERO_CROSS_RAW_EDGE (R3): the raw level of `line` becomes `level` at `t`. -/
  | zeroCrossRawEdge (line : ZLine) (level : Bool) (t : Tick) (o : Sched)
  /-- QUALIFIED_CROSSING (R3): the candidate of `line` has persisted 256 ticks. -/
  | qualifiedCrossing (line : ZLine) (o : Sched)
  /-- LOCKING_TIMEOUT (R7). -/
  | lockingTimeout
  /-- WINDOW_CLOSE (R14). -/
  | windowClose (o : Sched)
  /-- SYNC_LOST (R16): the window close at which the miss count exceeds holdover. -/
  | syncLost (o : Sched)
  /-- REFERENCE_EDGE (R11). -/
  | referenceEdge (o : Sched)
  /-- SUBSTITUTE_PERIOD_EVENT (R19). -/
  | substitutePeriodEvent (o : Sched)
  /-- HOLD_EXPIRED (R74): the speed and torque unit's taking of a period event at which the hold timer reaches 0. -/
  | holdExpired (o : Sched)
  /-- SPEED_SENSOR_EXCLUDED (R69): its taking of a period event at which pinion `x` is excluded. -/
  | speedSensorExcluded (x : Side) (o : Sched)
  /-- PINION_MISMATCH (R71): its taking of a period event at which the mismatch is reported. -/
  | pinionMismatch (o : Sched)
  /-- BREAKAWAY_FAILED (R81): its taking of a period event at which the window count reaches the breakaway time. -/
  | breakawayFailed (o : Sched)
  /-- STALL (R92): its taking of a period event at which the stall is reported. -/
  | stall (o : Sched)
  /-- RECORD_SEALED (R166): the record unit's taking of a period event at which a filling record is sealed. -/
  | recordSealed
  /-- PERMIT_LAPSE (R150): the protection unit's taking of a period event at which the permit timer reaches 0. -/
  | permitLapse (o : Sched)
  /-- CLOSE_DELAY_END (R122): the drive sequencer's taking of a period event at which the close count ends. -/
  | closeDelayEnd (o : Sched)
  /-- COAST_TIMEOUT (R127): its taking of a period event at which the coast timer expires. -/
  | coastTimeout (o : Sched)
  /-- CONTACTOR_RELEASE (R136): its taking of a period event at which a release wait ends. -/
  | contactorRelease (o : Sched)
  /-- CURRENT_NOT_DECAYING (R137): its taking of a period event at which the decay count reaches the decay time. -/
  | currentNotDecaying (o : Sched)
  /-- ORIGIN (R18): the first pending origin reaches its instant. -/
  | origin (o : Sched)
  /-- FIRING_ISSUE (R54): the first pending firing of converter `x` reaches its instant. -/
  | firingIssue (x : Side)
  /-- BURST_PHASE_END (R55): the phase of the burst of converter `x` ends. -/
  | burstPhaseEnd (x : Side)
  /-- ESCALATION_DECAY (R62): the firing of converter `x` with which the firings since arrival reach 64. -/
  | escalationDecay (x : Side)
  /-- FAULT_ARRIVAL (R57): the fault line of converter `x` goes active at `t`. -/
  | faultArrival (x : Side) (t : Tick) (o : Sched)
  /-- FAULT_CLEAR (R45): the fault line of converter `x` goes inactive at `t`. -/
  | faultClear (x : Side) (t : Tick)
  /-- CURRENT_SAMPLE (R25): the next sample instant; `v` holds AI0 to AI3. -/
  | currentSample (v : RawSet) (o : Sched)
  /-- CURRENT_SENSOR (R28): the sample at which the rail counter of channel `x` reaches 3. -/
  | currentSensor (x : Side) (v : RawSet) (o : Sched)
  /-- VIBRATION_SCAN (R31): the next scan instant; `v` holds AI4 to AI7. -/
  | vibrationScan (v : RawSet) (o : Sched)
  /-- SENSOR_FAULT_SET (R110): the scan at which channel `n` is flagged. -/
  | sensorFaultSet (n : Chan) (v : RawSet) (o : Sched)
  /-- SENSOR_FAULT_CLEAR (R111): the scan at which the flag of channel `n` is cleared. -/
  | sensorFaultClear (n : Chan) (v : RawSet) (o : Sched)
  /-- PULSE_RAW_EDGE (R34): the raw level of `line` becomes `level` at `t`. -/
  | pulseRawEdge (line : PulseLine) (level : Bool) (t : Tick) (o : Sched)
  /-- PULSE_QUALIFIED_EDGE (R34): the candidate of `line` has persisted 200 ticks. -/
  | pulseQualifiedEdge (line : PulseLine) (o : Sched)
  /-- MARKER_DEADLINE (R99): the marker deadline of channel `n` passes. -/
  | markerDeadline (n : Chan) (o : Sched)
  /-- EXT_TRIP_RAW_EDGE (R154): the raw level of EXT_TRIP becomes `level` (true is active) at `t`. -/
  | extTripRawEdge (level : Bool) (t : Tick) (o : Sched)
  /-- EXT_TRIP_QUALIFIED (R154): the candidate of EXT_TRIP has persisted 2000 ticks. -/
  | extTripQualified (o : Sched)
  /-- RX_BYTE (R193): the receiver of `link` hands on the byte `v` at `t`. -/
  | rxByte (link : Station) (v : Byte) (t : Tick) (o : Sched)
  /-- RX_FRAMING_ERROR (R193, R197): the receiver of `link` finds a low stop bit at `t`; `low` is the low stretch
  of the line that gives it, with those that follow it before the line has been high for a bit time. -/
  | rxFramingError (link : Station) (low : LowRun) (t : Tick)
  /-- GAP_TIMEOUT (R193): the gap timer of `link` passes 10,000 ticks. -/
  | gapTimeout (link : Station)
  /-- REPLY_SENT (R194): the last byte of the reply of `link` is sent. -/
  | replySent (link : Station) (o : Sched)
  /-- LINK_RESET (R197): the break timer of `link` reaches 100,000 ticks at `t`. -/
  | linkReset (link : Station) (t : Tick)
  /-- STATUS (R201): the request completes on `link` at `t` with TAG `tag`; so for every request below. -/
  | status (link : Station) (tag : Byte) (t : Tick) (o : Sched)
  /-- NOTICES (R200). -/
  | notices (link : Station) (tag : Byte) (t : Tick) (o : Sched)
  /-- GET_SETTING (R189). -/
  | getSetting (link : Station) (tag : Byte) (id : BitVec 16) (t : Tick) (o : Sched)
  /-- PUT_SETTING (R181); `value` is the value field as sent. -/
  | putSetting (link : Station) (tag : Byte) (id : BitVec 16) (value : List Byte) (t : Tick) (o : Sched)
  /-- LIST_RECORDS (R174). -/
  | listRecords (link : Station) (tag : Byte) (t : Tick) (o : Sched)
  /-- OPEN_RECORD (R175). -/
  | openRecord (link : Station) (tag : Byte) (n : BitVec 16) (t : Tick) (o : Sched)
  /-- NEXT_CHUNK (R176). -/
  | nextChunk (link : Station) (tag : Byte) (t : Tick) (o : Sched)
  /-- CHANNEL (R114). -/
  | channel (link : Station) (tag : Byte) (n : Byte) (t : Tick) (o : Sched)
  /-- TABLE (R115). -/
  | table (link : Station) (tag : Byte) (n : Byte) (h : Byte) (t : Tick) (o : Sched)
  /-- CAPTURE (R169). -/
  | capture (link : Station) (tag : Byte) (t : Tick) (o : Sched)
  /-- SPEED_REF (R73). -/
  | speedRef (link : Station) (tag : Byte) (value : BitVec 16) (t : Tick) (o : Sched)
  /-- START (R121). -/
  | start (link : Station) (tag : Byte) (t : Tick) (o : Sched)
  /-- STOP (R124). -/
  | stop (link : Station) (tag : Byte) (t : Tick) (o : Sched)
  /-- TO_AUX (R132). -/
  | toAux (link : Station) (tag : Byte) (t : Tick) (o : Sched)
  /-- FROM_AUX (R133). -/
  | fromAux (link : Station) (tag : Byte) (t : Tick) (o : Sched)
  /-- PERMIT (R149). -/
  | permit (link : Station) (tag : Byte) (t : Tick) (o : Sched)
  /-- WITHDRAW (R151). -/
  | withdraw (link : Station) (tag : Byte) (t : Tick) (o : Sched)
  /-- TRIP (R153). -/
  | trip (link : Station) (tag : Byte) (t : Tick) (o : Sched)
  /-- RESET_TRIP (R155). -/
  | resetTrip (link : Station) (tag : Byte) (t : Tick) (o : Sched)
  /-- CLEAR_TABLE (R116). -/
  | clearTable (link : Station) (tag : Byte) (n : Byte) (t : Tick) (o : Sched)
  deriving DecidableEq, Repr

end Sys2Proof
end

