-- ==== Sys2Proof/Decode.lean ====
section
/-! DEFINITION. The commands that a word spells. No row of `spec/opcode_table.json` gives bits: a command reaches the
part as an event on a line, a timer's expiry or a frame on a link, so no word spells one. (The frames of the links are
read by `Machine/LinkUnit.lean` and `Machine/Requests.lean`.) -/

namespace Sys2Proof

/-- The command that the `nbits` bits of `w` spell: none, for the table gives no row any bits. -/
def decodeTableWord (_nbits _w : Nat) : Option Instr := none

end Sys2Proof
end

