-- ==== Sys2Proof/Config.lean ====
section
/-! DEFINITION. What the manual leaves to the moment of release and `State.reset` must name: the tick count and the
raw levels of the lines at release. Both are DESIGN CHOICES (notes/assumptions/2.md and 3.md, unsafe); POWER_ON and
RESET_LINE_RELEASE take any. No rule of the manual leaves the result of a command undefined, so no free value stands
here; the orders the manual leaves open are operands (`Sched`). -/

namespace Sys2Proof.Config

/-- DESIGN CHOICE (log entry 2): the tick count at the release that `State.reset` stands for. -/
def resetTick : Tick := 0#32

/-- DESIGN CHOICE (log entry 3): the raw levels at that release: every input low or inactive, the receive lines
resting high, both straps 0. -/
def resetPins : Pins :=
  { za := false, zb := false, zc := false, pa := false, pb := false, ka := false, kb := false, ks := false,
    faultA := false, faultB := false, extTrip := false, rsel1 := false, rsel0 := false,
    rxC := 0, rxP := 0, rxM := 0 }

end Sys2Proof.Config
end

