-- ==== Sys2Proof/Machine/Constants.lean ====
section
/-! DEFINITION. The fixed numbers of the manual and the arithmetic its rules share: tick differences, truncating
division, clamps, the integer square root, the arccos table, and the numbering of thyristors, channels and slots. -/

namespace Sys2Proof.Machine

/-- The ticks from stamp `u` to stamp `t`, modulo 2^32 (R3: every difference of two stamps is taken modulo 2^32). -/
def since (t u : Tick) : Nat := (t - u).toNat

/-- The instant `n` ticks after `t`. -/
def plus (t : Tick) (n : Nat) : Tick := t + BitVec.ofNat 32 n

/-- The instant `n` ticks before `t`. -/
def minus (t : Tick) (n : Nat) : Tick := t - BitVec.ofNat 32 n

/-- `t` is at or before `u`: their difference modulo 2^32 lies in the nearer half (DEDUCED from R3, log entry 5). -/
def notAfter (t u : Tick) : Bool := decide (since u t < 2147483648)

/-- `t` is strictly before `u`. -/
def before (t u : Tick) : Bool := notAfter t u && decide (t ≠ u)

/-- "Divide" (R1): integer division truncating toward zero. -/
def tdiv (x y : Int) : Int := Int.tdiv x y

/-- "Clamp to [lo, hi]" (R1). -/
def clampInt (lo hi x : Int) : Int := if x < lo then lo else if hi < x then hi else x

/-- "Clamp to [lo, hi]" (R1) on natural numbers. -/
def clampNat (lo hi x : Nat) : Nat := if x < lo then lo else if hi < x then hi else x

/-- One bit of the integer square root: `r + 2^k` where its square does not exceed `n`. -/
def isqrtBit (n r k : Nat) : Nat := if (r + 2 ^ k) * (r + 2 ^ k) ≤ n then r + 2 ^ k else r

/-- The greatest integer whose square does not exceed `n` (R103), bit by bit from the highest. -/
def isqrt (n : Nat) : Nat := (List.range (n.log2 / 2 + 1)).reverse.foldl (isqrtBit n) 0

/-- Angle units of one mains period (00_scope, units). -/
def anglePeriod : Nat := 49152

/-- Persistence of the zero-cross qualifiers (R3). -/
def crossPersist : Nat := 256

/-- Persistence of the pulse qualifiers (R34). -/
def pulsePersist : Nat := 200

/-- Persistence of the EXT_TRIP qualifier (R154). -/
def extPersist : Nat := 2000

/-- The fixed substitute period, and P_est in SEEK and LOCKING (R5, R19). -/
def substPeriod : Nat := 200000

/-- The locking timeout from the stamp of the locking start (R7). -/
def lockingTicks : Nat := 444444

/-- The least valid period (R6, R13). -/
def periodMin : Nat := 151515

/-- The greatest valid period (R6, R13). -/
def periodMax : Nat := 222222

/-- The vibration scan period (R31). -/
def scanTicks : Nat := 2000

/-- Consecutive scans after which the sensor-fault flag changes (R33). -/
def flagScans : Nat := 5000

/-- The sample angles past an origin (R24). -/
def sampleAngles : List Nat := [1024, 3072, 5120, 7168]

/-- The least integrator value, the preset (R40, R48). -/
def integMin : Int := -4194304

/-- The greatest integrator value (R48). -/
def integMax : Int := 4194304

/-- The marker deadline where no revolution time is known (R95, R99). -/
def markerTicks : Nat := 1200000000

/-- The clamp of Trev_est (R98). -/
def trevMax : Nat := 2000000000

/-- Entries of the history ring (R159). -/
def ringCapacity : Nat := 256

/-- Entries of a record (section 8.2). -/
def recordCapacity : Nat := 192

/-- The gap timer's limit inside a frame (R193). -/
def gapTicks : Nat := 10000

/-- The break that resets a link (R197). -/
def breakTicks : Nat := 100000

/-- The reset value of a thermal account (R94). -/
def accountReset : Nat := 30720000

/-- The least total demand at which the share trim is updated (R88). -/
def trimFloor : Nat := 1638

/-- The least speed of the other pinion, or of the mean, that the sensor tests count (R69, R71). -/
def sensorSpeed : Nat := 2048

/-- Period events after which a silent pinion is excluded (R69). -/
def exclusionCount : Nat := 50

/-- The arccos table T of R49: T[k] is 24576 × arccos((k − 128) / 128) / π, rounded to the nearest integer. -/
def arccosTable : List Nat :=
  [24576, 23598, 23191, 22879, 22615, 22382, 22171, 21977, 21796, 21625, 21463, 21309, 21162, 21020, 20883, 20751] ++
  [20623, 20498, 20377, 20259, 20144, 20031, 19921, 19813, 19707, 19603, 19501, 19401, 19302, 19205, 19110, 19015] ++
  [18922, 18830, 18740, 18650, 18562, 18474, 18388, 18303, 18218, 18134, 18051, 17969, 17888, 17807, 17727, 17648] ++
  [17569, 17491, 17414, 17337, 17261, 17185, 17110, 17036, 16961, 16888, 16814, 16742, 16669, 16597, 16526, 16455] ++
  [16384, 16314, 16244, 16174, 16105, 16036, 15967, 15898, 15830, 15762, 15695, 15628, 15561, 15494, 15427, 15361] ++
  [15295, 15229, 15164, 15098, 15033, 14968, 14903, 14839, 14774, 14710, 14646, 14582, 14518, 14455, 14391, 14328] ++
  [14265, 14202, 14139, 14076, 14013, 13951, 13888, 13826, 13764, 13701, 13639, 13577, 13515, 13454, 13392, 13330] ++
  [13268, 13207, 13145, 13084, 13022, 12961, 12900, 12838, 12777, 12716, 12655, 12594, 12533, 12471, 12410, 12349] ++
  [12288, 12227, 12166, 12105, 12043, 11982, 11921, 11860, 11799, 11738, 11676, 11615, 11554, 11492, 11431, 11369] ++
  [11308, 11246, 11184, 11122, 11061, 10999, 10937, 10875, 10812, 10750, 10688, 10625, 10563, 10500, 10437, 10374] ++
  [10311, 10248, 10185, 10121, 10058, 9994, 9930, 9866, 9802, 9737, 9673, 9608, 9543, 9478, 9412, 9347] ++
  [9281, 9215, 9149, 9082, 9015, 8948, 8881, 8814, 8746, 8678, 8609, 8540, 8471, 8402, 8332, 8262] ++
  [8192, 8121, 8050, 7979, 7907, 7834, 7762, 7688, 7615, 7540, 7466, 7391, 7315, 7239, 7162, 7085] ++
  [7007, 6928, 6849, 6769, 6688, 6607, 6525, 6442, 6358, 6273, 6188, 6102, 6014, 5926, 5836, 5746] ++
  [5654, 5561, 5466, 5371, 5274, 5175, 5075, 4973, 4869, 4763, 4655, 4545, 4432, 4317, 4199, 4078] ++
  [3953, 3825, 3693, 3556, 3414, 3267, 3113, 2951, 2780, 2599, 2405, 2194, 1961, 1697, 1385, 978] ++
  [0]

/-- T[k] (R49). -/
def arccosAt (k : Nat) : Nat := arccosTable.getD k 0

/-- The number n of thyristor Tn. -/
def thyNumber : Thy → Nat
  | .t1 => 1 | .t2 => 2 | .t3 => 3 | .t4 => 4 | .t5 => 5 | .t6 => 6

/-- The thyristors in firing order. -/
def allThys : List Thy := [.t1, .t2, .t3, .t4, .t5, .t6]

/-- The thyristor fired before `n` in the order T1 to T6, which for T1 is T6 (R55). -/
def thyBefore : Thy → Thy
  | .t1 => .t6 | .t2 => .t1 | .t3 => .t2 | .t4 => .t3 | .t5 => .t4 | .t6 => .t5

/-- The number of a channel. -/
def chanNumber : Chan → Nat
  | .c0 => 0 | .c1 => 1 | .c2 => 2 | .c3 => 3

/-- The four channels. -/
def allChans : List Chan := [.c0, .c1, .c2, .c3]

/-- The channel of a number, where there is one. -/
def chanOf (n : Nat) : Option Chan := allChans[n]?

/-- The number of a slot. -/
def slotNumber : SlotIx → Nat
  | .s0 => 0 | .s1 => 1 | .s2 => 2 | .s3 => 3 | .s4 => 4 | .s5 => 5

/-- The six slots in slot order. -/
def allSlots : List SlotIx := [.s0, .s1, .s2, .s3, .s4, .s5]

/-- The three stations. -/
def allStations : List Station := [.c, .p, .m]

/-- The other side. -/
def otherSide : Side → Side
  | .a => .b | .b => .a

/-- The 34 cause kinds in the order of their codes (section 7.1). -/
def allCauses : List Cause :=
  [.convFault .a, .convFault .b, .convTransient .a, .convTransient .b, .overcurrent .a, .overcurrent .b,
   .overvoltage .a, .overvoltage .b, .currentSensor .a, .currentSensor .b, .mainsSequence, .mainsLoss] ++
  [.pinionMismatch, .speedSensor .a, .speedSensor .b, .overspeed, .stall, .breakawayFailed, .converterLost,
   .thermalHot .a, .thermalHot .b, .vibDanger .c0, .vibDanger .c1, .vibDanger .c2, .vibDanger .c3] ++
  [.vibSensor .c0, .vibSensor .c1, .vibSensor .c2, .vibSensor .c3, .permitLost, .stationTrip, .extTrip,
   .currentNotDecaying, .referenceHold]

/-- The ten notice kinds in the order of their codes (section 11.1). -/
def allNotices : List Notice :=
  [.restarted, .driveState, .episode, .recordSealed, .recordLost, .warning, .derate, .channel, .applied, .holdExpired]

end Sys2Proof.Machine
end

