-- ==== Sys2Proof/Machine/Catalogue.lean ====
section
/-! DEFINITION. The settings catalogue of chapter 9 (section 9.1, R117, R157): every setting's owner, apply class,
form, range and default, in the order of the identifiers 1 to 87. -/

namespace Sys2Proof.Machine

/-- A channel profile, a record-valued setting (R117). -/
structure Profile where
  marker : Marker
  w : Nat
  syncAlert : Nat
  syncDanger : Nat
  residAlert : Nat
  residDanger : Nat
  nAlert : Nat
  nDanger : Nat
  nRelease : Nat
  deriving DecidableEq, Repr

/-- A channel action, a record-valued setting (R117); `dangerTrip` is the danger action TRIP. -/
structure Action where
  alertLevel : Nat
  dangerTrip : Bool
  faultLevel : Nat
  deriving DecidableEq, Repr

/-- A value of a setting, in the form of the setting (R181). -/
inductive SetValue where
  | num (n : Nat)
  | code (n : Nat)
  | profile (p : Profile)
  | action (a : Action)
  deriving DecidableEq, Repr

/-- The form of a setting with its range and default (section 9.1). -/
inductive Form where
  | num (lo hi dflt : Nat)
  | code (codes : List Nat) (dflt : Nat)
  | profile (dflt : Profile)
  | action (dflt : Action)
  deriving DecidableEq, Repr

/-- One row of the catalogue. -/
structure SetSpec where
  owner : Station
  cls : ApplyClass
  form : Form
  deriving DecidableEq, Repr

/-- The default profile with the channel's reference marker (R117). -/
def profileDefault (m : Marker) : Profile :=
  { marker := m, w := 3, syncAlert := 400, syncDanger := 800, residAlert := 300, residDanger := 600,
    nAlert := 3, nDanger := 2, nRelease := 5 }

/-- The default action (R117). -/
def actionDefault : Action := { alertLevel := 1, dangerTrip := true, faultLevel := 1 }

/-- The catalogue, identifier 1 first (section 9.1). -/
def catalogue : List SetSpec :=
  [⟨.p, .live, .num 4 64 8⟩,
   ⟨.p, .live, .num 256 4096 1024⟩,
   ⟨.p, .live, .num 1 10 3⟩,
   ⟨.p, .stopped, .num 0 49151 0⟩,
   ⟨.c, .stopped, .num 0 4095 2048⟩,
   ⟨.c, .stopped, .num 0 4095 2048⟩,
   ⟨.c, .stopped, .num 1 65535 16384⟩,
   ⟨.c, .stopped, .num 1 65535 16384⟩,
   ⟨.c, .stopped, .num 0 4095 2048⟩,
   ⟨.c, .stopped, .num 0 4095 2048⟩] ++
  [⟨.c, .stopped, .num 1 65535 16384⟩,
   ⟨.c, .stopped, .num 1 65535 16384⟩,
   ⟨.p, .live, .num 16384 32767 29491⟩,
   ⟨.p, .live, .num 16384 32767 29491⟩,
   ⟨.p, .live, .num 16384 32767 19661⟩,
   ⟨.p, .live, .num 16384 32767 19661⟩,
   ⟨.m, .live, .num 0 4095 1024⟩,
   ⟨.m, .live, .num 0 4095 3072⟩,
   ⟨.c, .live, .num 0 4095 600⟩,
   ⟨.c, .live, .num 0 1023 40⟩] ++
  [⟨.p, .stopped, .num 0 8192 2048⟩,
   ⟨.p, .stopped, .num 16384 22528 20480⟩,
   ⟨.p, .stopped, .num 20 500 100⟩,
   ⟨.p, .stopped, .num 20 500 100⟩,
   ⟨.p, .stopped, .num 1 32 12⟩,
   ⟨.p, .live, .num 0 2048 328⟩,
   ⟨.p, .live, .num 6 60 12⟩,
   ⟨.p, .live, .num 1 16 4⟩,
   ⟨.p, .live, .code [0, 1, 2, 3] 2⟩,
   ⟨.p, .live, .code [0, 1, 2, 3] 2⟩] ++
  [⟨.c, .stopped, .num 1000 10000000 333333⟩,
   ⟨.c, .live, .num 1000000 400000000 40000000⟩,
   ⟨.c, .live, .num 1638 32767 16384⟩,
   ⟨.c, .live, .num 1 4096 16⟩,
   ⟨.c, .live, .num 1 4096 16⟩,
   ⟨.c, .live, .num 5 500 100⟩,
   ⟨.c, .live, .num 0 16384 1638⟩,
   ⟨.c, .live, .num 0 65535 2048⟩,
   ⟨.c, .live, .num 0 4095 64⟩,
   ⟨.c, .live, .num 64 192 128⟩] ++
  [⟨.c, .live, .num 0 8192 1638⟩,
   ⟨.c, .live, .num 0 255 16⟩,
   ⟨.p, .live, .num 1 4096 33⟩,
   ⟨.p, .live, .num 16384 32767 18022⟩,
   ⟨.p, .live, .num 0 16384 1638⟩,
   ⟨.p, .live, .num 1 250 25⟩,
   ⟨.p, .stopped, .num 0 8192 820⟩,
   ⟨.p, .stopped, .num 25 1000 150⟩,
   ⟨.p, .stopped, .num 16384 65535 52429⟩,
   ⟨.p, .stopped, .num 16384 65535 36045⟩] ++
  [⟨.p, .stopped, .num 0 256 218⟩,
   ⟨.p, .stopped, .num 0 256 179⟩,
   ⟨.p, .stopped, .num 0 256 128⟩,
   ⟨.p, .stopped, .num 8192 32767 24576⟩,
   ⟨.p, .stopped, .num 8192 32767 16384⟩,
   ⟨.p, .stopped, .num 16384 32767 24576⟩,
   ⟨.p, .stopped, .num 8192 32767 16384⟩,
   ⟨.p, .stopped, .num 1000000 1000000000 61440000⟩,
   ⟨.p, .stopped, .num 0 1000000000 46080000⟩,
   ⟨.p, .live, .num 0 8192 1024⟩] ++
  [⟨.p, .live, .num 10 1000 100⟩,
   ⟨.p, .stopped, .code [0, 1] 0⟩,
   ⟨.m, .revolution, .profile (profileDefault .ka)⟩,
   ⟨.m, .revolution, .profile (profileDefault .kb)⟩,
   ⟨.m, .revolution, .profile (profileDefault .ks)⟩,
   ⟨.m, .revolution, .profile (profileDefault .ks)⟩,
   ⟨.p, .live, .action actionDefault⟩,
   ⟨.p, .live, .action actionDefault⟩,
   ⟨.p, .live, .action actionDefault⟩,
   ⟨.p, .live, .action actionDefault⟩] ++
  [⟨.m, .live, .num 256 32767 4096⟩,
   ⟨.p, .stopped, .num 1 50 10⟩,
   ⟨.p, .live, .num 0 2048 164⟩,
   ⟨.p, .live, .num 25 1000 250⟩,
   ⟨.p, .live, .num 0 50 2⟩,
   ⟨.p, .live, .num 5 250 25⟩,
   ⟨.p, .live, .num 5 250 25⟩,
   ⟨.p, .live, .code [2, 1] 2⟩,
   ⟨.p, .live, .code [2, 1] 2⟩,
   ⟨.p, .live, .code [2, 3] 2⟩] ++
  [⟨.p, .live, .code [2, 1] 2⟩,
   ⟨.p, .live, .code [3, 4] 3⟩,
   ⟨.p, .live, .code [3, 2] 3⟩,
   ⟨.p, .live, .code [1, 2] 1⟩,
   ⟨.p, .live, .num 0 191 128⟩,
   ⟨.p, .live, .num 1 192 64⟩,
   ⟨.m, .live, .code [0, 1] 0⟩]

/-- The default value of a form (R190). -/
def formDefault : Form → SetValue
  | .num _ _ d => .num d
  | .code _ d => .code d
  | .profile d => .profile d
  | .action d => .action d

/-- A profile with every field within its range (R117). -/
def profileInRange (p : Profile) : Bool :=
  decide (p.w ≤ 6) && decide (p.syncAlert ≤ 8190) && decide (p.syncDanger ≤ 8190) && decide (p.residAlert ≤ 8190) &&
  decide (p.residDanger ≤ 8190) && decide (1 ≤ p.nAlert) && decide (p.nAlert ≤ 16) && decide (1 ≤ p.nDanger) &&
  decide (p.nDanger ≤ 16) && decide (1 ≤ p.nRelease) && decide (p.nRelease ≤ 64)

/-- An action with every field within its range (R117). -/
def actionInRange (a : Action) : Bool :=
  decide (1 ≤ a.alertLevel) && decide (a.alertLevel ≤ 3) && decide (a.faultLevel ≤ 3)

/-- A value of the form of a setting, within its range or enumeration (R182). -/
def valueInRange : Form → SetValue → Bool
  | .num lo hi _, .num n => decide (lo ≤ n) && decide (n ≤ hi)
  | .code cs _, .code n => cs.contains n
  | .profile _, .profile p => profileInRange p
  | .action _, .action a => actionInRange a
  | _, _ => false

/-- A profile's fields brought each into its own range; the marker is taken as written (R182). -/
def clampProfile (p : Profile) : Profile :=
  { marker := p.marker, w := clampNat 0 6 p.w, syncAlert := clampNat 0 8190 p.syncAlert,
    syncDanger := clampNat 0 8190 p.syncDanger, residAlert := clampNat 0 8190 p.residAlert,
    residDanger := clampNat 0 8190 p.residDanger, nAlert := clampNat 1 16 p.nAlert,
    nDanger := clampNat 1 16 p.nDanger, nRelease := clampNat 1 64 p.nRelease }

/-- An action's fields brought each into its own range; the danger action is taken as written (R182). -/
def clampAction (a : Action) : Action :=
  { alertLevel := clampNat 1 3 a.alertLevel, dangerTrip := a.dangerTrip, faultLevel := clampNat 0 3 a.faultLevel }

/-- A value brought into the range of its form (R182). -/
def clampValue : Form → SetValue → SetValue
  | .num lo hi _, .num n => .num (clampNat lo hi n)
  | .profile _, .profile p => .profile (clampProfile p)
  | .action _, .action a => .action (clampAction a)
  | _, v => v

end Sys2Proof.Machine
end

