-- ==== Sys2Proof/Machine/Blocks.lean ====
section
/-! DEFINITION. The state of each block, as the table at the head of its chapter lists it, and the value each block
takes at power-on and at the release of the reset line (R21, R38, R66, R94, R118, R139, R158, R179, R190, R198). -/

namespace Sys2Proof.Machine

/-- Two values, one for each side A and B. -/
structure Pair (α : Type) where
  a : α
  b : α
  deriving DecidableEq, Repr

/-- Four values, one for each vibration channel. -/
structure Quad (α : Type) where
  c0 : α
  c1 : α
  c2 : α
  c3 : α
  deriving DecidableEq, Repr

/-- Three values, one for each station. -/
structure Triple (α : Type) where
  c : α
  p : α
  m : α
  deriving DecidableEq, Repr

/-- Six values, one for each slot of the record store. -/
structure Six (α : Type) where
  s0 : α
  s1 : α
  s2 : α
  s3 : α
  s4 : α
  s5 : α
  deriving DecidableEq, Repr

/-- A candidate transition of a qualifier: the new level and the stamp of the raw transition (R3). -/
structure Candidate where
  level : Bool
  stamp : Tick
  deriving DecidableEq, Repr

/-- A qualifier: the qualified level, and a pending candidate or none (R3, R34, R154). -/
structure Qualifier where
  level : Bool
  cand : Option Candidate
  deriving DecidableEq, Repr

/-- A qualifier at release: the raw level, with no candidate (R21, R38, R154). -/
def qualifierRelease (raw : Bool) : Qualifier := { level := raw, cand := none }

/-- An origin record (R17). -/
structure Origin where
  stamp : Tick
  thy : Thy
  period : Period
  kind : OriginKind
  length : Nat
  deriving DecidableEq, Repr

/-- The latest prediction with its window: the predicted instant, the half-width in ticks, served or open (R10). -/
structure Prediction where
  pred : Tick
  half : Nat
  served : Bool
  deriving DecidableEq, Repr

/-- The mains synchroniser (chapter 1, state table). -/
structure Msy where
  za : Qualifier
  zb : Qualifier
  zc : Qualifier
  lastZb : Option Tick
  lastZc : Option Tick
  sync : SyncState
  ring : List Nat
  pEst : Nat
  lockStart : Option Tick
  prevValid : Option Nat
  count : Nat
  lockTimeout : Option Tick
  prediction : Option Prediction
  pendingEdge : Option Tick
  waitingEdge : Option Tick
  lastAccepted : Option Tick
  gap : Bool
  missCount : Nat
  origins : List Origin
  subst : Option Tick
  period : Period
  seqCond : Bool
  deriving DecidableEq, Repr

/-- What the synchroniser computes the six origins of a reference edge from as it issues the edge (R11, R17): the edge's
period number and instant, the origin offset and P_est then in force. -/
structure EdgeIssue where
  period : Period
  pred : Tick
  offset : Nat
  pEst : Nat
  deriving DecidableEq, Repr

/-- The synchroniser at release (R21). -/
def msyRelease (t : Tick) (pins : Pins) : Msy :=
  { za := qualifierRelease pins.za, zb := qualifierRelease pins.zb, zc := qualifierRelease pins.zc,
    lastZb := none, lastZc := none, sync := .seek, ring := [], pEst := substPeriod, lockStart := none,
    prevValid := none, count := 0, lockTimeout := none, prediction := none, pendingEdge := none,
    waitingEdge := none, lastAccepted := none, gap := false, missCount := 0, origins := [], subst := some t,
    period := 0#32, seqCond := false }

/-- The open interval of the current group (R24). -/
structure Interval where
  stamp : Tick
  length : Nat
  samples : List Tick
  count : Nat
  curA : Nat
  curB : Nat
  voltA : Nat
  voltB : Nat
  deriving DecidableEq, Repr

/-- What the measurement unit holds for one converter (chapter 2, state table). -/
structure MeuSide where
  average : Nat
  voltAverage : Nat
  accSum : Nat
  accCount : Nat
  mean : Nat
  lastSample : Nat
  rail : Nat
  sensorCond : Bool
  overCond : Bool
  voltCond : Bool
  deriving DecidableEq, Repr

/-- What the measurement unit holds for one vibration channel (R32, R33). -/
structure MeuChan where
  bias : Int
  count : Nat
  flag : Bool
  deriving DecidableEq, Repr

/-- A pinion's tooth stamp pair (R35). -/
structure Teeth where
  newest : Option Tick
  previous : Option Tick
  deriving DecidableEq, Repr

/-- The measurement unit (chapter 2, state table). -/
structure Meu where
  interval : Option Interval
  sides : Pair MeuSide
  nextScan : Tick
  chans : Quad MeuChan
  pa : Qualifier
  pb : Qualifier
  ka : Qualifier
  kb : Qualifier
  ks : Qualifier
  teeth : Pair Teeth
  periodTaken : Period
  deriving DecidableEq, Repr

/-- One converter's part of the measurement unit at release (R38). -/
def meuSideRelease : MeuSide :=
  { average := 0, voltAverage := 0, accSum := 0, accCount := 0, mean := 0, lastSample := 0, rail := 0,
    sensorCond := false, overCond := false, voltCond := false }

/-- One vibration channel's part of the measurement unit at release (R38). -/
def meuChanRelease : MeuChan := { bias := 2097152, count := 0, flag := false }

/-- The measurement unit at release (R38). -/
def meuRelease (t : Tick) (pins : Pins) : Meu :=
  { interval := none, sides := ⟨meuSideRelease, meuSideRelease⟩, nextScan := t + BitVec.ofNat 32 scanTicks,
    chans := ⟨meuChanRelease, meuChanRelease, meuChanRelease, meuChanRelease⟩,
    pa := qualifierRelease pins.pa, pb := qualifierRelease pins.pb, ka := qualifierRelease pins.ka,
    kb := qualifierRelease pins.kb, ks := qualifierRelease pins.ks,
    teeth := ⟨⟨none, none⟩, ⟨none, none⟩⟩, periodTaken := 0#32 }

/-- A pending firing (R53). -/
structure Firing where
  thy : Thy
  originStamp : Tick
  period : Period
  angle : Nat
  stamp : Tick
  deriving DecidableEq, Repr

/-- A burst in progress (R55): the thyristor fired, which gives the gate pair; the lengths and the pulses remaining,
the current one counted; the phase; and the instant at which the phase ends. -/
structure Burst where
  thy : Thy
  onLen : Nat
  offLen : Nat
  remaining : Nat
  on : Bool
  phaseEnd : Tick
  deriving DecidableEq, Repr

/-- A fault capture (R58). -/
structure FaultCapture where
  period : Period
  thy : Thy
  angle : Nat
  current : Nat
  deriving DecidableEq, Repr

/-- A converter controller (chapter 3, state table). Bit n − 1 of `gates` is the gate line of thyristor Tn. -/
structure Conv where
  state : ConvState
  integ : Int
  lastAngle : Nat
  dither : Nat
  firings : List Firing
  burst : Option Burst
  gates : BitVec 6
  lastOrigin : Option Origin
  retardCount : Nat
  esc : Nat
  since : Nat
  fault : Bool
  capture : Option FaultCapture
  faultCond : Bool
  transCond : Bool
  deriving DecidableEq, Repr

/-- A converter controller at release, with its fault line at `fault` (R66). -/
def convRelease (fault : Bool) : Conv :=
  { state := .off, integ := integMin, lastAngle := 20480, dither := 0, firings := [], burst := none, gates := 0#6,
    lastOrigin := none, retardCount := 0, esc := 0, since := 0, fault := fault, capture := none,
    faultCond := false, transCond := false }

/-- The hold timer (R73, R74). -/
inductive HoldTimer where
  | stopped
  | running (count : Nat)
  | expired
  deriving DecidableEq, Repr

/-- What the speed and torque unit holds for one pinion and its motor (chapter 4, state table). -/
structure Motor where
  speed : Nat
  exclCount : Nat
  excluded : Bool
  q : Int
  thermal : Thermal
  limit : Nat
  share : Int
  iref : Nat
  sensorCond : Bool
  hotCond : Bool
  deriving DecidableEq, Repr

/-- What the unit published at its last period work and the record unit reads (R67, R159): the ramped reference, the
total demand, the envelope, the trim, and both accounts in 255ths of Qmax. The other values it publishes change at no
other moment (the speeds) or are published again as they change (the current references, R78, R82). -/
structure Published where
  rr : Nat
  td : Int
  tenv : Nat
  trim : Int
  coarseA : Int
  coarseB : Int
  deriving DecidableEq, Repr

/-- The speed and torque unit (chapter 4, state table). `window` is the breakaway window: none is CLOSED. -/
structure Stu where
  motors : Pair Motor
  s : Nat
  mismatch : Nat
  stationRef : Option Nat
  hold : HoldTimer
  rr : Nat
  y : Int
  td : Int
  window : Option Nat
  tenv : Nat
  trim : Int
  splitLimited : Bool
  stall : Nat
  grace : Bool
  mismatchCond : Bool
  overspeedCond : Bool
  holdCond : Bool
  breakCond : Bool
  lostCond : Bool
  stallCond : Bool
  pub : Published
  periodTaken : Period
  deriving DecidableEq, Repr

/-- One motor at release (R94). -/
def motorRelease : Motor :=
  { speed := 0, exclCount := 0, excluded := false, q := accountReset, thermal := .cool, limit := 0, share := 0,
    iref := 0, sensorCond := false, hotCond := false }

/-- What stands published at release: the values of R94, the account as 255ths of its Qmax (R159). -/
def publishedRelease : Published := { rr := 0, td := 0, tenv := 36045, trim := 0, coarseA := 127, coarseB := 127 }

/-- The speed and torque unit at release (R94). -/
def stuRelease : Stu :=
  { motors := ⟨motorRelease, motorRelease⟩, s := 0, mismatch := 0, stationRef := none, hold := .stopped, rr := 0,
    y := 0, td := 0, window := none, tenv := 36045, trim := 0, splitLimited := false, stall := 0, grace := false,
    mismatchCond := false, overspeedCond := false, holdCond := false, breakCond := false, lostCond := false,
    stallCond := false, pub := publishedRelease, periodTaken := 0#32 }

/-- The revolution accumulators of a channel (R101). -/
structure RevAcc where
  sums : List Int
  counts : List Nat
  sumSq : Nat
  total : Nat
  deriving DecidableEq, Repr

/-- Cleared accumulators: 64 bins of nothing (R96, R118). -/
def revAccClear : RevAcc := { sums := List.replicate 64 0, counts := List.replicate 64 0, sumSq := 0, total := 0 }

/-- A cleared average table: 64 bins at 0 (R112, R118). -/
def tableClear : List Int := List.replicate 64 0

/-- What a channel in UNREFERENCED holds: the state it left and its derate contribution on entry (R99). -/
structure Held where
  state : ChanState
  contribution : Nat
  deriving DecidableEq, Repr

/-- A vibration channel (chapter 5, state table). -/
structure VChan where
  state : ChanState
  held : Option Held
  phase : Phase
  lastMarker : Option Tick
  deadline : Option Tick
  trev : Option Nat
  table : List Int
  acc : RevAcc
  sync : Nat
  resid : Nat
  completed : Nat
  serial : Nat
  alert : Nat
  danger : Nat
  release : Nat
  contribution : Nat
  dangerCond : Bool
  sensorCond : Bool
  deriving DecidableEq, Repr

/-- A vibration channel at release (R118). -/
def vchanRelease : VChan :=
  { state := .paused, held := none, phase := .wait, lastMarker := none, deadline := none, trev := none,
    table := tableClear, acc := revAccClear, sync := 0, resid := 0, completed := 0, serial := 0, alert := 0,
    danger := 0, release := 0, contribution := 0, dangerCond := false, sensorCond := false }

/-- The vibration watch (chapter 5, state table), and `woken`, the model's own: the profiles that were staged for the
channels that the speeds of the period event at hand brought out of PAUSED, as they did so, until the watch takes that
event (R113, R186, R190; log entry 25). -/
structure Vwa where
  chans : Quad VChan
  level : Nat
  woken : Quad (Option SetValue)
  periodTaken : Period
  deriving DecidableEq, Repr

/-- No channel with a staged profile has been brought out of PAUSED since the watch took its last period event. -/
def noneWoken : Quad (Option SetValue) := ⟨none, none, none, none⟩

/-- The vibration watch at release (R118). -/
def vwaRelease : Vwa :=
  { chans := ⟨vchanRelease, vchanRelease, vchanRelease, vchanRelease⟩, level := 0, woken := noneWoken,
    periodTaken := 0#32 }

/-- The coast timer (R126, R127). -/
inductive CoastTimer where
  | stopped
  | running (count : Nat)
  | expired
  deriving DecidableEq, Repr

/-- The release wait (R135, R136). -/
inductive ReleaseWait where
  | none
  | zeroWait (decay : Nat)
  | delay (count : Nat) (decay : Nat)
  deriving DecidableEq, Repr

/-- The drive sequencer (chapter 6, state table). -/
structure Dsq where
  drive : Drive
  enable : Bool
  contactor : Bool
  closeCount : Nat
  coast : CoastTimer
  exit : ExitReason
  wait : ReleaseWait
  auxEn : Bool
  lossCond : Bool
  decayCond : Bool
  periodTaken : Period
  deriving DecidableEq, Repr

/-- The drive sequencer at release (R139). -/
def dsqRelease : Dsq :=
  { drive := .blocked, enable := false, contactor := false, closeCount := 0, coast := .stopped, exit := .none,
    wait := .none, auxEn := false, lossCond := false, decayCond := false, periodTaken := 0#32 }

/-- An entry of the latched set: a kind and the class it was latched with (R144). -/
structure Latch where
  kind : Cause
  cls : Class
  deriving DecidableEq, Repr

/-- The protection unit (chapter 7, state table). The sets of kinds are lists in the order of the codes, each kind
at most once. -/
structure Pru where
  active : Bool
  cls : Option Class
  firstOut : Option Cause
  latched : List Latch
  record : Option Nat
  warnings : List Cause
  view : List Cause
  permit : Bool
  permitCount : Nat
  lostCond : Bool
  stationCond : Bool
  extCond : Bool
  ext : Qualifier
  trip : Bool
  driveView : Drive
  periodTaken : Period
  deriving DecidableEq, Repr

/-- The protection unit at release, before EXT_TRIP is reported where its line is active (R154, R158). -/
def pruRelease (ext : Bool) : Pru :=
  { active := false, cls := none, firstOut := none, latched := [], record := none, warnings := [], view := [],
    permit := false, permitCount := 0, lostCond := false, stationCond := false, extCond := false,
    ext := qualifierRelease ext, trip := false, driveView := .blocked, periodTaken := 0#32 }

/-- A history entry (R159). -/
structure Entry where
  period : Period
  s : Nat
  rr : Nat
  td : Int
  tenv : Nat
  irefA : Nat
  irefB : Nat
  meanA : Nat
  meanB : Nat
  angleA : Nat
  angleB : Nat
  convA : ConvState
  convB : ConvState
  trim : Int
  level : Nat
  drive : Drive
  sync : SyncState
  coarseA : Int
  coarseB : Int
  chans : Quad ChanState
  warningCount : Nat
  latchedCount : Nat
  deriving DecidableEq, Repr

/-- An item of the subsequent-cause list: the kind and the period number of its report. The offset of R167 is the
report's period number less the trigger period number. -/
structure SubCause where
  kind : Cause
  period : Period
  deriving DecidableEq, Repr

/-- A set of stations (R160: interest set and read marks). -/
structure StationSet where
  c : Bool
  p : Bool
  m : Bool
  deriving DecidableEq, Repr

/-- A record: its header and its entries (section 8.2). "Entries held" is the length of `entries`; `sealed` is the
state SEALED, otherwise FILLING. -/
structure Record where
  number : Nat
  kind : RecordKind
  requester : Option Station
  trigger : Option Period
  firstOut : Option Cause
  cls : Option Class
  subs : List SubCause
  overflow : Nat
  pre : Nat
  post : Nat
  entries : List Entry
  driveAt : Drive
  capA : Option FaultCapture
  capB : Option FaultCapture
  truncated : Bool
  interest : StationSet
  marks : StationSet
  isSealed : Bool
  deriving DecidableEq, Repr

/-- A read cursor (R175). -/
structure Cursor where
  number : Nat
  slot : SlotIx
  pos : Nat
  deriving DecidableEq, Repr

/-- The record unit (chapter 8, state table). A slot that holds none is FREE. -/
structure Rcu where
  ring : List Entry
  slots : Six (Option Record)
  age : List SlotIx
  counter : Nat
  filling : Option SlotIx
  pinned : Option Nat
  latest : Pair (Option FaultCapture)
  cursors : Triple (Option Cursor)
  mark : Bool
  driveView : Drive
  periodTaken : Period
  deriving DecidableEq, Repr

/-- The record unit at power-on (R179). -/
def rcuRelease : Rcu :=
  { ring := [], slots := ⟨none, none, none, none, none, none⟩, age := [], counter := 1, filling := none,
    pinned := none, latest := ⟨none, none⟩, cursors := ⟨none, none, none⟩, mark := false, driveView := .blocked,
    periodTaken := 0#32 }

/-- The settings table (chapter 9): active and staged values, identifier 1 first. -/
structure SetTable where
  active : List SetValue
  staged : List (Option SetValue)
  driveView : Drive
  periodTaken : Period
  deriving DecidableEq, Repr

/-- The settings table at release: every default active, nothing staged (R190). -/
def setRelease : SetTable :=
  { active := catalogue.map (fun r => formDefault r.form), staged := List.replicate 87 none,
    driveView := .blocked, periodTaken := 0#32 }

/-- The receive state and the frame in reception (R193): the body is kept in the order received. -/
inductive RxState where
  | hunt
  | length
  | body (len : Nat) (got : List Byte)
  | check (body : List Byte) (high : Option Byte)
  deriving DecidableEq, Repr

/-- The low stretch of a receive line that the break timer runs over (R197), and those that follow it while the receiver
waits for the line to be high for a bit time (R191): whether a framing error was found in them, and whether the break of
the first has reset the link. -/
structure LowLine where
  run : LowRun
  error : Bool
  served : Bool
  deriving DecidableEq, Repr

/-- A complete request (R194). -/
structure Request where
  kind : Byte
  tag : Byte
  payload : List Byte
  deriving DecidableEq, Repr

/-- A reply in transmission: its frame and the instant at which its transmission began (R196). -/
structure Reply where
  frame : List Byte
  started : Tick
  deriving DecidableEq, Repr

/-- A link unit (chapter 10, state table). `low` is the last low stretch of its receive line that gave a framing error or
stood at release, while it bears on what the link receives (R191, R197); none is a line that rests high. `cut` is what
the transmit line still carries of a reply cut by a link reset: the bytes begun by then (R197). -/
structure Link where
  rx : RxState
  gap : Option Tick
  low : Option LowLine
  waiting : Option Request
  reply : Option Reply
  cut : Option Reply
  notices : List Notice
  attention : Bool
  deriving DecidableEq, Repr

/-- The low stretch of a receive line at release, `n` ticks long (R198). -/
def lowRelease (t : Tick) (n : Nat) : Option LowLine :=
  if n = 0 then none else some { run := { span := { start := t, length := n }, dips := [] }, error := false, served := false }

/-- A link unit at release at `t`, with its receive line still low for `n` ticks (R198). -/
def linkRelease (t : Tick) (n : Nat) : Link :=
  { rx := .hunt, gap := none, low := lowRelease t n, waiting := none,
    reply := none, cut := none, notices := [.restarted], attention := true }

/-- The three link units at release (R198). -/
def linksRelease (t : Tick) (pins : Pins) : Triple Link :=
  ⟨linkRelease t pins.rxC, linkRelease t pins.rxP, linkRelease t pins.rxM⟩

/-- The link rate the straps give (R191). -/
def rateOf (rsel1 rsel0 : Bool) : LinkRate :=
  match rsel1, rsel0 with
  | false, false => .r500k
  | false, true => .r1M
  | true, false => .r2M
  | true, true => .r500k

end Sys2Proof.Machine
end

