-- ==== Sys2Proof/Machine/State.lean ====
section
/-! DEFINITION. The state of the KC440: every block's state (`Machine/Blocks.lean`), the timebase, the link rate and
the queue of waiting commands; the reasons a step could stop; and the state right after power-on. -/

namespace Sys2Proof.Machine

/-- The whole part. -/
structure State where
  /-- the 10 MHz timebase (00_scope, units) -/
  now : Tick
  /-- the link rate read from the straps (R191) -/
  rate : LinkRate
  msy : Msy
  meu : Meu
  cca : Conv
  ccb : Conv
  stu : Stu
  vwa : Vwa
  dsq : Dsq
  pru : Pru
  rcu : Rcu
  set : SetTable
  links : Triple Link
  /-- what the coming reference edge was issued with, where a block has taken it ahead of REFERENCE_EDGE (R11, R17; the
  model's own, log entry 7) -/
  issued : Option EdgeIssue
  /-- the commands that wait, first in, first out (the model's own) -/
  pending : List Instr
  deriving DecidableEq, Repr

/-- The faults. The manual gives the part no fault that stops it, and no command of the model raises one. -/
inductive Fault where
  /-- Raised by no command: it stands so that the type has a name for a stop (safe: it is never given). -/
  | neverRaised
  deriving DecidableEq, Repr

/-- The refusals. -/
inductive Refusal where
  /-- Raised by `exec` for a command that has no meaning yet (safe: the machine stops); no arm gives it now. -/
  | notModelled (mnemonic : String)
  deriving DecidableEq, Repr

/-- The part right after power-on (R21, R38, R66, R94, R118, R139, R158, R179, R190, R198), released at the tick and
with the raw levels that `Config` names (log entries 2 and 3). -/
def State.reset : State :=
  { now := Config.resetTick, rate := rateOf Config.resetPins.rsel1 Config.resetPins.rsel0,
    msy := msyRelease Config.resetTick Config.resetPins, meu := meuRelease Config.resetTick Config.resetPins,
    cca := convRelease Config.resetPins.faultA, ccb := convRelease Config.resetPins.faultB, stu := stuRelease,
    vwa := vwaRelease, dsq := dsqRelease, pru := pruRelease Config.resetPins.extTrip, rcu := rcuRelease,
    set := setRelease, links := linksRelease Config.resetTick Config.resetPins, issued := none, pending := [] }

end Sys2Proof.Machine
end

