-- ==== Sys2Proof/Machine/Ops.lean ====
section
/-! DEFINITION. The operations every block shares: the accessors of the grouped values, ordered lists without repeats,
the messages a block sends, the order in which coinciding takings fall, and qualification (R3). -/

namespace Sys2Proof.Machine

/-- The value of side `x`. -/
def Pair.get {α : Type} (p : Pair α) : Side → α
  | .a => p.a
  | .b => p.b

/-- The pair with the value of side `x` replaced. -/
def Pair.put {α : Type} (p : Pair α) (x : Side) (v : α) : Pair α :=
  match x with
  | .a => { p with a := v }
  | .b => { p with b := v }

/-- A function applied to both values. -/
def Pair.map {α β : Type} (f : α → β) (p : Pair α) : Pair β := ⟨f p.a, f p.b⟩

/-- The value of channel `n`. -/
def Quad.get {α : Type} (q : Quad α) : Chan → α
  | .c0 => q.c0
  | .c1 => q.c1
  | .c2 => q.c2
  | .c3 => q.c3

/-- The four values with that of channel `n` replaced. -/
def Quad.put {α : Type} (q : Quad α) (n : Chan) (v : α) : Quad α :=
  match n with
  | .c0 => { q with c0 := v }
  | .c1 => { q with c1 := v }
  | .c2 => { q with c2 := v }
  | .c3 => { q with c3 := v }

/-- The value of station `k`. -/
def Triple.get {α : Type} (q : Triple α) : Station → α
  | .c => q.c
  | .p => q.p
  | .m => q.m

/-- The three values with that of station `k` replaced. -/
def Triple.put {α : Type} (q : Triple α) (k : Station) (v : α) : Triple α :=
  match k with
  | .c => { q with c := v }
  | .p => { q with p := v }
  | .m => { q with m := v }

/-- The value of slot `i`. -/
def Six.get {α : Type} (q : Six α) : SlotIx → α
  | .s0 => q.s0
  | .s1 => q.s1
  | .s2 => q.s2
  | .s3 => q.s3
  | .s4 => q.s4
  | .s5 => q.s5

/-- The six values with that of slot `i` replaced. -/
def Six.put {α : Type} (q : Six α) (i : SlotIx) (v : α) : Six α :=
  match i with
  | .s0 => { q with s0 := v }
  | .s1 => { q with s1 := v }
  | .s2 => { q with s2 := v }
  | .s3 => { q with s3 := v }
  | .s4 => { q with s4 := v }
  | .s5 => { q with s5 := v }

/-- Whether station `k` is in a set of stations. -/
def StationSet.has (z : StationSet) : Station → Bool
  | .c => z.c
  | .p => z.p
  | .m => z.m

/-- A set of stations with `k` added. -/
def StationSet.add (z : StationSet) (k : Station) : StationSet :=
  match k with
  | .c => { z with c := true }
  | .p => { z with p := true }
  | .m => { z with m := true }

/-- The empty set of stations. -/
def StationSet.empty : StationSet := { c := false, p := false, m := false }

/-- Every station of `z` is in `y`. -/
def StationSet.within (z y : StationSet) : Bool := (!z.c || y.c) && (!z.p || y.p) && (!z.m || y.m)

/-- The first occurrences of a list's items, in order. -/
def firsts {α : Type} [DecidableEq α] : List α → List α
  | [] => []
  | x :: xs => x :: (firsts xs).filter (fun y => decide (y ≠ x))

/-- An order of the items of `all`: those `named`, as named, and then the others. -/
def orderOf {α : Type} [DecidableEq α] (named all : List α) : List α :=
  (firsts named).filter (fun x => all.contains x) ++ all.filter (fun x => !named.contains x)

/-- The blocks that take a period event, in the default order. -/
def allBlocks : List Block := [.meu, .stu, .vwa, .dsq, .pru, .set, .rcu]

/-- The receivers of an origin, in the default order. -/
def allOriginTakers : List OriginTaker := [.meu, .cca, .ccb]

/-- A taking of reports or of trip demands, which a sequence names or does not. -/
def collects : Taking → Bool
  | .period _ | .origin _ => false
  | .report _ | .demand => true

/-- A sequence of the takings of `all` in the order `o` gives, with the takings of reports and demands that it names. -/
def takingsOf (all : List Taking) (o : Sched) : List Taking :=
  (firsts o.takings).filter (fun k => collects k || all.contains k) ++ all.filter (fun k => !o.takings.contains k)

/-- The takings of a period event, in the order `o` gives. -/
def periodTakings (o : Sched) : List Taking := takingsOf (allBlocks.map Taking.period) o

/-- The takings of a period event and of the origin that falls with it, in the order `o` gives (R17, R27, R47). -/
def bothTakings (o : Sched) : List Taking :=
  takingsOf (allBlocks.map Taking.period ++ allOriginTakers.map Taking.origin) o

/-- The takings of an origin, in the order `o` gives (R25, R47). -/
def originTakings (o : Sched) : List Taking := takingsOf (allOriginTakers.map Taking.origin) o

/-- The takings that `o` has fall after an event at the instant of a period event, and no others: the blocks named take
that period event ahead of the rest (R90). -/
def aheadTakings (o : Sched) : List Taking :=
  (firsts o.takings).filter (fun k => collects k || (allBlocks.map Taking.period).contains k)

/-- The channels of the vibration watch, in the order `o` gives. -/
def chanOrder (o : Sched) : List Chan := orderOf o.channels allChans

/-- Whether `o` has some receiver take the coinciding origin within the period event. -/
def namesOrigin (o : Sched) : Bool :=
  o.takings.any (fun k => match k with | .origin _ => true | .period _ | .report _ | .demand => false)

/-- A message of one block to the others: a condition published, a report (R140), a notice raised (R199), a fault
capture handed to the record unit (R58). -/
inductive Msg where
  | cond (k : Cause) (holding : Bool)
  | report (k : Cause) (n : Period)
  | notice (k : Notice) (st : Station)
  | capture (x : Side) (c : FaultCapture)
  deriving DecidableEq, Repr

/-- The kind that a message reports, where it is a report. -/
def reportKind : Msg → Option Cause
  | .report k _ => some k
  | .cond _ _ => none
  | .notice _ _ => none
  | .capture _ _ => none

/-- The messages of a condition that goes from `old` to `new`: published at each change, and reported when it goes
from clear to holding (R140), with the period number `n`. -/
def condMsgs (k : Cause) (n : Period) (old new : Bool) : List Msg :=
  if new && !old then [.cond k true, .report k n] else if old && !new then [.cond k false] else []

/-- The messages of one block in the order `o` has them reach the protection unit (R148): what is no report first, so
that a change of a condition is published before anything that a report of the same work brings about (R84, R140), then
the reports of the kinds that `o` names, then the other reports as they were sent. -/
def orderMsgs (o : Sched) (ms : List Msg) : List Msg :=
  ms.filter (fun m => (reportKind m).isNone) ++
  (firsts o.reports).flatMap (fun k => ms.filter (fun m => decide (reportKind m = some k))) ++
  ms.filter (fun m => match reportKind m with | none => false | some k => !o.reports.contains k)

/-- A raw transition to `level` at `t` (R3): a change away from the qualified level starts a candidate, a return to
the qualified level drops it. A raw edge to the level the candidate already has is no transition. -/
def qualRaw (level : Bool) (t : Tick) (q : Qualifier) : Qualifier :=
  if level = q.level then { q with cand := none }
  else match q.cand with
    | none => { q with cand := some { level := level, stamp := t } }
    | some _ => q

/-- The candidate of a qualifier has persisted `n` ticks by `t`. -/
def qualDue (n : Nat) (t : Tick) (q : Qualifier) : Bool :=
  match q.cand with
  | none => false
  | some c => decide (n ≤ since t c.stamp)

/-- The qualified level takes the candidate's level (R3). -/
def qualTake (c : Candidate) : Qualifier := { level := c.level, cand := none }

end Sys2Proof.Machine
end

