-- ==== Sys2Proof/Machine/Operands.lean ====
section
/-! DEFINITION. What a rule reads: the active value of each setting by its name in the catalogue (section 9.1), and the
operands of a request's payload in the layouts of chapter 11 (R202, R203). -/

namespace Sys2Proof.Machine

/-- The active value of setting `id`, where it is a number or a code. -/
def SetTable.num (z : SetTable) (id : Nat) : Nat :=
  match z.active[id - 1]? with
  | some (.num n) => n
  | some (.code n) => n
  | _ => 0

/-- The active profile of channel `n` (identifiers 63 to 66). -/
def SetTable.profile (z : SetTable) (n : Chan) : Profile :=
  match z.active[62 + chanNumber n]? with
  | some (.profile p) => p
  | _ => profileDefault .ka

/-- The active action of channel `n` (identifiers 67 to 70). -/
def SetTable.action (z : SetTable) (n : Chan) : Action :=
  match z.active[66 + chanNumber n]? with
  | some (.action a) => a
  | _ => actionDefault

def SetTable.settleCount (z : SetTable) : Nat := z.num 1
def SetTable.windowHalf (z : SetTable) : Nat := z.num 2
def SetTable.holdover (z : SetTable) : Nat := z.num 3
def SetTable.originOffset (z : SetTable) : Nat := z.num 4
def SetTable.currentOffset (z : SetTable) : Side → Nat
  | .a => z.num 5
  | .b => z.num 6
def SetTable.currentGain (z : SetTable) : Side → Nat
  | .a => z.num 7
  | .b => z.num 8
def SetTable.voltOffset (z : SetTable) : Side → Nat
  | .a => z.num 9
  | .b => z.num 10
def SetTable.voltGain (z : SetTable) : Side → Nat
  | .a => z.num 11
  | .b => z.num 12
def SetTable.itrip (z : SetTable) : Side → Nat
  | .a => z.num 13
  | .b => z.num 14
def SetTable.uover (z : SetTable) : Side → Nat
  | .a => z.num 15
  | .b => z.num 16
def SetTable.biasLow (z : SetTable) : Nat := z.num 17
def SetTable.biasHigh (z : SetTable) : Nat := z.num 18
def SetTable.kp (z : SetTable) : Nat := z.num 19
def SetTable.ki (z : SetTable) : Nat := z.num 20
def SetTable.alphaMin (z : SetTable) : Nat := z.num 21
def SetTable.alphaMax (z : SetTable) : Nat := z.num 22
def SetTable.pulseOn (z : SetTable) : Nat := z.num 23
def SetTable.pulseOff (z : SetTable) : Nat := z.num 24
def SetTable.burstCount (z : SetTable) : Nat := z.num 25
def SetTable.zeroThreshold (z : SetTable) : Nat := z.num 26
def SetTable.retardLimit (z : SetTable) : Nat := z.num 27
def SetTable.escLimit (z : SetTable) : Nat := z.num 28
/-- The fault response of a converter, by its code (section 11.1). -/
def SetTable.response (z : SetTable) (x : Side) : Response :=
  match z.num (match x with | .a => 29 | .b => 30) with
  | 0 => .skip
  | 1 => .retardResume
  | 2 => .retardBlock
  | _ => .block
def SetTable.toothInterval (z : SetTable) : Nat := z.num 31
def SetTable.zeroSpeedTimeout (z : SetTable) : Nat := z.num 32
def SetTable.speedMax (z : SetTable) : Nat := z.num 33
def SetTable.accel (z : SetTable) : Nat := z.num 34
def SetTable.decel (z : SetTable) : Nat := z.num 35
def SetTable.holdTime (z : SetTable) : Nat := z.num 36
def SetTable.fallback (z : SetTable) : Nat := z.num 37
def SetTable.kpS (z : SetTable) : Nat := z.num 38
def SetTable.kiS (z : SetTable) : Nat := z.num 39
def SetTable.share (z : SetTable) : Nat := z.num 40
def SetTable.trimLimit (z : SetTable) : Nat := z.num 41
def SetTable.trimGain (z : SetTable) : Nat := z.num 42
def SetTable.tripDecel (z : SetTable) : Nat := z.num 43
def SetTable.overspeed (z : SetTable) : Nat := z.num 44
def SetTable.mismatchTol (z : SetTable) : Nat := z.num 45
def SetTable.mismatchCount (z : SetTable) : Nat := z.num 46
def SetTable.breakSpeed (z : SetTable) : Nat := z.num 47
def SetTable.breakTime (z : SetTable) : Nat := z.num 48
def SetTable.tbreak (z : SetTable) : Nat := z.num 49
def SetTable.tgear (z : SetTable) : Nat := z.num 50
/-- The factor f of R79: 256 at derate level 0, and derate factor 1, 2 or 3 at the levels 1 to 3. -/
def SetTable.derateFactor (z : SetTable) : Nat → Nat
  | 0 => 256
  | 1 => z.num 51
  | 2 => z.num 52
  | _ => z.num 53
def SetTable.tpin (z : SetTable) : Nat := z.num 54
def SetTable.icont (z : SetTable) : Nat := z.num 55
def SetTable.imax (z : SetTable) : Nat := z.num 56
def SetTable.kt (z : SetTable) : Nat := z.num 57
def SetTable.qmax (z : SetTable) : Nat := z.num 58
def SetTable.qwarn (z : SetTable) : Nat := z.num 59
def SetTable.stallSpeed (z : SetTable) : Nat := z.num 60
def SetTable.stallCount (z : SetTable) : Nat := z.num 61
/-- The single-drive setting is YES. -/
def SetTable.singleDrive (z : SetTable) : Bool := decide (z.num 62 = 1)
def SetTable.watchMin (z : SetTable) : Nat := z.num 71
def SetTable.closeDelay (z : SetTable) : Nat := z.num 72
def SetTable.stopSpeed (z : SetTable) : Nat := z.num 73
def SetTable.coastTime (z : SetTable) : Nat := z.num 74
def SetTable.releaseDelay (z : SetTable) : Nat := z.num 75
def SetTable.decayTime (z : SetTable) : Nat := z.num 76
def SetTable.permitWindow (z : SetTable) : Nat := z.num 77
/-- The class of code `n` (section 11.1). -/
def classOf : Nat → Class
  | 1 => .b
  | 2 => .f
  | 3 => .s
  | _ => .w
/-- The class in force of a kind (R140): its class setting where it has one (R141), otherwise the catalogue's. -/
def SetTable.classInForce (z : SetTable) : Cause → Class
  | .convFault _ => .f
  | .convTransient _ => .w
  | .overcurrent _ => classOf (z.num 78)
  | .overvoltage _ => classOf (z.num 79)
  | .currentSensor _ => .f
  | .mainsSequence => .s
  | .mainsLoss => .s
  | .pinionMismatch => classOf (z.num 80)
  | .speedSensor _ => .w
  | .overspeed => classOf (z.num 81)
  | .stall => classOf (z.num 82)
  | .breakawayFailed => .s
  | .converterLost => .s
  | .thermalHot _ => .w
  | .vibDanger _ => .s
  | .vibSensor _ => .w
  | .permitLost => classOf (z.num 83)
  | .stationTrip => .b
  | .extTrip => classOf (z.num 84)
  | .currentNotDecaying => .b
  | .referenceHold => .w
def SetTable.preCount (z : SetTable) : Nat := z.num 85
def SetTable.postCount (z : SetTable) : Nat := z.num 86
/-- The take-trip-records setting is YES. -/
def SetTable.takeTrips (z : SetTable) : Bool := decide (z.num 87 = 1)

/-- A number from bytes sent high byte first (R202). -/
def beNat (bs : List Byte) : Nat := bs.foldl (fun n v => n * 256 + v.toNat) 0

/-- The reference marker of a code (section 11.1). -/
def markerOf : Nat → Option Marker
  | 0 => some .ka
  | 1 => some .kb
  | 2 => some .ks
  | _ => none

/-- A profile from its 13 bytes (section 11.5); none where the marker holds no code of its enumeration. -/
def readProfile : List Byte → Option Profile
  | [mk, w, sa1, sa0, sd1, sd0, ra1, ra0, rd1, rd0, na, nd, nr] =>
    match markerOf mk.toNat with
    | none => none
    | some k => some { marker := k, w := w.toNat, syncAlert := beNat [sa1, sa0], syncDanger := beNat [sd1, sd0],
                       residAlert := beNat [ra1, ra0], residDanger := beNat [rd1, rd0],
                       nAlert := na.toNat, nDanger := nd.toNat, nRelease := nr.toNat }
  | _ => none

/-- An action from its 3 bytes (section 11.5); none where the danger action holds no code of its enumeration. -/
def readAction : List Byte → Option Action
  | [al, da, fl] =>
    match da.toNat with
    | 0 => some { alertLevel := al.toNat, dangerTrip := true, faultLevel := fl.toNat }
    | 1 => some { alertLevel := al.toNat, dangerTrip := false, faultLevel := fl.toNat }
    | _ => none
  | _ => none

/-- The value field of a PUT SETTING in the form of its setting (R181, tests 3 and 4; R203): a number of 4 bytes, a
code of 1 byte of the enumeration, a profile of 13 bytes, an action of 3. -/
def readValue : Form → List Byte → Option SetValue
  | .num _ _ _, bs => if bs.length = 4 then some (.num (beNat bs)) else none
  | .code cs _, [v] => if cs.contains v.toNat then some (.code v.toNat) else none
  | .code _ _, _ => none
  | .profile _, bs => (readProfile bs).map SetValue.profile
  | .action _, bs => (readAction bs).map SetValue.action

end Sys2Proof.Machine
end

