-- ==== Sys2Proof/Machine/Converter.lean ====
section
/-! DEFINITION. A converter controller (chapter 3): its states, the current regulator, pending firings, gate bursts,
fault responses and escalation. -/

namespace Sys2Proof.Machine

/-- The gate line of thyristor `y` in the six lines of a controller. -/
def gateBit (y : Thy) : BitVec 6 := 1#6 <<< (thyNumber y - 1)

/-- The two lines of a burst for thyristor `y` (R55). -/
def gatePair (y : Thy) : BitVec 6 := gateBit y ||| gateBit (thyBefore y)

/-- The synchroniser is in a state in which the converters may enter FIRING (R40). -/
def firingAllowed (sync : SyncState) : Bool := decide (sync = .locked) || decide (sync = .holdover)

/-- An entry into OFF (R42): pending firings withdrawn, any burst cut and the lines released, the retard firing count 0,
and CONV_x_FAULT clear where the line is inactive (R63). -/
def convOff (c : Conv) : Conv :=
  { c with state := .off, firings := [], burst := none, gates := 0#6, retardCount := 0,
           faultCond := c.faultCond && c.fault }

/-- "Enable given" (R40), with the sync state as it stands. -/
def convEnable (sync : SyncState) (c : Conv) : Conv :=
  match c.state with
  | .off => if firingAllowed sync && !c.fault then { c with state := .firing, integ := integMin } else c
  | .retard => if firingAllowed sync then { c with state := .firing, integ := integMin } else c
  | .firing => c
  | .held => c

/-- "Enable withdrawn" (R41). -/
def convDisable (c : Conv) : Conv :=
  match c.state with
  | .firing => { c with state := .retard, retardCount := 0 }
  | .held => { c with state := .retard, retardCount := 0 }
  | .off => c
  | .retard => c

/-- The candidate integrator I' (R48, step 2). -/
def integCandidate (ki : Nat) (e i : Int) : Int := clampInt integMin integMax (i + (ki : Int) * e)

/-- The voltage demand u (R48, steps 3 and 4). -/
def demandU (kp : Nat) (e i' : Int) : Int :=
  clampInt (-16384) 16384 (tdiv ((kp : Int) * e) 256 + tdiv i' 256)

/-- The raw angle for a demand u by the arccos table (R49). -/
def rawAngle (u : Int) : Nat :=
  let v := (u + 16384).toNat
  if v / 128 = 256 then 0
  else arccosAt (v / 128) - ((arccosAt (v / 128) - arccosAt (v / 128 + 1)) * (v % 128) + 64) / 128

/-- The integrator is held (R50). -/
def integHeld (amin amax araw : Nat) (e : Int) : Bool :=
  (decide (amax < araw) && decide (e < 0)) || (decide (araw < amin) && decide (0 < e))

/-- The delay of a firing and the dither accumulator after it (R51). -/
def ditherDelay (angle length dither : Nat) : Nat × Nat :=
  let m := angle * length % anglePeriod
  let q := angle * length / anglePeriod
  if anglePeriod ≤ dither + m then (q + 1, dither + m - anglePeriod) else (q, dither + m)

/-- A firing joins the list of pending firings (R53): every record whose instant is at or after the new one's is
withdrawn first. -/
def joinFiring (f : Firing) (fs : List Firing) : List Firing := fs.filter (fun k => before k.stamp f.stamp) ++ [f]

/-- A firing at `angle` for the origin `g` is scheduled; the angle becomes the last angle (R50 to R53). -/
def convSchedule (angle : Nat) (g : Origin) (c : Conv) : Conv :=
  { c with lastAngle := angle, dither := (ditherDelay angle g.length c.dither).2,
           firings := joinFiring { thy := g.thy, originStamp := g.stamp, period := g.period, angle := angle,
                                   stamp := plus g.stamp (ditherDelay angle g.length c.dither).1 } c.firings }

/-- One step of the current regulator for the origin `g` (R47 to R53). -/
def convRegulate (z : SetTable) (iref imeas : Nat) (g : Origin) (c : Conv) : Conv :=
  let e : Int := (iref : Int) - (imeas : Int)
  let i' := integCandidate z.ki e c.integ
  let araw := rawAngle (demandU z.kp e i')
  convSchedule (clampNat z.alphaMin z.alphaMax araw) g
    { c with integ := if integHeld z.alphaMin z.alphaMax araw e then c.integ else i' }

/-- The stop test of RETARD (R44). -/
def retardDone (z : SetTable) (imeas : Nat) (c : Conv) : Bool :=
  decide (imeas ≤ z.zeroThreshold) || decide (z.retardLimit ≤ c.retardCount)

/-- A real origin taken by the controller in its state (R44, R45, R47). -/
def convRealOrigin (z : SetTable) (iref imeas : Nat) (g : Origin) (c : Conv) : Conv :=
  match c.state with
  | .off => c
  | .firing => convRegulate z iref imeas g c
  | .retard => if retardDone z imeas c then convOff c else convSchedule z.alphaMax g c
  | .held => convSchedule z.alphaMax g c

/-- An origin taken by the controller (R39): it becomes the last origin; a substitute origin does nothing more. -/
def convOrigin (z : SetTable) (iref imeas : Nat) (g : Origin) (c : Conv) : Conv :=
  match g.kind with
  | .real => convRealOrigin z iref imeas g { c with lastOrigin := some g }
  | .substitute => { c with lastOrigin := some g }

/-- The firings since arrival and the escalation counter after one more firing (R62). -/
def countFiring (c : Conv) : Conv :=
  if 64 ≤ c.since + 1 then { c with since := 0, esc := c.esc - 1, transCond := c.transCond && decide (1 < c.esc) }
  else { c with since := c.since + 1 }

/-- The burst that starts for `y` at `t`, with the settings in force (R55). -/
def startBurst (z : SetTable) (y : Thy) (t : Tick) : Burst :=
  { thy := y, onLen := z.pulseOn, offLen := z.pulseOff, remaining := z.burstCount, on := true,
    phaseEnd := plus t z.pulseOn }

/-- The first pending firing `f` is issued (R54, R56): any burst is cut, its own burst starts, the retard firing count
counts it in RETARD (0 to 60), and it is counted in the firings since arrival. -/
def convIssue (z : SetTable) (f : Firing) (c : Conv) : Conv :=
  countFiring
    { c with firings := c.firings.tail, burst := some (startBurst z f.thy f.stamp), gates := gatePair f.thy,
             retardCount := if c.state = .retard then min (c.retardCount + 1) 60 else c.retardCount }

/-- The phase of the burst `b` ends (R55). -/
def convPhaseEnd (b : Burst) (c : Conv) : Conv :=
  if b.on then
    { c with burst := some { b with on := false, phaseEnd := plus b.phaseEnd b.offLen }, gates := 0#6 }
  else if b.remaining ≤ 1 then { c with burst := none, gates := 0#6 }
  else
    { c with burst := some { b with on := true, remaining := b.remaining - 1, phaseEnd := plus b.phaseEnd b.onLen },
             gates := gatePair b.thy }

/-- The fault capture of an arrival at `t` after the origin `g` (R58). -/
def captureOf (t : Tick) (current : Nat) (g : Origin) : FaultCapture :=
  { period := g.period, thy := g.thy, angle := min (since t g.stamp * anglePeriod / g.length) 49151,
    current := current }

/-- SKIP's suppression (R59): the record of the last origin, where that origin is real. -/
def suppressFiring (c : Conv) : List Firing :=
  match c.lastOrigin with
  | none => c.firings
  | some g =>
    match g.kind with
    | .real => c.firings.filter (fun f => !(decide (f.thy = g.thy) && decide (f.period = g.period)))
    | .substitute => c.firings

/-- The answer RETARD_BLOCK (R59): RETARD from FIRING with the retard firing count 0, and CONV_x_FAULT (R63). -/
def convRetardBlock (c : Conv) : Conv :=
  match c.state with
  | .firing => { c with state := .retard, retardCount := 0, faultCond := true }
  | _ => { c with faultCond := true }

/-- The escalation counter incremented, saturating at 16 (R61), with the condition CONV_x_TRANSIENT (R62). -/
def escalated (c : Conv) : Conv := { c with esc := min (c.esc + 1) 16, transCond := true }

/-- The response to an arrival, as modified by the escalation (R59, R61). BLOCK enters OFF with the line active, so
CONV_x_FAULT stays holding (R63). -/
def convRespond (z : SetTable) (x : Side) (c : Conv) : Conv :=
  match z.response x with
  | .skip =>
    if z.escLimit ≤ (escalated c).esc then convRetardBlock (escalated c)
    else { escalated c with firings := suppressFiring c }
  | .retardResume =>
    if z.escLimit ≤ (escalated c).esc then convRetardBlock (escalated c)
    else match c.state with
      | .firing => { escalated c with state := .held }
      | _ => escalated c
  | .retardBlock => convRetardBlock c
  | .block => convOff { c with faultCond := true }

/-- What of the controller its conditions are read from: the messages of an arrival or a clear (R62, R63), with the
period number of the last origin taken (R140). -/
def convMsgs (x : Side) (old new : Conv) : List Msg :=
  condMsgs (.convTransient x) (match new.lastOrigin with | none => 0#32 | some g => g.period) old.transCond new.transCond ++
  condMsgs (.convFault x) (match new.lastOrigin with | none => 0#32 | some g => g.period) old.faultCond new.faultCond

/-- The capture handed on by an arrival (R57, R58): none where no origin has been taken yet. -/
def arrivalCapture (t : Tick) (current : Nat) (c : Conv) : Option FaultCapture :=
  c.lastOrigin.map (captureOf t current)

/-- An arrival in FIRING or RETARD (R57): the capture, the firings since arrival, then the response. -/
def convArrivalActive (z : SetTable) (x : Side) (t : Tick) (current : Nat) (c : Conv) : Conv × List Msg :=
  let c1 := { c with fault := true, since := 0, capture := (arrivalCapture t current c).or c.capture }
  (convRespond z x c1,
   (match arrivalCapture t current c with | none => [] | some k => [Msg.capture x k]) ++
   convMsgs x c (convRespond z x c1))

/-- The fault line of the controller goes active at `t` (R57). No arrival can reach HELD (R45); there and in OFF only
the recorded level changes. -/
def convArrival (z : SetTable) (x : Side) (t : Tick) (current : Nat) (c : Conv) : Conv × List Msg :=
  if c.fault then (c, [])
  else match c.state with
    | .off => ({ c with fault := true }, [])
    | .held => ({ c with fault := true }, [])
    | .firing => convArrivalActive z x t current c
    | .retard => convArrivalActive z x t current c

/-- The fault line of the controller goes inactive (R45, R63). -/
def convClear (c : Conv) : Conv :=
  if c.fault then
    match c.state with
    | .held => { c with fault := false, state := .firing, integ := integMin }
    | .off => { c with fault := false, faultCond := false }
    | .firing => { c with fault := false }
    | .retard => { c with fault := false }
  else c

/-- An apply of the angle limits (R65): records outside the new range are withdrawn. -/
def convAngleApply (z : SetTable) (c : Conv) : Conv :=
  { c with firings := c.firings.filter (fun f => decide (z.alphaMin ≤ f.angle) && decide (f.angle ≤ z.alphaMax)) }

/-- The converter is ready (R46). -/
def convReady (c : Conv) : Bool := decide (c.state = .off) && !c.fault && !c.faultCond

end Sys2Proof.Machine
end

