-- ==== Sys2Proof/Machine/Measurement.lean ====
section
/-! DEFINITION. The measurement unit (chapter 2): samples and their checks, intervals and averages, period means, the
vibration scan, and the pulse inputs. -/

namespace Sys2Proof.Machine

/-- A raw value scaled to the drive's units (R23). -/
def scaleRaw (raw offset gain : Nat) : Nat :=
  (clampInt 0 32767 (tdiv (((raw : Int) - (offset : Int)) * (gain : Int)) 1024)).toNat

/-- A raw value at a rail of the converter (R28). -/
def atRail (raw : Nat) : Bool := decide (raw = 0) || decide (raw = 4095)

/-- The rail counter after a sample (R28). -/
def railNext (raw rail : Nat) : Nat := if atRail raw then min (rail + 1) 3 else 0

/-- One converter's part of the measurement unit after a sample with the raw current `raw`, the scaled current `cur`
and the scaled voltage `volt` (R25, R28, R29, R30). -/
def sideSample (z : SetTable) (x : Side) (raw cur volt : Nat) (d : MeuSide) : MeuSide :=
  { d with
    lastSample := cur
    rail := railNext raw d.rail
    sensorCond := if atRail raw then d.sensorCond || decide (railNext raw d.rail = 3) else false
    overCond := d.overCond || decide (z.itrip x < cur)
    voltCond := d.voltCond || decide (z.uover x < volt) }

/-- The changes of one converter's conditions from `old` to `new`, as the unit publishes and reports them (R28, R29,
R30), with the period number `n` of the last period event taken. -/
def sideMsgs (x : Side) (n : Period) (old new : MeuSide) : List Msg :=
  condMsgs (.currentSensor x) n old.sensorCond new.sensorCond ++
  condMsgs (.overcurrent x) n old.overCond new.overCond ++
  condMsgs (.overvoltage x) n old.voltCond new.voltCond

/-- The scaled current of converter `x` in a sample (R22, R23). -/
def sampleCurrent (z : SetTable) (x : Side) (v : RawSet) : Nat :=
  scaleRaw (match x with | .a => v.r0.toNat | .b => v.r1.toNat) (z.currentOffset x) (z.currentGain x)

/-- The scaled voltage of converter `x` in a sample (R22, R23). -/
def sampleVolt (z : SetTable) (x : Side) (v : RawSet) : Nat :=
  scaleRaw (match x with | .a => v.r2.toNat | .b => v.r3.toNat) (z.voltOffset x) (z.voltGain x)

/-- One sample of the open interval joins its sums (R25). -/
def intervalSample (z : SetTable) (v : RawSet) (g : Interval) : Interval :=
  { g with samples := g.samples.tail, count := g.count + 1,
           curA := g.curA + sampleCurrent z .a v, curB := g.curB + sampleCurrent z .b v,
           voltA := g.voltA + sampleVolt z .a v, voltB := g.voltB + sampleVolt z .b v }

/-- The current group at a sample instant of the open interval `g` (R25). -/
def meuSample (z : SetTable) (v : RawSet) (g : Interval) (m : Meu) : Meu × List Msg :=
  let a := sideSample z .a v.r0.toNat (sampleCurrent z .a v) (sampleVolt z .a v) m.sides.a
  let b := sideSample z .b v.r1.toNat (sampleCurrent z .b v) (sampleVolt z .b v) m.sides.b
  ({ m with interval := some (intervalSample z v g), sides := ⟨a, b⟩ },
   sideMsgs .a m.periodTaken m.sides.a a ++ sideMsgs .b m.periodTaken m.sides.b b)

/-- The instant of the next sample of the open interval, if any. -/
def sampleDue (m : Meu) : Option (Interval × Tick) :=
  match m.interval with
  | none => none
  | some g => match g.samples with
    | [] => none
    | t :: _ => some (g, t)

/-- One converter's part after the close of an interval of `count` samples (R26, R29, R30). -/
def sideClose (z : SetTable) (x : Side) (count cur volt : Nat) (d : MeuSide) : MeuSide :=
  if count = 0 then d
  else
    { d with average := cur / count, voltAverage := volt / count, accSum := d.accSum + cur / count,
             accCount := d.accCount + 1,
             overCond := d.overCond && !decide (cur / count < z.itrip x),
             voltCond := d.voltCond && !decide (volt / count < z.uover x) }

/-- The interval an origin opens (R24). -/
def openInterval (g : Origin) : Interval :=
  { stamp := g.stamp, length := g.length,
    samples := sampleAngles.map (fun a => plus g.stamp (a * g.length / anglePeriod)),
    count := 0, curA := 0, curB := 0, voltA := 0, voltB := 0 }

/-- The sides after the close of the open interval, if there is one (R26). -/
def closeSides (z : SetTable) (m : Meu) : Pair MeuSide :=
  match m.interval with
  | none => m.sides
  | some g => ⟨sideClose z .a g.count g.curA g.voltA m.sides.a, sideClose z .b g.count g.curB g.voltB m.sides.b⟩

/-- An origin taken by the unit: the open interval closes and a new one opens (R24). -/
def meuOrigin (z : SetTable) (g : Origin) (m : Meu) : Meu × List Msg :=
  let sides := closeSides z m
  ({ m with interval := some (openInterval g), sides := sides },
   sideMsgs .a m.periodTaken m.sides.a sides.a ++ sideMsgs .b m.periodTaken m.sides.b sides.b)

/-- One converter's period mean at a period event (R27). -/
def sidePeriod (d : MeuSide) : MeuSide :=
  { d with mean := if d.accCount = 0 then d.mean else d.accSum / d.accCount, accSum := 0, accCount := 0 }

/-- The period event numbered `n` taken by the unit (R27). -/
def meuPeriod (n : Period) (m : Meu) : Meu :=
  { m with sides := ⟨sidePeriod m.sides.a, sidePeriod m.sides.b⟩, periodTaken := n }

/-- round(β), a half rounding up (R31). -/
def biasRound (b : Int) : Int := tdiv (b + 512) 1024

/-- The sample value x of a scan (R31). -/
def scanValue (raw : Nat) (d : MeuChan) : Int := (raw : Int) - biasRound d.bias

/-- The bias estimate after a scan (R32). -/
def biasNext (raw : Nat) (b : Int) : Int := b + tdiv ((raw : Int) * 1024 - b) 1024

/-- The updated estimate lies inside the bias window (R33). -/
def insideBias (z : SetTable) (b : Int) : Bool :=
  decide ((z.biasLow : Int) ≤ biasRound b) && decide (biasRound b ≤ (z.biasHigh : Int))

/-- One channel's part after a scan (R32, R33): while the flag is clear outside scans are counted, while it is set
inside scans are, and at 5000 the flag changes and the counter is set to 0. -/
def chanScan (z : SetTable) (raw : Nat) (d : MeuChan) : MeuChan :=
  if insideBias z (biasNext raw d.bias) = d.flag then
    if flagScans ≤ d.count + 1 then { bias := biasNext raw d.bias, count := 0, flag := !d.flag }
    else { bias := biasNext raw d.bias, count := d.count + 1, flag := d.flag }
  else { bias := biasNext raw d.bias, count := 0, flag := d.flag }

/-- The raw value of channel `n` in a scan (R22, R31). -/
def rawOf (v : RawSet) : Chan → Nat
  | .c0 => v.r0.toNat
  | .c1 => v.r1.toNat
  | .c2 => v.r2.toNat
  | .c3 => v.r3.toNat

/-- The qualifier of a pulse input. -/
def Meu.line (m : Meu) : PulseLine → Qualifier
  | .pa => m.pa
  | .pb => m.pb
  | .ka => m.ka
  | .kb => m.kb
  | .ks => m.ks

/-- The unit with the qualifier of a pulse input replaced. -/
def Meu.putLine (m : Meu) (l : PulseLine) (q : Qualifier) : Meu :=
  match l with
  | .pa => { m with pa := q }
  | .pb => { m with pb := q }
  | .ka => { m with ka := q }
  | .kb => { m with kb := q }
  | .ks => { m with ks := q }

/-- A tooth stamp joins a pinion's pair (R35). -/
def meuTooth (x : Side) (t : Tick) (m : Meu) : Meu :=
  { m with teeth := m.teeth.put x { newest := some t, previous := (m.teeth.get x).newest } }

end Sys2Proof.Machine
end

