-- ==== Sys2Proof/Machine/Flags.lean ====
section
/-! DEFINITION. The flags the part keeps as sets and lines: sets of causes in the order of their codes (R140, R142,
R144), the strength of classes (section 7.1), a station's notice set and its attention line (R199, R200). -/

namespace Sys2Proof.Machine

/-- A set of causes with `k` added, in the order of the codes. -/
def addCause (k : Cause) (ks : List Cause) : List Cause := allCauses.filter (fun x => decide (x = k) || ks.contains x)

/-- A set of causes without `k`. -/
def dropCause (k : Cause) (ks : List Cause) : List Cause := ks.filter (fun x => decide (x ≠ k))

/-- The entry of a kind in a latched set, if any. -/
def latchOf (k : Cause) (ls : List Latch) : Option Latch := ls.find? (fun e => decide (e.kind = k))

/-- A latched set whose entry of `k` is of class `c`, added where there was none, in the order of the codes. -/
def putLatch (k : Cause) (c : Class) (ls : List Latch) : List Latch :=
  allCauses.filterMap (fun x => if x = k then some { kind := k, cls := c } else latchOf x ls)

/-- The place of a class in the order B, F, S, W (section 7.1). -/
def classRank : Class → Nat
  | .b => 0
  | .f => 1
  | .s => 2
  | .w => 3

/-- Class `c` is stronger than class `d` (section 7.1). -/
def stronger (c d : Class) : Bool := decide (classRank c < classRank d)

/-- A notice set with `k` added, in the order of the codes (R199). -/
def addNotice (k : Notice) (ks : List Notice) : List Notice :=
  allNotices.filter (fun x => decide (x = k) || ks.contains x)

/-- A link whose notice set has `k` added, with its attention line asserted (R199). -/
def linkRaise (k : Notice) (l : Link) : Link := { l with notices := addNotice k l.notices, attention := true }

/-- A link whose notice set is emptied, with its attention line released (R200). -/
def linkCollect (l : Link) : Link := { l with notices := [], attention := false }

/-- The links with notice `k` raised to station `st` (R199). -/
def raiseAt (k : Notice) (st : Station) (ls : Triple Link) : Triple Link := ls.put st (linkRaise k (ls.get st))

end Sys2Proof.Machine
end

