-- ==== Sys2Proof/Machine/Protection.lean ====
section
/-! DEFINITION. The protection unit (chapter 7): the condition view, the warning set, the episode and its latched set,
the permit, and the tests of RESET TRIP. How a report reaches the record unit and the sequencer is in
`Machine/Wiring.lean`. -/

namespace Sys2Proof.Machine

/-- A published change of a condition (R140); a warning whose condition is clear leaves the set (R143). -/
def pruCond (k : Cause) (holding : Bool) (p : Pru) : Pru :=
  if holding then { p with view := addCause k p.view }
  else { p with view := dropCause k p.view, warnings := dropCause k p.warnings }

/-- A report of class W joins the warning set (R142), where its condition view is not clear again by then: the set holds
the kinds whose conditions hold, and the report and the clearing give the same set in either order (R140, R143; DEDUCED,
log entry 23). -/
def pruWarn (k : Cause) (p : Pru) : Pru :=
  if p.view.contains k then { p with warnings := addCause k p.warnings } else p

/-- A report opens an episode (R144, R147); the record number follows the trigger. -/
def pruOpen (k : Cause) (c : Class) (p : Pru) : Pru :=
  { p with active := true, cls := some c, firstOut := some k, latched := [{ kind := k, cls := c }], record := none,
           trip := decide (c = .b) }

/-- The class `c` is stronger than the class of the episode (R145). -/
def classRises (c : Class) (p : Pru) : Bool :=
  match p.cls with
  | none => true
  | some d => stronger c d

/-- A report is latched with its class (R145, R147): the episode class rises where it is exceeded. -/
def pruLatch (k : Cause) (c : Class) (p : Pru) : Pru :=
  { p with latched := putLatch k c p.latched, cls := if classRises c p then some c else p.cls,
           trip := p.trip || decide (c = .b) }

/-- How a report of class B, F or S is taken in an ACTIVE episode (R145): a new entry, a stronger class for an entry of
its kind, or nothing. -/
inductive Latching where
  | fresh | raised | same
  deriving DecidableEq, Repr

/-- Which of the three it is (R145). -/
def latchingOf (k : Cause) (c : Class) (p : Pru) : Latching :=
  match latchOf k p.latched with
  | none => .fresh
  | some e => if stronger c e.cls then .raised else .same

/-- PERMIT (R149). -/
def pruPermit (window : Nat) (p : Pru) : Pru := { p with permit := true, permitCount := window, lostCond := false }

/-- The permit becomes absent (R150, R151). -/
def pruAbsent (p : Pru) : Pru := { p with permit := false, permitCount := 0 }

/-- The drive runs on the permit (R152). -/
def onPermit : Drive → Bool
  | .closing | .starting | .run | .stopping | .coast | .tripStop => true
  | .blocked | .tripped | .aux => false

/-- The loss of the permit sets PERMIT_LOST and reports it (R152). -/
def lossReports (p : Pru) : Bool := onPermit p.driveView && !p.lostCond

/-- The permit lapses at this period event (R150). -/
def permitLapses (p : Pru) : Bool := p.permit && decide (p.permitCount ≤ 1)

/-- The permit timer at a period event at which it does not lapse (R150). -/
def pruCount (p : Pru) : Pru := if p.permit then { p with permitCount := p.permitCount - 1 } else p

/-- The latched kind of lowest code whose condition holds, if any (R155). -/
def causePresent (p : Pru) : Option Cause := (p.latched.map Latch.kind).find? (fun k => p.view.contains k)

/-- The answer to RESET TRIP (R155). -/
inductive ResetAnswer where
  | ok
  | refused (r : Reason)
  | present (k : Cause)
  deriving DecidableEq, Repr

/-- The four tests of RESET TRIP, in order (R155); `read` is the record unit's answer (R173). -/
def resetTest (read : Bool) (p : Pru) : ResetAnswer :=
  if !p.active then .refused .noEpisode
  else if p.driveView ≠ .tripped then .refused .notStopped
  else match causePresent p with
    | some k => .present k
    | none => if read then .ok else .refused .recordUnread

/-- RESET TRIP accepted (R156). -/
def pruReset (p : Pru) : Pru :=
  { p with active := false, cls := none, firstOut := none, latched := [], record := none, trip := false }

end Sys2Proof.Machine
end

