-- ==== Sys2Proof/Machine/Records.lean ====
section
/-! DEFINITION. The record unit (chapter 8): the history ring, slot choice and record numbers, triggers, filling and
sealing, subsequent causes and fault captures, read cursors and read marks, and its reset. -/

namespace Sys2Proof.Machine

/-- An entry joins the ring; the oldest leaves a full one (R159). -/
def pushEntry (e : Entry) (ring : List Entry) : List Entry := (ring ++ [e]).drop (ring.length + 1 - ringCapacity)

/-- The slot that holds record `n`, if any. -/
def slotOf (n : Nat) (u : Rcu) : Option SlotIx :=
  allSlots.find? (fun i => match u.slots.get i with | none => false | some r => decide (r.number = n))

/-- A slot holds a SEALED MANUAL record (R164). -/
def sealedManual (u : Rcu) (i : SlotIx) : Bool :=
  match u.slots.get i with
  | none => false
  | some r => r.isSealed && decide (r.kind = .manual)

/-- A slot holds a SEALED TRIP record that is not pinned (R164). -/
def sealedTrip (u : Rcu) (i : SlotIx) : Bool :=
  match u.slots.get i with
  | none => false
  | some r => r.isSealed && decide (r.kind = .trip) && decide (u.pinned ≠ some r.number)

/-- The slot for a new record (R164): the lowest FREE one, else the oldest SEALED MANUAL one, else the newest SEALED
unpinned TRIP one. -/
def chooseSlot (u : Rcu) : Option SlotIx :=
  (allSlots.find? (fun i => (u.slots.get i).isNone)).or
    ((u.age.find? (sealedManual u)).or (u.age.reverse.find? (sealedTrip u)))

/-- The stations of a record's interest set that hold no read mark on it. -/
def unread (r : Record) : List Station := allStations.filter (fun k => r.interest.has k && !r.marks.has k)

/-- RECORD_LOST to each station that had not read the record overwritten (R164). -/
def lostMsgs (old : Option Record) : List Msg :=
  match old with
  | none => []
  | some r => (unread r).map (fun k => .notice .recordLost k)

/-- RECORD_SEALED to each station of the interest set (R166, R170). -/
def sealedMsgs (r : Record) : List Msg :=
  (allStations.filter (fun k => r.interest.has k)).map (fun k => .notice .recordSealed k)

/-- The number after `n`, wrapping from 65535 to 1 (R161). -/
def numberAfter (n : Nat) : Nat := if 65535 ≤ n then 1 else n + 1

/-- A number is held by a record of the store (R161). -/
def numberHeld (n : Nat) (u : Rcu) : Bool := (slotOf n u).isSome

/-- The first of `n` and the numbers after it that no record holds; at most six are held (R161). -/
def freeNumber (u : Rcu) : Nat → Nat → Nat
  | 0, n => n
  | k + 1, n => if numberHeld n u then freeNumber u k (numberAfter n) else n

/-- A latest capture lies within the record's span (R168). -/
def captureWithin (first : Period) (c : Option FaultCapture) : Option FaultCapture :=
  match c with
  | none => none
  | some k => if first.toNat ≤ k.period.toNat then some k else none

/-- The pre entries and the trigger entry taken from the ring (R165). -/
def takenEntries (pre : Nat) (ring : List Entry) : List Entry := ring.drop (ring.length - 1 - min pre (ring.length - 1))

/-- The pre count taken (R165): the entries taken less the trigger entry. -/
def takenPre (pre : Nat) (ring : List Entry) : Nat := min pre (ring.length - 1)

/-- A new record's header and entries (R163, R165, R168, R169); `base` holds what the trigger carries. In the empty-ring
case the trigger entry and the capture test wait for the first entry appended. -/
def formRecord (z : SetTable) (u : Rcu) (base : Record) : Record :=
  match u.ring with
  | [] => { base with pre := 0, post := min z.postCount recordCapacity, entries := [], trigger := none,
                      capA := none, capB := none, isSealed := false }
  | e :: es =>
    let taken := takenEntries z.preCount (e :: es)
    let pre := takenPre z.preCount (e :: es)
    let post := min z.postCount (recordCapacity - pre)
    { base with pre := pre, post := post, entries := taken, trigger := (taken.getLast?).map Entry.period,
                capA := (taken.head?).bind (fun x => captureWithin x.period u.latest.a),
                capB := (taken.head?).bind (fun x => captureWithin x.period u.latest.b),
                isSealed := decide (pre + post ≤ taken.length) }

/-- What every new record starts with (R163, R169). -/
def baseRecord (kind : RecordKind) (number : Nat) (drive : Drive) (interest : StationSet) : Record :=
  { number := number, kind := kind, requester := none, trigger := none, firstOut := none, cls := none, subs := [],
    overflow := 0, pre := 0, post := 0, entries := [], driveAt := drive, capA := none, capB := none,
    truncated := false, interest := interest, marks := StationSet.empty, isSealed := false }

/-- A record starts in slot `i` (R161, R162, R166). -/
def startRecord (i : SlotIx) (r : Record) (u : Rcu) : Rcu :=
  let w := { u with slots := u.slots.put i (some r), age := u.age.filter (fun k => decide (k ≠ i)) ++ [i],
                    filling := if r.isSealed then none else some i, mark := !r.isSealed }
  { w with counter := freeNumber w 6 (numberAfter r.number) }

/-- A new record with what `base` carries is started in the slot of R164 (R163 to R165, R169). Where no slot is found,
which no reachable state shows, nothing is done (log entry 15). -/
def newRecord (z : SetTable) (base : Record) (u : Rcu) : Rcu × List Msg :=
  match chooseSlot u with
  | none => (u, [])
  | some i =>
    (startRecord i (formRecord z u base) u,
     lostMsgs (u.slots.get i) ++ if (formRecord z u base).isSealed then sealedMsgs (formRecord z u base) else [])

/-- A MANUAL record that is FILLING is sealed TRUNCATED (R170). -/
def truncateManual (u : Rcu) : Rcu × List Msg :=
  match u.filling with
  | none => (u, [])
  | some i => match u.slots.get i with
    | none => (u, [])
    | some r =>
      if r.kind = .manual then
        ({ u with slots := u.slots.put i (some { r with isSealed := true, truncated := true }), filling := none,
                  mark := false },
         sealedMsgs { r with isSealed := true, truncated := true })
      else (u, [])

/-- The header of a TRIP record (R163, step 3). -/
def tripBase (z : SetTable) (k : Cause) (c : Class) (drive : Drive) (u : Rcu) : Record :=
  { baseRecord .trip u.counter drive { c := true, p := true, m := z.takeTrips } with
    firstOut := some k, cls := some c }

/-- A record trigger of the protection unit (R163); the number handed back is the new record's. -/
def rcuTrigger (z : SetTable) (k : Cause) (c : Class) (drive : Drive) (u : Rcu) : Rcu × List Msg :=
  let t := truncateManual u
  let w := newRecord z (tripBase z k c drive t.1) t.1
  ({ w.1 with pinned := some t.1.counter }, t.2 ++ w.2)

/-- The header of a MANUAL record (R169). -/
def manualBase (st : Station) (u : Rcu) : Record :=
  { baseRecord .manual u.counter u.driveView (StationSet.empty.add st) with requester := some st }

/-- CAPTURE where no record is FILLING (R169). -/
def rcuCapture (z : SetTable) (st : Station) (u : Rcu) : Rcu × List Msg := newRecord z (manualBase st u) u

/-- The trigger period number and the fault captures of a record whose trigger entry is `e` (R165, R168). -/
def firstEntry (e : Entry) (u : Rcu) (r : Record) : Record :=
  match r.entries with
  | [] => { r with trigger := some e.period, capA := r.capA.or (captureWithin e.period u.latest.a),
                   capB := r.capB.or (captureWithin e.period u.latest.b) }
  | _ :: _ => r

/-- An entry is copied to a filling record, which seals when it is complete (R166). -/
def fillRecord (e : Entry) (u : Rcu) (r : Record) : Record :=
  let f := firstEntry e u r
  { f with entries := r.entries ++ [e], isSealed := decide (r.pre + r.post ≤ r.entries.length + 1) }

/-- The filling record at a period event (R166). -/
def rcuFill (e : Entry) (u : Rcu) : Rcu × List Msg :=
  match u.filling with
  | none => (u, [])
  | some i => match u.slots.get i with
    | none => (u, [])
    | some r =>
      if (fillRecord e u r).isSealed then
        ({ u with slots := u.slots.put i (some (fillRecord e u r)), filling := none, mark := false },
         sealedMsgs (fillRecord e u r))
      else ({ u with slots := u.slots.put i (some (fillRecord e u r)) }, [])

/-- The period event with the entry `e` (R159, R160, R166). -/
def rcuPeriod (e : Entry) (u : Rcu) : Rcu × List Msg :=
  rcuFill e { u with ring := pushEntry e u.ring, periodTaken := e.period }

/-- A filling record completes at the next period event (R166). -/
def sealsNext (u : Rcu) : Bool :=
  match u.filling with
  | none => false
  | some i => match u.slots.get i with
    | none => false
    | some r => decide (r.pre + r.post ≤ r.entries.length + 1)

/-- A subsequent cause joins a header (R167). -/
def addSub (k : Cause) (n : Period) (r : Record) : Record :=
  if r.subs.length < 8 then { r with subs := r.subs ++ [{ kind := k, period := n }] }
  else { r with overflow := min (r.overflow + 1) 255 }

/-- A subsequent cause of the ACTIVE episode (R167): listed while the episode's record is FILLING. -/
def rcuSub (k : Cause) (n : Period) (u : Rcu) : Rcu :=
  match u.filling with
  | none => u
  | some i => match u.slots.get i with
    | none => u
    | some r => if u.pinned = some r.number then { u with slots := u.slots.put i (some (addSub k n r)) } else u

/-- A filling record takes a fault capture where its field is absent (R168). -/
def fillCapture (x : Side) (c : FaultCapture) (r : Record) : Record :=
  match x with
  | .a => { r with capA := r.capA.or (some c) }
  | .b => { r with capB := r.capB.or (some c) }

/-- A fault capture handed to the unit (R168). -/
def rcuTakeCapture (x : Side) (c : FaultCapture) (u : Rcu) : Rcu :=
  match u.filling with
  | none => { u with latest := u.latest.put x (some c) }
  | some i => match u.slots.get i with
    | none => { u with latest := u.latest.put x (some c) }
    | some r => { u with latest := u.latest.put x (some c), slots := u.slots.put i (some (fillCapture x c r)) }

/-- A slot becomes FREE (R162, R171, R172). -/
def freeSlot (i : SlotIx) (u : Rcu) : Rcu :=
  { u with slots := u.slots.put i none, age := u.age.filter (fun k => decide (k ≠ i)) }

/-- The record of slot `i` becomes FREE where it is SEALED, not pinned, and read by its whole interest set (R171, R172). -/
def freeIfRead (i : SlotIx) (u : Rcu) : Rcu :=
  match u.slots.get i with
  | none => u
  | some r =>
    if r.isSealed && decide (u.pinned ≠ some r.number) && r.interest.within r.marks then freeSlot i u else u

/-- The end of the episode unpins its record (R156, R171). -/
def rcuUnpin (u : Rcu) : Rcu :=
  match u.pinned with
  | none => u
  | some n => match slotOf n u with
    | none => { u with pinned := none }
    | some i => freeIfRead i { u with pinned := none }

/-- Whether the protection station holds the read mark of record `n` (R173). -/
def readByP (n : Option Nat) (u : Rcu) : Bool :=
  match n with
  | none => false
  | some n => match slotOf n u with
    | none => false
    | some i => match u.slots.get i with
      | none => false
      | some r => r.marks.p

/-- OPEN RECORD: the slot and record found, where there is one (R175). -/
def openFinds (n : Nat) (u : Rcu) : Option (SlotIx × Record) :=
  match slotOf n u with
  | none => none
  | some i => (u.slots.get i).map (fun r => (i, r))

/-- The outcome of NEXT CHUNK (R176). -/
inductive Chunk where
  | noRecord
  | stale
  | chunk (cur : Cursor) (r : Record)
  deriving DecidableEq, Repr

/-- NEXT CHUNK's tests of station `st`'s cursor, in order (R176). -/
def chunkOf (st : Station) (u : Rcu) : Chunk :=
  match u.cursors.get st with
  | none => .noRecord
  | some k => match u.slots.get k.slot with
    | none => .stale
    | some r => if r.number = k.number then .chunk k r else .stale

/-- The entries a chunk delivers (R176). -/
def chunkEntries (k : Cursor) (r : Record) : List Entry := (r.entries.drop k.pos).take 6

/-- The chunk delivers the end of a SEALED record (R176). -/
def chunkEnds (k : Cursor) (r : Record) : Bool :=
  r.isSealed && decide (k.pos + (chunkEntries k r).length = r.entries.length)

/-- The unit after NEXT CHUNK (R172, R176). -/
def rcuNext (st : Station) (u : Rcu) : Rcu :=
  match chunkOf st u with
  | .noRecord => u
  | .stale => { u with cursors := u.cursors.put st none }
  | .chunk k r =>
    let w := { u with cursors := u.cursors.put st (some { k with pos := k.pos + (chunkEntries k r).length }) }
    if chunkEnds k r then freeIfRead k.slot { w with slots := w.slots.put k.slot (some { r with marks := r.marks.add st }) }
    else w

/-- A record FILLING at the reset line is sealed TRUNCATED (R180, step 1). -/
def sealAtReset (r : Record) : Record := if r.isSealed then r else { r with isSealed := true, truncated := true }

/-- The record unit at the release of the reset line (R180). -/
def rcuResetLine (u : Rcu) : Rcu :=
  let w := rcuUnpin { u with
    slots := ⟨u.slots.s0.map sealAtReset, u.slots.s1.map sealAtReset, u.slots.s2.map sealAtReset,
              u.slots.s3.map sealAtReset, u.slots.s4.map sealAtReset, u.slots.s5.map sealAtReset⟩,
    filling := none }
  { rcuRelease with slots := w.slots, age := w.age, counter := w.counter }

end Sys2Proof.Machine
end

