-- ==== Sys2Proof/Machine/Sequencer.lean ====
section
/-! DEFINITION. The drive sequencer (chapter 6): the drive states, the requests of the control station, coasting, trip
demands, the contactor and its release wait. What a change of the drive state does to other blocks is in
`Machine/Wiring.lean`. -/

namespace Sys2Proof.Machine

/-- The enable of a drive state (R120). -/
def enableOf : Drive → Bool
  | .starting | .run | .stopping | .tripStop => true
  | .blocked | .closing | .coast | .tripped | .aux => false

/-- The stopped states (section 6.1). -/
def stoppedState : Drive → Bool
  | .blocked | .tripped | .aux => true
  | .closing | .starting | .run | .stopping | .coast | .tripStop => false

/-- A release wait starts at an entry into BLOCKED or TRIPPED while CONTACTOR is asserted, unless one is in progress
(R135). -/
def waitAtEntry (new : Drive) (d : Dsq) : ReleaseWait :=
  match new with
  | .blocked | .tripped => if d.contactor && decide (d.wait = .none) then .zeroWait 0 else d.wait
  | .closing | .starting | .run | .stopping | .coast | .tripStop | .aux => d.wait

/-- The coast timer at an entry (R126, R127): it runs from 0 in COAST and is STOPPED at every leaving of it. -/
def coastAtEntry : Drive → CoastTimer
  | .coast => .running 0
  | .blocked | .closing | .starting | .run | .stopping | .tripStop | .tripped | .aux => .stopped

/-- The drive enters `new`, a state other than the one in force (R119, R120, R126, R127, R135). -/
def dsqEnter (new : Drive) (d : Dsq) : Dsq :=
  { d with drive := new, enable := enableOf new, coast := coastAtEntry new, wait := waitAtEntry new d }

/-- The COAST exit reason at a leaving of the drive state in force (R128): `r`, or TIMEOUT with the timer EXPIRED. -/
def exitAt (r : ExitReason) (d : Dsq) : ExitReason :=
  if d.drive = .coast then (if d.coast = .expired then .timeout else r) else d.exit

/-- The outcome of a request: taken, or refused with a reason (R121, R124, R132, R133, R155, R169). -/
inductive Answer where
  | ok
  | refused (r : Reason)
  deriving DecidableEq, Repr

/-- What START reads of other blocks (R121). -/
structure StartView where
  permit : Bool
  locked : Bool
  clear : Bool
  readyA : Bool
  readyB : Bool
  single : Bool
  deriving DecidableEq, Repr

/-- No release wait is in progress and CONTACTOR is released (R121, R132). -/
def contactorFree (d : Dsq) : Bool := decide (d.wait = .none) && !d.contactor

/-- The six tests of START, in order (R121). -/
def startTest (v : StartView) (d : Dsq) : Answer :=
  if d.drive ≠ .blocked then .refused .wrongState
  else if !contactorFree d then .refused .releasing
  else if !v.permit then .refused .noPermit
  else if !v.locked then .refused .notLocked
  else if !v.clear then .refused .episodeActive
  else if !((v.readyA && v.readyB) || (v.single && (v.readyA || v.readyB))) then .refused .notReady
  else .ok

/-- START accepted (R121). -/
def dsqStart (d : Dsq) : Dsq := dsqEnter .closing { d with contactor := true, closeCount := 0 }

/-- STOP: the answer (R124). -/
def stopTest (d : Dsq) : Answer :=
  match d.drive with
  | .closing | .starting | .run | .coast | .stopping | .blocked => .ok
  | .tripStop | .tripped | .aux => .refused .wrongState

/-- STOP: the effect (R124). -/
def dsqStop (d : Dsq) : Dsq :=
  match d.drive with
  | .closing => dsqEnter .blocked d
  | .starting | .run => dsqEnter .stopping d
  | .coast => dsqEnter .blocked { d with exit := exitAt .stop d }
  | .stopping | .blocked | .tripStop | .tripped | .aux => d

/-- Sync lost (R122, R126). -/
def dsqSyncLost (d : Dsq) : Dsq :=
  match d.drive with
  | .starting | .run => dsqEnter .coast d
  | .closing | .stopping => dsqEnter .blocked d
  | .tripStop => dsqEnter .tripped d
  | .blocked | .coast | .tripped | .aux => d

/-- The coast timer is RUNNING. -/
def coastRunning : CoastTimer → Bool
  | .running _ => true
  | .stopped | .expired => false

/-- An entry of the synchroniser into LOCKED (R127, R128), with the mean speed `s`. -/
def dsqLocked (z : SetTable) (s : Nat) (d : Dsq) : Dsq × List Msg :=
  (if decide (d.drive = .coast) && coastRunning d.coast then
     dsqEnter (if z.breakSpeed ≤ s then .run else .starting) { d with exit := .relocked, lossCond := false }
   else { d with lossCond := false },
   condMsgs .mainsLoss d.periodTaken d.lossCond false)

/-- The drive enters TRIPPED at a trip demand (R129, R133). -/
def dsqTripped (d : Dsq) : Dsq := dsqEnter .tripped { d with exit := exitAt .trip d, auxEn := false }

/-- A trip demand (R129, R130). A class B demand releases CONTACTOR at once and ends any release wait. -/
def dsqDemand (c : Class) (d : Dsq) : Dsq :=
  match c with
  | .b =>
    match d.drive with
    | .tripped => { d with contactor := false, wait := .none }
    | .blocked | .closing | .starting | .run | .stopping | .coast | .tripStop | .aux =>
      dsqTripped { d with contactor := false, wait := .none }
  | .f =>
    match d.drive with
    | .blocked | .closing | .starting | .run | .stopping | .coast | .tripStop => dsqTripped d
    | .tripped | .aux => d
  | .s =>
    match d.drive with
    | .blocked | .closing | .coast => dsqTripped d
    | .starting | .run | .stopping => dsqEnter .tripStop d
    | .tripStop | .tripped | .aux => d
  | .w => d

/-- The end of the episode (R131). -/
def dsqEpisodeEnd (d : Dsq) : Dsq :=
  match d.drive with
  | .tripped => dsqEnter .blocked d
  | .blocked | .closing | .starting | .run | .stopping | .coast | .tripStop | .aux => d

/-- The three tests of TO AUX, in order (R132), with the mean speed `s`. -/
def toAuxTest (s : Nat) (d : Dsq) : Answer :=
  if d.drive ≠ .blocked then .refused .wrongState
  else if !contactorFree d then .refused .releasing
  else if s ≠ 0 then .refused .notStill
  else .ok

/-- TO AUX accepted (R132). -/
def dsqToAux (d : Dsq) : Dsq := dsqEnter .aux { d with auxEn := true }

/-- FROM AUX: the answer (R133). -/
def fromAuxTest (d : Dsq) : Answer := if d.drive = .aux then .ok else .refused .wrongState

/-- FROM AUX accepted, with the episode ACTIVE or not (R133). -/
def dsqFromAux (active : Bool) (d : Dsq) : Dsq :=
  dsqEnter (if active then .tripped else .blocked) { d with auxEn := false }

/-- What the sequencer reads of other blocks at a period event (R123, R125, R135, R136). -/
structure DsqView where
  number : Period
  s : Nat
  off : Bool
  low : Bool
  deriving DecidableEq, Repr

/-- Both period-mean currents are at or below the zero threshold (R135). -/
def currentsLow (z : SetTable) (means : Pair Nat) : Bool :=
  decide (means.a ≤ z.zeroThreshold) && decide (means.b ≤ z.zeroThreshold)

/-- The release wait at a period event (R135, R136, R137). -/
def waitStep (z : SetTable) (v : DsqView) (d : Dsq) : Dsq :=
  match d.wait with
  | .none => d
  | .zeroWait k =>
    if !v.off then { d with wait := .zeroWait 0 }
    else if v.low then
      if z.releaseDelay = 0 then { d with contactor := false, wait := .none } else { d with wait := .delay 0 k }
    else if z.decayTime ≤ k + 1 then { d with wait := .zeroWait z.decayTime, decayCond := true }
    else { d with wait := .zeroWait (k + 1) }
  | .delay c k =>
    if !v.low then { d with wait := .zeroWait k }
    else if z.releaseDelay ≤ c + 1 then { d with contactor := false, wait := .none }
    else { d with wait := .delay (c + 1) k }

/-- CURRENT_NOT_DECAYING clears at a period event with both currents at or below the threshold (R137). -/
def decayClear (v : DsqView) (d : Dsq) : Dsq := if v.low then { d with decayCond := false } else d

/-- The close count in CLOSING (R122). -/
def closingStep (z : SetTable) (d : Dsq) : Dsq :=
  if z.closeDelay ≤ d.closeCount + 1 then dsqEnter .starting { d with closeCount := d.closeCount + 1 }
  else { d with closeCount := d.closeCount + 1 }

/-- The coast timer at a period event (R127). -/
def coastStep (z : SetTable) (d : Dsq) : Dsq :=
  match d.coast with
  | .running c =>
    if z.coastTime ≤ c + 1 then { d with coast := .expired, lossCond := true } else { d with coast := .running (c + 1) }
  | .stopped => d
  | .expired => d

/-- The test of the drive state in force at a period event (R122, R123, R125, R127). -/
def driveStep (z : SetTable) (v : DsqView) (d : Dsq) : Dsq :=
  match d.drive with
  | .closing => closingStep z d
  | .starting => if z.breakSpeed ≤ v.s then dsqEnter .run d else d
  | .stopping => if v.s ≤ z.stopSpeed then dsqEnter .blocked d else d
  | .tripStop => if v.s ≤ z.stopSpeed then dsqEnter .tripped d else d
  | .coast => coastStep z d
  | .blocked | .run | .tripped | .aux => d

/-- The period work: the release wait first, so that a wait started by this work is taken at the next period event
(R135), then the drive state's test. -/
def dsqWork (z : SetTable) (v : DsqView) (d : Dsq) : Dsq :=
  driveStep z v (decayClear v (waitStep z v { d with periodTaken := v.number }))

/-- The period work with its reports (R127, R137). -/
def dsqPeriod (z : SetTable) (v : DsqView) (d : Dsq) : Dsq × List Msg :=
  (dsqWork z v d,
   condMsgs .currentNotDecaying v.number d.decayCond (dsqWork z v d).decayCond ++
   condMsgs .mainsLoss v.number d.lossCond (dsqWork z v d).lossCond)

end Sys2Proof.Machine
end

