-- ==== Sys2Proof/Machine/SettingsTable.lean ====
section
/-! DEFINITION. The settings table (chapter 9): writing and staging (R181, R182) and the apply points (R184 to R186).
What blocks do at an apply (R187) is in `Machine/Wiring.lean`. -/

namespace Sys2Proof.Machine

/-- The catalogue's row of an identifier, if any (R181, test 1; R189). -/
def specOf (id : Nat) : Option SetSpec := if id = 0 then none else catalogue[id - 1]?

/-- The outcome of a PUT SETTING (R181, R182). -/
inductive PutAnswer where
  | malformed
  | notOwner
  | staged (clamped : Bool) (v : SetValue)
  deriving DecidableEq, Repr

/-- The tests of PUT SETTING, in order, and the value in range (R181, R182). -/
def putTest (st : Station) (id : Nat) (bs : List Byte) : PutAnswer :=
  match specOf id with
  | none => .malformed
  | some r =>
    if r.owner ≠ st then .notOwner
    else match readValue r.form bs with
      | none => .malformed
      | some v => .staged (decide (clampValue r.form v ≠ v)) (clampValue r.form v)

/-- A value is staged (R182). -/
def stageValue (id : Nat) (v : SetValue) (z : SetTable) : SetTable := { z with staged := z.staged.set (id - 1) (some v) }

/-- The table row by row: the catalogue's row, the active value, the staged value. -/
def setRows (z : SetTable) : List (SetSpec × SetValue × Option SetValue) := catalogue.zip (z.active.zip z.staged)

/-- The staged values of the classes chosen become active (section 9.3). -/
def applyClasses (choose : ApplyClass → Bool) (z : SetTable) : SetTable :=
  { z with active := (setRows z).map (fun x => if choose x.1.cls then x.2.2.getD x.2.1 else x.2.1),
           staged := (setRows z).map (fun x => if choose x.1.cls then none else x.2.2) }

/-- The identifiers that an apply of the classes chosen applies (R187, R188). -/
def appliedIds (choose : ApplyClass → Bool) (z : SetTable) : List Nat :=
  ((setRows z).zipIdx 1).filterMap (fun x => if choose x.1.1.cls && x.1.2.2.isSome then some x.2 else none)

/-- The classes applied at a period event (R184, R185). -/
def atPeriod (drive : Drive) : ApplyClass → Bool
  | .live => true
  | .stopped => stoppedState drive
  | .revolution => false

/-- The classes applied at an entry into a stopped state (R185). -/
def atEntry : ApplyClass → Bool
  | .live => false
  | .stopped => true
  | .revolution => false

/-- The identifier of channel `n`'s profile. -/
def profileId (n : Chan) : Nat := 63 + chanNumber n

/-- The channel whose profile an identifier names, if it names one (identifiers 63 to 66). -/
def profileChan (id : Nat) : Option Chan := allChans.find? (fun n => decide (profileId n = id))

/-- The staged profile of channel `n`, where there is one (R186). -/
def stagedProfile (n : Chan) (z : SetTable) : Option SetValue :=
  match z.staged[profileId n - 1]? with
  | some (some v) => some v
  | _ => none

/-- The table after the watch has taken the profile `v` of channel `n` (R186). -/
def profileTaken (n : Chan) (v : SetValue) (z : SetTable) : SetTable :=
  { z with active := z.active.set (profileId n - 1) v, staged := z.staged.set (profileId n - 1) none }

/-- The owners of the settings applied (R188). -/
def ownersOf (ids : List Nat) : List Station :=
  allStations.filter (fun st => ids.any (fun id => match specOf id with | none => false | some r => decide (r.owner = st)))

end Sys2Proof.Machine
end

