-- ==== Sys2Proof/Machine/SpeedTorque.lean ====
section
/-! DEFINITION. The speed and torque unit (chapter 4): its period work stage by stage in the order of R67, its answer
to a change of the drive state, to SPEED REF, to a tooth arrival and to the apply of its settings. -/

namespace Sys2Proof.Machine

/-- What the unit reads of other blocks at its period work (R67): the tooth stamp pairs, the instant of the period
event, the period-mean currents, the converter states, the derate level, the drive state and the period number. -/
structure StuView where
  teeth : Pair Teeth
  instant : Tick
  means : Pair Nat
  convs : Pair ConvState
  level : Nat
  drive : Drive
  number : Period
  deriving DecidableEq, Repr

/-- The speed loop runs in this drive state (R77). -/
def loopRuns : Drive → Bool
  | .starting | .run | .stopping | .tripStop => true
  | .blocked | .closing | .coast | .tripped | .aux => false

/-- The drive state is STARTING or RUN. -/
def drives : Drive → Bool
  | .starting | .run => true
  | .blocked | .closing | .stopping | .coast | .tripStop | .tripped | .aux => false

/-- The speed estimate of a pinion (R68). -/
def speedEstimate (z : SetTable) (t : Tick) (p : Teeth) : Nat :=
  match p.newest, p.previous with
  | some w, some v =>
    if z.zeroSpeedTimeout < since t w then 0
    else min (16384 * z.toothInterval / max (since w v) (since t w)) 32767
  | _, _ => 0

/-- The two estimates (R68). -/
def stuSpeeds (z : SetTable) (v : StuView) (u : Stu) : Stu :=
  { u with motors := ⟨{ u.motors.a with speed := speedEstimate z v.instant v.teeth.a },
                      { u.motors.b with speed := speedEstimate z v.instant v.teeth.b }⟩ }

/-- One pinion's exclusion test while neither is excluded, with the other pinion's estimate (R69). -/
def exclusionTest (other : Nat) (d : Motor) : Motor :=
  if d.speed = 0 && decide (sensorSpeed ≤ other) then
    if exclusionCount ≤ d.exclCount + 1 then { d with exclCount := 0, excluded := true, sensorCond := true }
    else { d with exclCount := d.exclCount + 1 }
  else { d with exclCount := 0 }

/-- The exclusion test of both pinions (R69): while one is excluded both counters are 0. -/
def stuExclusion (u : Stu) : Stu :=
  if u.motors.a.excluded || u.motors.b.excluded then
    { u with motors := ⟨{ u.motors.a with exclCount := 0 }, { u.motors.b with exclCount := 0 }⟩ }
  else
    { u with motors := ⟨exclusionTest u.motors.b.speed u.motors.a, exclusionTest u.motors.a.speed u.motors.b⟩ }

/-- The mean speed (R70). -/
def stuMean (u : Stu) : Stu :=
  { u with s := if u.motors.a.excluded then u.motors.b.speed
                else if u.motors.b.excluded then u.motors.a.speed
                else (u.motors.a.speed + u.motors.b.speed) / 2 }

/-- The absolute difference of two speeds. -/
def gapOf (x y : Nat) : Nat := (x - y) + (y - x)

/-- The mismatch test holds (R71). -/
def mismatchHolds (z : SetTable) (u : Stu) : Bool :=
  decide (z.mismatchTol < gapOf u.motors.a.speed u.motors.b.speed) && decide (sensorSpeed ≤ u.s) &&
  !u.motors.a.excluded && !u.motors.b.excluded

/-- The mismatch test (R71). -/
def stuMismatch (z : SetTable) (u : Stu) : Stu :=
  if mismatchHolds z u then
    if z.mismatchCount ≤ u.mismatch + 1 then { u with mismatch := z.mismatchCount, mismatchCond := true }
    else { u with mismatch := u.mismatch + 1 }
  else { u with mismatch := 0, mismatchCond := false }

/-- The overspeed test (R72). -/
def stuOverspeed (z : SetTable) (u : Stu) : Stu := { u with overspeedCond := decide (z.overspeed < u.s) }

/-- A thermal account after a period with the mean current `i` (R83). -/
def accountNext (z : SetTable) (i : Nat) (q : Int) : Int :=
  clampInt 0 z.qmax (q + tdiv ((i : Int) * i - (z.icont : Int) * z.icont) 16384)

/-- The thermal state after an update of the account (R84). The account is compared with the lesser of Qwarn and Qmax:
where Qwarn is above Qmax, the motor leaves HOT when Q falls below Qmax (DEDUCED, log entry 12). -/
def thermalNext (z : SetTable) (q : Int) : Thermal → Thermal
  | .hot => if (min z.qwarn z.qmax : Nat) ≤ q then .hot else .cool
  | _ => if q = z.qmax then .hot else if (z.qwarn : Int) ≤ q then .warm else .cool

/-- The thermal state of a motor taken again, with THERMAL_HOT_x (R84). -/
def thermalTaken (z : SetTable) (d : Motor) : Motor :=
  { d with thermal := thermalNext z d.q d.thermal, hotCond := decide (thermalNext z d.q d.thermal = .hot) }

/-- The thermal accounts and states (R83, R84). -/
def stuThermal (z : SetTable) (v : StuView) (u : Stu) : Stu :=
  { u with motors := ⟨thermalTaken z { u.motors.a with q := accountNext z v.means.a u.motors.a.q },
                      thermalTaken z { u.motors.b with q := accountNext z v.means.b u.motors.b.q }⟩ }

/-- The breakaway window fails at this period event (R81). -/
def breakFails (z : SetTable) (u : Stu) : Bool :=
  match u.window with
  | none => false
  | some c => decide (u.s < z.breakSpeed) && decide (z.breakTime ≤ c + 1)

/-- The breakaway window test (R81). -/
def stuWindow (z : SetTable) (u : Stu) : Stu :=
  match u.window with
  | none => u
  | some c =>
    if z.breakSpeed ≤ u.s then { u with window := none }
    else if z.breakTime ≤ c + 1 then { u with window := none }
    else { u with window := some (c + 1) }

/-- The torque envelope for a window and a derate level (R79). -/
def envelope (z : SetTable) (level : Nat) (window : Option Nat) : Nat :=
  (match window with | none => z.tgear | some _ => z.tbreak) * z.derateFactor level / 256

/-- The envelope formed in the period work (R79). -/
def stuEnvelope (z : SetTable) (v : StuView) (u : Stu) : Stu := { u with tenv := envelope z v.level u.window }

/-- The hold timer (R74). -/
def stuHold (v : StuView) (u : Stu) : Stu :=
  if drives v.drive then
    match u.hold with
    | .stopped => u
    | .expired => u
    | .running c => if c ≤ 1 then { u with hold := .expired, holdCond := true } else { u with hold := .running (c - 1) }
  else u

/-- The ramp target in STARTING and RUN (R75). -/
def rampTarget (z : SetTable) (u : Stu) : Nat :=
  match u.hold, u.stationRef with
  | .running _, some r => min r z.speedMax
  | _, _ => min z.fallback z.speedMax

/-- One step of a ramp (R75). -/
def rampStep (target up down rr : Nat) : Nat :=
  if rr < target then min target (rr + up) else if target < rr then max target (rr - down) else rr

/-- The ramp (R75). -/
def stuRamp (z : SetTable) (v : StuView) (u : Stu) : Stu :=
  { u with rr := match v.drive with
                 | .starting | .run => rampStep (rampTarget z u) z.accel z.decel u.rr
                 | .stopping => rampStep 0 0 z.decel u.rr
                 | .tripStop => rampStep 0 0 z.tripDecel u.rr
                 | .blocked | .closing | .coast | .tripped | .aux => 0 }

/-- The candidate integrator of the speed loop (R77, step 2). -/
def loopCandidate (z : SetTable) (u : Stu) : Int :=
  clampInt 0 ((u.tenv : Int) * 256) (u.y + (z.kiS : Int) * ((u.rr : Int) - u.s))

/-- The unclamped demand (R77, step 3). -/
def loopDemand (z : SetTable) (u : Stu) : Int :=
  tdiv ((z.kpS : Int) * ((u.rr : Int) - u.s)) 256 + tdiv (loopCandidate z u) 256

/-- The integrator keeps its previous value (R77, step 5). -/
def loopHeld (z : SetTable) (u : Stu) : Bool :=
  (decide ((u.tenv : Int) < loopDemand z u) && decide (u.s < u.rr)) ||
  (decide (loopDemand z u < 0) && decide (u.rr < u.s))

/-- The speed loop (R77, R78). -/
def stuLoop (z : SetTable) (v : StuView) (u : Stu) : Stu :=
  if loopRuns v.drive then
    { u with y := if loopHeld z u then clampInt 0 ((u.tenv : Int) * 256) u.y else loopCandidate z u,
             td := clampInt 0 u.tenv (loopDemand z u) }
  else { u with y := 0, td := 0 }

/-- The pinion limit of a motor (R85). -/
def pinionLimit (z : SetTable) (k : ConvState) (h : Thermal) : Nat :=
  if k = .firing then
    if h = .hot then min (min z.tpin (z.imax * z.kt / 16384)) (z.icont * z.kt / 16384)
    else min z.tpin (z.imax * z.kt / 16384)
  else 0

/-- The pinion limits (R85). -/
def stuLimits (z : SetTable) (v : StuView) (u : Stu) : Stu :=
  { u with motors := ⟨{ u.motors.a with limit := pinionLimit z v.convs.a u.motors.a.thermal },
                      { u.motors.b with limit := pinionLimit z v.convs.b u.motors.b.thermal }⟩ }

/-- The two shares and whether a side was lowered (R86). -/
structure Shares where
  a : Int
  b : Int
  limited : Bool
  deriving DecidableEq, Repr

/-- Step 3 of the split: a negative side is set to 0 and its value added to the other (R86). -/
def liftNegative (ta tb : Int) : Int × Int :=
  if ta < 0 then (0, tb + ta) else if tb < 0 then (ta + tb, 0) else (ta, tb)

/-- Step 4 of the split: the pinion limits (R86). -/
def limitShares (la lb : Nat) (ta tb : Int) : Shares :=
  if la < ta then { a := la, b := min (tb + (ta - la)) lb, limited := true }
  else if lb < tb then { a := min (ta + (tb - lb)) la, b := lb, limited := true }
  else { a := ta, b := tb, limited := false }

/-- The split of a total demand (R86). -/
def splitTorque (a : Nat) (trim : Int) (la lb : Nat) (td : Int) : Shares :=
  limitShares la lb (liftNegative (tdiv (td * a) 256 + trim) (td - tdiv (td * a) 256 - trim)).1
    (liftNegative (tdiv (td * a) 256 + trim) (td - tdiv (td * a) 256 - trim)).2

/-- The current reference of a share (R87). -/
def currentRef (z : SetTable) (h : Thermal) (share : Int) : Nat :=
  if h = .hot then min (min (share.toNat * 16384 / z.kt) z.imax) z.icont
  else min (share.toNat * 16384 / z.kt) z.imax

/-- A motor with its share and its current reference (R86, R87). -/
def motorShare (z : SetTable) (share : Int) (d : Motor) : Motor :=
  { d with share := share, iref := currentRef z d.thermal share }

/-- The split of the total demand in force with the limits and the trim as they stand (R86, R87). -/
def stuSplit (z : SetTable) (u : Stu) : Stu :=
  let w := splitTorque z.share u.trim u.motors.a.limit u.motors.b.limit u.td
  { u with motors := ⟨motorShare z w.a u.motors.a, motorShare z w.b u.motors.b⟩, splitLimited := w.limited }

/-- The measured torque of a period-mean current (R88). -/
def measuredTorque (z : SetTable) (i : Nat) : Nat := i * z.kt / 16384

/-- The sharing error (R88). -/
def sharingError (z : SetTable) (means : Pair Nat) : Int :=
  (measuredTorque z means.a : Int) -
  ((measuredTorque z means.a + measuredTorque z means.b) * z.share / 256 : Nat)

/-- The trim is frozen (R88). -/
def trimFrozen (v : StuView) (u : Stu) : Bool :=
  u.splitLimited || decide (v.convs.a ≠ .firing) || decide (v.convs.b ≠ .firing) || decide (u.td < trimFloor)

/-- The trim update (R88). -/
def stuTrim (z : SetTable) (v : StuView) (u : Stu) : Stu :=
  if trimFrozen v u then u
  else { u with trim := clampInt (-(z.trimLimit : Int)) z.trimLimit
                          (u.trim - tdiv (sharingError z v.means * (z.trimGain : Int)) 256) }

/-- The converter-loss test holds (R90). -/
def lossHolds (z : SetTable) (k : Pair ConvState) : Bool :=
  if z.singleDrive then decide (k.a = .off) && decide (k.b = .off) else decide (k.a = .off) || decide (k.b = .off)

/-- The converter-loss test (R90). With the grace flag set in STARTING or RUN the test is not made and the condition is
left as it stands. -/
def stuLoss (z : SetTable) (v : StuView) (u : Stu) : Stu :=
  if drives v.drive then if u.grace then u else { u with lostCond := lossHolds z v.convs }
  else { u with lostCond := false }

/-- The stall test (R92). -/
def stuStall (z : SetTable) (v : StuView) (u : Stu) : Stu :=
  if decide (v.drive = .run) && decide (u.td = u.tenv) && decide (u.s < z.stallSpeed) then
    if z.stallCount ≤ u.stall + 1 then { u with stall := z.stallCount, stallCond := true }
    else { u with stall := u.stall + 1 }
  else { u with stall := 0, stallCond := false }

/-- The stages of the period work up to the speed checks (R67). -/
def stuChecks (z : SetTable) (v : StuView) (u : Stu) : Stu :=
  stuOverspeed z (stuMismatch z (stuMean (stuExclusion (stuSpeeds z v u))))

/-- The stages from the thermal accounts to the split (R67). -/
def stuTorque (z : SetTable) (v : StuView) (u : Stu) : Stu :=
  stuSplit z (stuLimits z v (stuLoop z v (stuRamp z v (stuHold v (stuEnvelope z v (stuWindow z
    (stuThermal z v u)))))))

/-- The last stages (R67); the grace flag is cleared after the converter-loss test (R89). -/
def stuTests (z : SetTable) (v : StuView) (u : Stu) : Stu :=
  stuStall z v { stuLoss z v (stuTrim z v u) with grace := false }

/-- The changes of one motor's conditions (R69). -/
def sensorMsgs (n : Period) (old new : Stu) : List Msg :=
  condMsgs (.speedSensor .a) n old.motors.a.sensorCond new.motors.a.sensorCond ++
  condMsgs (.speedSensor .b) n old.motors.b.sensorCond new.motors.b.sensorCond

/-- The changes of THERMAL_HOT_A and THERMAL_HOT_B (R84). -/
def hotMsgs (n : Period) (old new : Stu) : List Msg :=
  condMsgs (.thermalHot .a) n old.motors.a.hotCond new.motors.a.hotCond ++
  condMsgs (.thermalHot .b) n old.motors.b.hotCond new.motors.b.hotCond

/-- BREAKAWAY_FAILED holds, is reported, and is clear again (R81). -/
def breakMsgs (n : Period) (failed : Bool) : List Msg :=
  if failed then [.cond .breakawayFailed true, .report .breakawayFailed n, .cond .breakawayFailed false] else []

/-- The expiry of the hold timer (R74). -/
def holdMsgs (n : Period) (old new : Stu) : List Msg :=
  condMsgs .referenceHold n old.holdCond new.holdCond ++
  (if new.holdCond && !old.holdCond then [.notice .holdExpired .c] else [])

/-- The messages of the period work, in the order of its stages. -/
def stuMsgs (n : Period) (failed : Bool) (old new : Stu) : List Msg :=
  sensorMsgs n old new ++ condMsgs .pinionMismatch n old.mismatchCond new.mismatchCond ++
  condMsgs .overspeed n old.overspeedCond new.overspeedCond ++ hotMsgs n old new ++ breakMsgs n failed ++
  holdMsgs n old new ++ condMsgs .converterLost n old.lostCond new.lostCond ++
  condMsgs .stall n old.stallCond new.stallCond

/-- A thermal account in 255ths of Qmax (R84, R159). -/
def coarseOf (q : Int) (qmax : Nat) : Int := tdiv (q * 255) qmax

/-- The unit with its values published to the record unit (R67, R159). The accounts are published in 255ths of the Qmax
in force at the publication (log entry 20). -/
def stuPublish (z : SetTable) (u : Stu) : Stu :=
  { u with pub := { rr := u.rr, td := u.td, tenv := u.tenv, trim := u.trim, coarseA := coarseOf u.motors.a.q z.qmax,
                    coarseB := coarseOf u.motors.b.q z.qmax } }

/-- The state after the period work (R67). -/
def stuWork (z : SetTable) (v : StuView) (u : Stu) : Stu :=
  { stuPublish z (stuTests z v (stuTorque z v (stuChecks z v u))) with periodTaken := v.number }

/-- The period work as one operation (R67). -/
def stuPeriod (z : SetTable) (v : StuView) (u : Stu) : Stu × List Msg :=
  (stuWork z v u, stuMsgs v.number (breakFails z (stuChecks z v u)) u (stuWork z v u))

/-- The envelope formed again between period events (R82). -/
def stuReform (z : SetTable) (level : Nat) (drive : Drive) (u : Stu) : Stu :=
  if loopRuns drive && decide ((envelope z level u.window : Int) < u.td) then
    stuSplit z { u with tenv := envelope z level u.window, td := envelope z level u.window,
                        y := clampInt 0 ((envelope z level u.window : Int) * 256) u.y }
  else { u with tenv := envelope z level u.window }

/-- An entry into a state without the speed loop (R76, R78). -/
def stuIdle (u : Stu) : Stu :=
  { u with rr := 0, y := 0, td := 0,
           motors := ⟨{ u.motors.a with share := 0, iref := 0 }, { u.motors.b with share := 0, iref := 0 }⟩ }

/-- The breakaway window at a leaving of STARTING (R81). -/
def stuCloseWindow (z : SetTable) (level : Nat) (drive : Drive) (u : Stu) : Stu :=
  match u.window with
  | none => u
  | some _ => stuReform z level drive { u with window := none }

/-- The breakaway window at an entry into STARTING (R80). -/
def stuOpenWindow (z : SetTable) (level : Nat) (u : Stu) : Stu :=
  if u.motors.a.thermal = .hot ∨ u.motors.b.thermal = .hot then u
  else stuReform z level .starting { u with window := some 0 }

/-- An entry into STARTING or RUN from CLOSING or COAST sets the grace flag (R89). -/
def graceEntry (old new : Drive) : Bool :=
  drives new && (decide (old = .closing) || decide (old = .coast))

/-- The values an entry sets before the window (R76, R78, R88, R89). -/
def stuEntry (old new : Drive) (u : Stu) : Stu :=
  match new with
  | .closing => { stuIdle u with trim := 0 }
  | .blocked | .coast | .tripped | .aux => stuIdle u
  | .run => { u with rr := if old = .coast then u.s else u.rr, grace := u.grace || graceEntry old new }
  | .starting => { u with grace := u.grace || graceEntry old new }
  | .stopping | .tripStop => u

/-- A change of the drive state as it reaches the unit (R76, R78, R80, R81, R82, R88, R89). -/
def stuDrive (z : SetTable) (level : Nat) (old new : Drive) (u : Stu) : Stu :=
  if new = .starting then stuOpenWindow z level (stuEntry old new u)
  else if old = .starting then stuCloseWindow z level new (stuEntry old new u)
  else stuEntry old new u

/-- SPEED REF (R73). -/
def stuSpeedRef (z : SetTable) (value : Nat) (u : Stu) : Stu × List Msg :=
  ({ u with stationRef := some value, hold := .running z.holdTime, holdCond := false },
   condMsgs .referenceHold u.periodTaken u.holdCond false)

/-- A tooth arrival of pinion `x` (R69): an excluded pinion is readmitted. -/
def stuTooth (x : Side) (u : Stu) : Stu × List Msg :=
  if (u.motors.get x).excluded then
    ({ u with motors := u.motors.put x { u.motors.get x with excluded := false, exclCount := 0, sensorCond := false } },
     condMsgs (.speedSensor x) u.periodTaken (u.motors.get x).sensorCond false)
  else (u, [])

/-- An apply of Qmax or Qwarn (R83, R84): an account above the new Qmax is set to it, and the states are taken again. -/
def stuThermalApply (z : SetTable) (u : Stu) : Stu × List Msg :=
  let w := { u with motors := ⟨thermalTaken z { u.motors.a with q := min u.motors.a.q z.qmax },
                               thermalTaken z { u.motors.b with q := min u.motors.b.q z.qmax }⟩ }
  (w, hotMsgs u.periodTaken u w)

end Sys2Proof.Machine
end

