-- ==== Sys2Proof/Machine/Synchroniser.lean ====
section
/-! DEFINITION. The mains synchroniser (chapter 1): what a qualified crossing, a timeout, a window close, a reference
edge and a substitute period event do to its own state, and what it publishes. -/

namespace Sys2Proof.Machine

/-- What the synchroniser publishes: an entry into LOCKED, sync lost (R4), the report of a reversed sequence (R9). -/
inductive SyncEvent where
  | locked
  | lost
  | reversed
  deriving DecidableEq, Repr

/-- The qualifier of a zero-cross line. -/
def Msy.line (m : Msy) : ZLine → Qualifier
  | .za => m.za
  | .zb => m.zb
  | .zc => m.zc

/-- The synchroniser with the qualifier of a zero-cross line replaced. -/
def Msy.putLine (m : Msy) (l : ZLine) (q : Qualifier) : Msy :=
  match l with
  | .za => { m with za := q }
  | .zb => { m with zb := q }
  | .zc => { m with zc := q }

/-- An entry into SEEK (R5). The timeout stops at every leaving of LOCKING (R7). -/
def msySeek (m : Msy) : Msy :=
  { m with sync := .seek, ring := [], pEst := substPeriod, count := 0, missCount := 0, lockStart := none,
           prevValid := none, lockTimeout := none, prediction := none, pendingEdge := none, waitingEdge := none }

/-- A period joins the ring; the oldest is dropped when the ring already holds four (R6, R13). -/
def pushPeriod (ring : List Nat) (p : Nat) : List Nat := (ring ++ [p]).drop (ring.length + 1 - 4)

/-- The mean of the periods in the ring, truncated (R8, R13); `p` where the ring is empty. -/
def ringMean (ring : List Nat) (p : Nat) : Nat := if ring.isEmpty then p else ring.sum / ring.length

/-- The window half-width in ticks (R10). -/
def windowTicks (h pEst : Nat) : Nat := h * pEst / anglePeriod

/-- A new prediction with its window, open and unserved (R10); it becomes the pending reference edge where none is
pending, and otherwise waits (R11). -/
def msyPredict (h : Nat) (pred : Tick) (m : Msy) : Msy :=
  match m.pendingEdge with
  | none => { m with prediction := some { pred := pred, half := windowTicks h m.pEst, served := false },
                     pendingEdge := some pred }
  | some _ => { m with prediction := some { pred := pred, half := windowTicks h m.pEst, served := false },
                       waitingEdge := some pred }

/-- The first qualified reference crossing in SEEK enters LOCKING (R5, R7). -/
def msyEnterLocking (c : Tick) (m : Msy) : Msy :=
  { m with sync := .locking, lockStart := some c, count := 0, ring := [], prevValid := none,
           lockTimeout := some (plus c lockingTicks) }

/-- A period is valid (R6): in range, and within one sixteenth of the previous valid period where there is one. -/
def periodValid (prev : Option Nat) (p : Nat) : Bool :=
  decide (periodMin ≤ p) && decide (p ≤ periodMax) &&
  match prev with
  | none => true
  | some v => decide (p ≤ v + v / 16) && decide (v ≤ p + v / 16)

/-- The angle of the last rising stamp `z` in the period `p` that began at `c0`, where it lies in that period (R8). -/
def phaseAngle (z : Option Tick) (c0 : Tick) (p : Nat) : Option Nat :=
  match z with
  | none => none
  | some z => if since z c0 < p then some (since z c0 * anglePeriod / p) else none

/-- `x` lies within `tol` of `target` (R8). -/
def withinTol (x target tol : Nat) : Bool := decide (target ≤ x + tol) && decide (x ≤ target + tol)

/-- The two angles are those of a normal (120°, 240°) or of a reversed sequence, or neither (R8). -/
inductive Sequence where
  | correct | reversed | unclear
  deriving DecidableEq, Repr

/-- The outcome of the phase check for the angles of ZB and ZC (R8). -/
def phaseCheck (tol : Nat) : Option Nat → Option Nat → Sequence
  | some zb, some zc =>
    if withinTol zb 16384 tol && withinTol zc 32768 tol then .correct
    else if withinTol zb 32768 tol && withinTol zc 16384 tol then .reversed
    else .unclear
  | _, _ => .unclear

/-- The entry into LOCKED at the crossing `c` (R8). The timeout stops (R7), and MAINS_SEQUENCE is clear (R9). -/
def msyEnterLocked (h : Nat) (c : Tick) (m : Msy) : Msy :=
  msyPredict h (plus c (ringMean m.ring m.pEst))
    { m with sync := .locked, pEst := ringMean m.ring m.pEst, lastAccepted := some c, gap := false, missCount := 0,
             lockTimeout := none, seqCond := false }

/-- The settlement check of R8 on the period `p` from `c0` to `c`. -/
def msySettle (h : Nat) (c0 c : Tick) (p : Nat) (m : Msy) : Msy × List SyncEvent :=
  match phaseCheck h (phaseAngle m.lastZb c0 p) (phaseAngle m.lastZc c0 p) with
  | .correct => (msyEnterLocked h c m, [.locked])
  | .reversed => (msySeek { m with seqCond := true }, [.reversed])
  | .unclear => ({ m with count := 0, ring := [], prevValid := none }, [])

/-- A qualified reference crossing in LOCKING (R6, R7). -/
def msyLockingCrossing (settle h : Nat) (c : Tick) (m : Msy) : Msy × List SyncEvent :=
  match m.lockStart with
  | none => (msyEnterLocking c m, [])
  | some c0 =>
    if periodValid m.prevValid (since c c0) then
      if settle ≤ m.count + 1 then
        msySettle h c0 c (since c c0)
          { m with lockStart := some c, lockTimeout := some (plus c lockingTicks),
                   ring := pushPeriod m.ring (since c c0), prevValid := some (since c c0), count := m.count + 1 }
      else
        ({ m with lockStart := some c, lockTimeout := some (plus c lockingTicks),
                  ring := pushPeriod m.ring (since c c0), prevValid := some (since c c0), count := m.count + 1 }, [])
    else
      ({ m with lockStart := some c, lockTimeout := some (plus c lockingTicks), count := 0, ring := [],
                prevValid := none }, [])

/-- The ring after an acceptance at `c` (R13): the measured period joins where the gap flag is clear and it is in range. -/
def ringAfter (m : Msy) (c : Tick) : List Nat :=
  match m.lastAccepted with
  | none => m.ring
  | some a =>
    if !m.gap && decide (periodMin ≤ since c a) && decide (since c a ≤ periodMax) then pushPeriod m.ring (since c a)
    else m.ring

/-- The stamp lies inside the window [pred − w, pred + w] (R10, R12). -/
def insideWindow (w : Prediction) (c : Tick) : Bool := decide (since c (minus w.pred w.half) ≤ 2 * w.half)

/-- The acceptance of a crossing (R12, its five steps in order). Step 1's mark is overtaken by step 3, which opens the
next window. -/
def msyAccept (h : Nat) (c : Tick) (m : Msy) : Msy :=
  { msyPredict h (plus c (ringMean (ringAfter m c) m.pEst))
      { m with ring := ringAfter m c, pEst := ringMean (ringAfter m c) m.pEst } with
    lastAccepted := some c, gap := false, missCount := 0, sync := .locked, seqCond := false }

/-- A qualified reference crossing in LOCKED or HOLDOVER (R12). -/
def msyTrackingCrossing (h : Nat) (c : Tick) (m : Msy) : Msy × List SyncEvent :=
  match m.prediction with
  | none => (m, [])
  | some w =>
    if !w.served && insideWindow w c then
      (msyAccept h c m, if m.sync = .locked then [] else [.locked])
    else (m, [])

/-- A qualified reference crossing stamped `c`, by the rule of the sync state in force (R3). Where the close of its own
window comes first and loses sync, R12 gives the crossing no effect and R5 has the first crossing in SEEK enter LOCKING;
the model takes it by R5 (DEDUCED, log entry 21). -/
def msyCrossing (settle h : Nat) (c : Tick) (m : Msy) : Msy × List SyncEvent :=
  match m.sync with
  | .seek => (msyEnterLocking c m, [])
  | .locking => msyLockingCrossing settle h c m
  | .locked => msyTrackingCrossing h c m
  | .holdover => msyTrackingCrossing h c m

/-- A candidate of `l` becomes the qualified level and delivers its crossing (R3). -/
def msyQualify (settle h : Nat) (l : ZLine) (c : Candidate) (m : Msy) : Msy × List SyncEvent :=
  if c.level then
    match l with
    | .za => msyCrossing settle h c.stamp (m.putLine .za (qualTake c))
    | .zb => ({ m.putLine .zb (qualTake c) with lastZb := some c.stamp }, [])
    | .zc => ({ m.putLine .zc (qualTake c) with lastZc := some c.stamp }, [])
  else (m.putLine l (qualTake c), [])

/-- Sync loss (R16): SEEK, no pending real origin, and the substitute timer started from the edge of the window just
missed. -/
def msyLose (edge : Tick) (m : Msy) : Msy :=
  { msySeek m with origins := m.origins.filter (fun g => decide (g.kind ≠ .real)), subst := some edge }

/-- The close of the window `w` of the latest prediction, unserved (R14). -/
def msyMiss (holdover h : Nat) (w : Prediction) (m : Msy) : Msy × List SyncEvent :=
  if holdover < m.missCount + 1 then (msyLose w.pred { m with missCount := m.missCount + 1, gap := true }, [.lost])
  else
    (msyPredict h (plus w.pred m.pEst)
      { m with missCount := m.missCount + 1, gap := true, sync := .holdover }, [])

/-- The instant at which a window closes (R10). -/
def closeInstant (w : Prediction) : Tick := plus w.pred (w.half + crossPersist)

/-- The origin of thyristor `n` for an edge at `pred` (R17, R19). -/
def originOf (pred : Tick) (offset pEst : Nat) (n : Period) (kind : OriginKind) (y : Thy) : Origin :=
  { stamp := plus pred (((offset + (thyNumber y - 1) * 8192) % anglePeriod) * pEst / anglePeriod), thy := y,
    period := n, kind := kind, length := pEst }

/-- Two origins in the order of the list: by instant, and at one instant by thyristor number (R18). -/
def originBefore (g k : Origin) : Bool :=
  before g.stamp k.stamp || (decide (g.stamp = k.stamp) && decide (thyNumber g.thy < thyNumber k.thy))

/-- An origin joins the ordered list (R18). -/
def insertOrigin (g : Origin) : List Origin → List Origin
  | [] => [g]
  | k :: ks => if originBefore g k then g :: k :: ks else k :: insertOrigin g ks

/-- The six origins of an edge join the list of pending origins (R17, R18). -/
def addOrigins (pred : Tick) (offset pEst : Nat) (n : Period) (kind : OriginKind) (gs : List Origin) : List Origin :=
  allThys.foldl (fun acc y => insertOrigin (originOf pred offset pEst n kind y) acc) gs

/-- The reference edge issued as `x` says (R11): the period number, the six real origins, the next pending edge; the
first edge after entry into LOCKED stops the substitute timer and cancels the pending substitute origins. -/
def msyEdge (x : EdgeIssue) (m : Msy) : Msy :=
  { m with period := m.period + 1#32,
           origins := addOrigins x.pred x.offset x.pEst (m.period + 1#32) .real
             (m.origins.filter (fun g => decide (g.kind ≠ .substitute))),
           subst := none, pendingEdge := m.waitingEdge, waitingEdge := none }

/-- The substitute period event at `t` (R19). -/
def msySubstitute (t : Tick) (m : Msy) : Msy :=
  { m with period := m.period + 1#32,
           origins := addOrigins t 0 substPeriod (m.period + 1#32) .substitute m.origins, subst := some t }

/-- Reference edges are issued in LOCKED and HOLDOVER (R11). -/
def tracking (m : Msy) : Bool := decide (m.sync = .locked) || decide (m.sync = .holdover)

/-- The instant of the reference edge now due, if any (R11). -/
def edgeDue (m : Msy) : Option Tick := if tracking m then m.pendingEdge else none

/-- The instant of the substitute period event now due, if the timer runs (R19). -/
def substDue (m : Msy) : Option Tick := m.subst.map (fun t => plus t substPeriod)

/-- The instant of the next period event of either kind, where one is due. -/
def nextPeriodEvent (m : Msy) : Option Tick :=
  match edgeDue m, substDue m with
  | none, u => u
  | some e, none => some e
  | some e, some u => if notAfter e u then some e else some u

end Sys2Proof.Machine
end

