-- ==== Sys2Proof/Machine/Vibration.lean ====
section
/-! DEFINITION. The vibration watch (chapter 5): what a publication of speeds, a marker, a scan, a deadline, a
sensor-fault change, a clearing and an apply do to a channel, and how a change of a channel is published. -/

namespace Sys2Proof.Machine

/-- The evaluating states (section 5.1). -/
def evaluating : ChanState → Bool
  | .learning | .normal | .alert | .danger => true
  | .paused | .unreferenced | .sensorFault => false

/-- The reference speed of a channel, of the three speeds published (section 5.1). -/
def refSpeed (m : Marker) (sa sb s : Nat) : Nat :=
  match m with
  | .ka => sa
  | .kb => sb
  | .ks => s

/-- The marker deadline set from the instant `t` (R99). -/
def deadlineFrom (t : Tick) (trev : Option Nat) : Tick :=
  match trev with
  | none => plus t markerTicks
  | some r => plus t (2 * r)

/-- A channel with its three persistence counters at 0. -/
def clearCounters (c : VChan) : VChan := { c with alert := 0, danger := 0, release := 0 }

/-- An entry into PAUSED (R96). -/
def enterPaused (c : VChan) : VChan :=
  { clearCounters c with state := .paused, held := none, acc := revAccClear, phase := .wait, deadline := none }

/-- A channel leaves PAUSED at `t` (R95). -/
def leavePaused (p : Profile) (t : Tick) (c : VChan) : VChan :=
  { c with state := if c.completed < 2 ^ p.w then .learning else .normal, phase := .wait,
           deadline := some (deadlineFrom t c.trev) }

/-- The test of a channel against the watch minimum (R95). -/
def speedTest (low : Nat) (p : Profile) (speed : Nat) (t : Tick) (c : VChan) : VChan :=
  match c.state with
  | .sensorFault => c
  | .paused => if speed < low then c else leavePaused p t c
  | .learning | .normal | .alert | .danger | .unreferenced => if speed < low then enterPaused c else c

/-- A marker stamped `t` starts timing (R97). -/
def startTiming (t : Tick) (c : VChan) : VChan :=
  { c with lastMarker := some t, phase := .timing, acc := revAccClear, deadline := some (deadlineFrom t c.trev) }

/-- A marker stamped `t` is rejected (R97). -/
def markerRejected (t last : Tick) (trev : Option Nat) : Bool :=
  match trev with
  | none => false
  | some r => decide (since t last < r / 2)

/-- One bin of the average table after a revolution (R102). -/
def binUpdate (w : Nat) (avg sum : Int) (count : Nat) : Int :=
  if count = 0 then avg else avg + tdiv (tdiv sum count - avg) (2 ^ w : Nat)

/-- The average table after a revolution (R102). -/
def tableUpdate (w : Nat) (table : List Int) (acc : RevAcc) : List Int :=
  (table.zip (acc.sums.zip acc.counts)).map (fun x => binUpdate w x.1 x.2.1 x.2.2)

/-- The greatest bin less the least (R103). -/
def syncFigure (table : List Int) : Nat :=
  match table with
  | [] => 0
  | x :: xs => (xs.foldl max x - xs.foldl min x).toNat

/-- The residual figure (R103). -/
def residFigure (acc : RevAcc) : Nat := if acc.total = 0 then 0 else isqrt (acc.sumSq / acc.total)

/-- A counter that goes on when `hit` and is set to 0 otherwise, saturating at 64 (R105). -/
def persistNext (hit : Bool) (n : Nat) : Nat := if hit then min (n + 1) 64 else 0

/-- The release counter's test in a state (R105). -/
def releaseHit (p : Profile) (c : VChan) : Bool :=
  match c.state with
  | .alert => decide (c.sync < p.syncAlert * 7 / 8) && decide (c.resid < p.residAlert * 7 / 8)
  | .danger => decide (c.sync < p.syncDanger * 7 / 8) && decide (c.resid < p.residDanger * 7 / 8)
  | _ => false

/-- The persistence counters advanced (R105). -/
def advanceCounters (p : Profile) (c : VChan) : VChan :=
  { c with alert := persistNext (decide (p.syncAlert ≤ c.sync) || decide (p.residAlert ≤ c.resid)) c.alert,
           danger := persistNext (decide (p.syncDanger ≤ c.sync) || decide (p.residDanger ≤ c.resid)) c.danger,
           release := persistNext (releaseHit p c) c.release }

/-- The grade that the tests of R106 decide. -/
def gradeNext (p : Profile) (c : VChan) : ChanState :=
  match c.state with
  | .normal => if p.nDanger ≤ c.danger then .danger else if p.nAlert ≤ c.alert then .alert else .normal
  | .alert => if p.nDanger ≤ c.danger then .danger else if p.nRelease ≤ c.release then .normal else .alert
  | .danger => if p.nRelease ≤ c.release then .alert else .danger
  | s => s

/-- The grade decided (R106); the release counter is 0 after a change of grade (R107). -/
def takeGrade (p : Profile) (c : VChan) : VChan :=
  { c with state := gradeNext p c, release := if gradeNext p c = c.state then c.release else 0 }

/-- What follows the figures at a completion (R104, R105, R106). -/
def gradeStep (p : Profile) (c : VChan) : VChan :=
  match c.state with
  | .learning => if 2 ^ p.w ≤ c.completed then { clearCounters c with state := .normal } else clearCounters c
  | _ => takeGrade p (advanceCounters p c)

/-- The work of a completed revolution (R102 to R106). -/
def completeRevolution (p : Profile) (c : VChan) : VChan :=
  gradeStep p
    { c with table := tableUpdate p.w c.table c.acc, serial := (c.serial + 1) % 65536,
             sync := syncFigure (tableUpdate p.w c.table c.acc), resid := residFigure c.acc,
             acc := revAccClear, completed := min (c.completed + 1) 64 }

/-- A marker that completes a revolution begun at `last` (R98). -/
def markerCompletes (p : Profile) (t last : Tick) (c : VChan) : VChan :=
  match c.phase with
  | .running =>
    completeRevolution p { c with trev := some (min (since t last) trevMax), lastMarker := some t,
                                  deadline := some (deadlineFrom t (some (min (since t last) trevMax))) }
  | .timing | .wait =>
    { c with trev := some (min (since t last) trevMax), lastMarker := some t, phase := .running,
             deadline := some (deadlineFrom t (some (min (since t last) trevMax))) }

/-- A marker taken in an evaluating state, and whether it completed a revolution (R97, R98). -/
def markerEvaluating (p : Profile) (t : Tick) (c : VChan) : VChan × Bool :=
  match c.phase, c.lastMarker with
  | .wait, _ => (startTiming t c, false)
  | _, none => (startTiming t c, false)
  | _, some last =>
    if markerRejected t last c.trev then (c, false) else (markerCompletes p t last c, true)

/-- The state a channel in UNREFERENCED returns to (R100). -/
def heldState (c : VChan) : ChanState :=
  match c.held with
  | none => .learning
  | some h => h.state

/-- A marker record stamped `t` reaches a channel (R96, R97, R100, R110). -/
def takeMarker (p : Profile) (t : Tick) (c : VChan) : VChan × Bool :=
  match c.state with
  | .paused => (c, false)
  | .sensorFault => (c, false)
  | .unreferenced => ({ startTiming t c with state := heldState c, held := none }, false)
  | .learning | .normal | .alert | .danger => markerEvaluating p t c

/-- The bin of a sample `d` ticks past the last marker (R101). -/
def binOf (d trev : Nat) : Nat := min (64 * d / trev) 63

/-- The accumulators with the sample `x` in bin `b` (R101). -/
def accAdd (table : List Int) (b : Nat) (x : Int) (a : RevAcc) : RevAcc :=
  { sums := a.sums.set b (a.sums.getD b 0 + x), counts := a.counts.set b (a.counts.getD b 0 + 1),
    sumSq := a.sumSq + (x - table.getD b 0).natAbs * (x - table.getD b 0).natAbs, total := a.total + 1 }

/-- A scan record reaches a channel (R101). -/
def takeScan (x : Int) (t : Tick) (c : VChan) : VChan :=
  if evaluating c.state then
    match c.phase, c.lastMarker, c.trev with
    | .running, some m, some r => { c with acc := accAdd c.table (binOf (since t m) r) x c.acc }
    | _, _, _ => c
  else c

/-- The marker deadline passes (R99). -/
def takeDeadline (c : VChan) : VChan :=
  if evaluating c.state then
    { c with state := .unreferenced, held := some { state := c.state, contribution := c.contribution },
             acc := revAccClear, phase := .wait, deadline := none }
  else c

/-- The channel is sensor-faulted (R110). -/
def sensorFaultSet (c : VChan) : VChan :=
  { clearCounters c with state := .sensorFault, held := none, acc := revAccClear, phase := .wait, deadline := none }

/-- The values a clearing of the table sets (R112). -/
def clearTableValues (markerChanged : Bool) (c : VChan) : VChan :=
  { clearCounters c with table := tableClear, acc := revAccClear, sync := 0, resid := 0, completed := 0, serial := 0,
                         phase := .wait, trev := if markerChanged then none else c.trev }

/-- The table of a channel is cleared at `t` (R112). -/
def clearChannel (markerChanged : Bool) (t : Tick) (c : VChan) : VChan :=
  match c.state with
  | .paused => { clearTableValues markerChanged c with deadline := none }
  | .sensorFault => { clearTableValues markerChanged c with deadline := none }
  | .learning | .normal | .alert | .danger | .unreferenced =>
    { clearTableValues markerChanged c with
      state := .learning, held := none, deadline := some (deadlineFrom t (clearTableValues markerChanged c).trev) }

/-- The channel leaves SENSOR_FAULT at `t` (R111). -/
def sensorFaultClear (low speed : Nat) (t : Tick) (c : VChan) : VChan :=
  if speed < low then { clearChannel false t c with state := .paused }
  else { clearChannel false t c with state := .learning, deadline := some (deadlineFrom t c.trev) }

/-- A profile is taken in place of `old` (R113): a change of the marker or of the weight clears the table. -/
def takeProfile (old new : Profile) (t : Tick) (c : VChan) : VChan :=
  if old.marker ≠ new.marker ∨ old.w ≠ new.w then clearChannel (decide (old.marker ≠ new.marker)) t c else c

/-- The contribution of a channel (section 5.1, R107, R108). -/
def contributionOf (a : Action) (c : VChan) : Nat :=
  match c.state with
  | .paused | .learning | .normal => 0
  | .alert => a.alertLevel
  | .danger => 3
  | .unreferenced => match c.held with
    | none => 0
    | some h => h.contribution
  | .sensorFault => a.faultLevel

/-- A channel is in DANGER or held from it (R109). -/
def inDanger (c : VChan) : Bool :=
  match c.state with
  | .danger => true
  | .unreferenced => match c.held with
    | none => false
    | some h => decide (h.state = .danger)
  | _ => false

/-- A channel with its contribution and its conditions taken again for its state and action (R107, R109, R110). -/
def settleChannel (a : Action) (c : VChan) : VChan :=
  { c with contribution := contributionOf a c, dangerCond := a.dangerTrip && inDanger c,
           sensorCond := decide (c.state = .sensorFault) }

/-- The derate level of four channels (R108). -/
def levelOf (q : Quad VChan) : Nat :=
  max (max q.c0.contribution q.c1.contribution) (max q.c2.contribution q.c3.contribution)

/-- The notices of a change of a channel and of the derate level (R107, R108). -/
def vwaNotices (old new : VChan) (level level' : Nat) : List Msg :=
  (if old.state = new.state then [] else [.notice .channel .m]) ++
  (if level = level' then [] else [.notice .derate .c, .notice .derate .p, .notice .derate .m])

/-- Channel `n` becomes `c`: contribution, conditions and derate level are taken again and published (R107 to R110). -/
def vwaPut (a : Action) (n : Chan) (c : VChan) (v : Vwa) : Vwa × List Msg :=
  let old := v.chans.get n
  let new := settleChannel a c
  let chans := v.chans.put n new
  ({ v with chans := chans, level := levelOf chans },
   vwaNotices old new v.level (levelOf chans) ++
   condMsgs (.vibDanger n) v.periodTaken old.dangerCond new.dangerCond ++
   condMsgs (.vibSensor n) v.periodTaken old.sensorCond new.sensorCond)

/-- Where the speeds of the period event `n` have brought channel `k` from the state `old` out of PAUSED ahead of the
watch's own taking of that event, the watch notes the profile then staged for it (R113). -/
def vwaWake (n : Period) (k : Chan) (old : ChanState) (staged : Option SetValue) (v : Vwa) : Vwa :=
  let wakes := decide (old = .paused) && decide ((v.chans.get k).state ≠ .paused) && decide (v.periodTaken ≠ n)
  { v with woken := v.woken.put k (if wakes then staged else none) }

/-- A profile is written for channel `k`: what was noted of it no longer stands (R182, R186). -/
def vwaRewritten (k : Chan) (v : Vwa) : Vwa := { v with woken := v.woken.put k none }

/-- The channel takes the profile `staged` for it at a period event (R113, R186): by its state as the watch comes to it,
and where the profile was staged while the channel was PAUSED and the speeds of this period event, taken first, have
brought it out (`woken`). So every profile written before the first period event after a reset is taken at that event
(R190); that the same holds at any other period event is DEDUCED (log entry 25). A profile staged since then on the
channel in LEARNING is held until its next completion (R186). -/
def takesAtPeriod (woken staged : Option SetValue) (c : VChan) : Bool :=
  (woken.isSome && decide (woken = staged)) || match c.state with
  | .paused | .unreferenced | .sensorFault => true
  | .learning | .normal | .alert | .danger => false

end Sys2Proof.Machine
end

