-- ==== Sys2Proof/Machine/Wiring.lean ====
section
/-! DEFINITION. How what one block sends reaches the others: notices, conditions and reports (R140 to R148, R199), a
change of the drive state (R119, R120), the hand-over of applied settings (R187), a change of a vibration channel, the
takings of an origin (R18) and of a period event (R2, R67, R159, R184). -/

namespace Sys2Proof.Machine

/-- The converter controller of a side. -/
def State.conv (s : State) : Side → Conv
  | .a => s.cca
  | .b => s.ccb

/-- The state with the converter controller of a side replaced. -/
def State.putConv (s : State) (x : Side) (c : Conv) : State :=
  match x with
  | .a => { s with cca := c }
  | .b => { s with ccb := c }

/-- Notice `k` is raised to station `st` (R199). -/
def raise (k : Notice) (st : Station) (s : State) : State := { s with links := raiseAt k st s.links }

/-- Notice `k` is raised to each station of a list (R199). -/
def raiseTo (k : Notice) (sts : List Station) (s : State) : State := sts.foldl (fun u st => raise k st u) s

/-- A published change of a condition reaches the protection unit (R140, R143). -/
def takeCond (k : Cause) (holding : Bool) (s : State) : State := { s with pru := pruCond k holding s.pru }

/-- A report of class W is taken (R142), also one that waited until its condition was clear again: it is taken as a
report (R140), so WARNING is raised, and its kind has left the warning set again (R143; DEDUCED, log entry 23). -/
def takeWarning (k : Cause) (s : State) : State :=
  if s.pru.warnings.contains k then s
  else raiseTo .warning [.c, .p] { s with pru := pruWarn k s.pru }

/-- A message whose reports are of class W, as those of an apply at a drive-state change are (THERMAL_HOT_x, R84). -/
def takeMild (s : State) (m : Msg) : State :=
  match m with
  | .cond k holding => takeCond k holding s
  | .report k _ => takeWarning k s
  | .notice k st => raise k st s
  | .capture x c => { s with rcu := rcuTakeCapture x c s.rcu }

/-- Both converters take an apply of the angle limits (R65). -/
def handAngles (s : State) : State :=
  { s with cca := convAngleApply s.set s.cca, ccb := convAngleApply s.set s.ccb }

/-- The speed and torque unit takes an apply of Qmax or Qwarn (R83, R84). -/
def handThermal (s : State) : State :=
  (stuThermalApply s.set s.stu).2.foldl takeMild { s with stu := (stuThermalApply s.set s.stu).1 }

/-- The hand-over of applied settings of class STOPPED (R187), with the drive state as the speed and torque unit has
it. -/
def handStopped (drive : Drive) (ids : List Nat) (s : State) : State :=
  let s1 := if ids.contains 21 || ids.contains 22 then handAngles s else s
  let s2 := if ids.any (fun id => decide (49 ≤ id) && decide (id ≤ 53)) then
              { s1 with stu := stuReform s1.set s1.vwa.level drive s1.stu } else s1
  if ids.contains 58 || ids.contains 59 then handThermal s2 else s2

/-- APPLIED is raised to the owners of the settings applied (R188). -/
def tellOwners (ids : List Nat) (s : State) : State := raiseTo .applied (ownersOf ids) s

/-- The settings table takes an entry of the drive (R185), with the drive state as the speed and torque unit has it. -/
def setEntry (stuDrive new : Drive) (s : State) : State :=
  if stoppedState new then
    handStopped stuDrive (appliedIds atEntry s.set) (tellOwners (appliedIds atEntry s.set)
      { s with set := { applyClasses atEntry s.set with driveView := new } })
  else { s with set := { s.set with driveView := new } }

/-- One converter takes the enable as sent, where it differs from the one last sent (R40, R41, R120). -/
def convTakeEnable (old new : Bool) (sync : SyncState) (c : Conv) : Conv :=
  if old = new then c else if new then convEnable sync c else convDisable c

/-- The converters, the speed and torque unit, the protection unit and the record unit take a change of the drive
state, and DRIVE_STATE is raised (R119, R120). -/
def driveTold (old : Dsq) (s : State) : State :=
  raiseTo .driveState [.c, .p]
    { s with cca := convTakeEnable old.enable s.dsq.enable s.msy.sync s.cca,
             ccb := convTakeEnable old.enable s.dsq.enable s.msy.sync s.ccb,
             stu := stuDrive s.set s.vwa.level old.drive s.dsq.drive s.stu,
             pru := { s.pru with driveView := s.dsq.drive },
             rcu := { s.rcu with driveView := s.dsq.drive } }

/-- The sequencer becomes `d`. Where the drive state changes, the other blocks take the change, the settings table
before or after the rest (R119, R185). The converters' taking of the enable and the apply of an entry into a stopped
state are one act, so no origin comes between them: none is fired in RETARD at the old αmax before the apply of the
entry that withdrew the enable, though R65 and section 9.6 leave that order open (DESIGN CHOICE, log entry 24). -/
def moveDrive (o : Sched) (d : Dsq) (s : State) : State :=
  if d.drive = s.dsq.drive then { s with dsq := d }
  else if o.applyFirst then driveTold s.dsq (setEntry s.dsq.drive d.drive { s with dsq := d })
  else setEntry d.drive d.drive (driveTold s.dsq { s with dsq := d })

/-- A trip demand reaches the sequencer (R129, R146). -/
def demand (o : Sched) (c : Class) (s : State) : State := moveDrive o (dsqDemand c s.dsq) s

/-- Notices that the record unit raises. -/
def raiseAll (ms : List Msg) (s : State) : State := ms.foldl takeMild s

/-- A report opens an episode (R144): the record trigger, then EPISODE; the trip demand of its class is sent. -/
def openEpisode (k : Cause) (c : Class) (s : State) : State :=
  let t := rcuTrigger s.set k c s.pru.driveView s.rcu
  raiseTo .episode [.c, .p, .m] (raiseAll t.2 { s with pru := { pruOpen k c s.pru with record := t.1.pinned }, rcu := t.1 })

/-- A rise of the episode class raises EPISODE and sends a new demand (R145). -/
def classRise (c : Class) (rises : Bool) (s : State) : State × Option Class :=
  if rises then (raiseTo .episode [.c, .p, .m] s, some c) else (s, none)

/-- A report of class B, F or S is taken in an ACTIVE episode (R145), with the demand it sends. -/
def latchReport (k : Cause) (n : Period) (c : Class) (s : State) : State × Option Class :=
  match latchingOf k c s.pru with
  | .same => (s, none)
  | .raised => classRise c (classRises c s.pru) { s with pru := pruLatch k c s.pru }
  | .fresh => classRise c (classRises c s.pru) { s with pru := pruLatch k c s.pru, rcu := rcuSub k n s.rcu }

/-- A report of class B, F or S is taken (R144, R145), with the demand it sends. -/
def takeCause (k : Cause) (n : Period) (c : Class) (s : State) : State × Option Class :=
  if s.pru.active then latchReport k n c s else (openEpisode k c s, some c)

/-- A report is taken by the protection unit with the class in force for its kind (R140, R142, R144, R145), with the
trip demand it sends, if any (R146). -/
def judge (k : Cause) (n : Period) (s : State) : State × Option Class :=
  match s.set.classInForce k with
  | .w => (takeWarning k s, none)
  | .b => takeCause k n .b s
  | .f => takeCause k n .f s
  | .s => takeCause k n .s s

/-- A report is taken, and the sequencer takes the demand it sends at once. -/
def takeReport (o : Sched) (k : Cause) (n : Period) (s : State) : State :=
  match (judge k n s).2 with
  | none => (judge k n s).1
  | some c => demand o c (judge k n s).1

/-- A message of a block is taken. -/
def takeMsg (o : Sched) (s : State) (m : Msg) : State :=
  match m with
  | .cond k holding => takeCond k holding s
  | .report k n => takeReport o k n s
  | .notice k st => raise k st s
  | .capture x c => { s with rcu := rcuTakeCapture x c s.rcu }

/-- The messages of a block are taken, in the order `o` gives (R148). -/
def deliver (o : Sched) (ms : List Msg) (s : State) : State := (orderMsgs o ms).foldl (takeMsg o) s

/-- A report or a trip demand on its way. -/
inductive Mail where
  | msg (m : Msg)
  | demand (c : Class)
  deriving DecidableEq, Repr

/-- A moment at which several blocks act (R1, R2): the part, and what has been sent and not yet taken, oldest first. -/
structure Flow where
  state : State
  mail : List Mail
  deriving DecidableEq, Repr

/-- A trip demand is sent: it waits where `later` still has the sequencer take demands (R90, R146). -/
def Flow.send (o : Sched) (later : List Taking) (c : Class) (f : Flow) : Flow :=
  if later.contains .demand then { f with mail := f.mail ++ [.demand c] } else { f with state := demand o c f.state }

/-- A report is taken by the protection unit, and the demand it sends is sent. -/
def Flow.report (o : Sched) (later : List Taking) (k : Cause) (n : Period) (f : Flow) : Flow :=
  match (judge k n f.state).2 with
  | none => { f with state := (judge k n f.state).1 }
  | some c => Flow.send o later c { f with state := (judge k n f.state).1 }

/-- A message is taken at once. -/
def Flow.take (o : Sched) (later : List Taking) (f : Flow) (m : Msg) : Flow :=
  match m with
  | .report k n => Flow.report o later k n f
  | .cond k holding => { f with state := takeCond k holding f.state }
  | .notice k st => { f with state := raise k st f.state }
  | .capture x c => { f with state := { f.state with rcu := rcuTakeCapture x c f.state.rcu } }

/-- A message waits: the report of a kind whose taking is still to come in `later` (R148). -/
def mustWait (later : List Taking) : Msg → Bool
  | .report k _ => later.contains (.report k)
  | .cond _ _ | .notice _ _ | .capture _ _ => false

/-- A message arrives: it is taken at once, or waits. -/
def Flow.arrive (o : Sched) (later : List Taking) (f : Flow) (m : Msg) : Flow :=
  if mustWait later m then { f with mail := f.mail ++ [.msg m] } else Flow.take o later f m

/-- A block's work is done and its messages arrive, in the order `o` gives (R148). -/
def Flow.post (o : Sched) (later : List Taking) (r : State × List Msg) (f : Flow) : Flow :=
  (orderMsgs o r.2).foldl (Flow.arrive o later) { f with state := r.1 }

/-- A block's work is done and its messages are taken at once; a demand that one sends may wait. -/
def Flow.perform (o : Sched) (later : List Taking) (r : State × List Msg) (f : Flow) : Flow :=
  r.2.foldl (Flow.take o later) { f with state := r.1 }

/-- What has been waiting is taken. -/
def Flow.open (o : Sched) (later : List Taking) (f : Flow) (m : Mail) : Flow :=
  match m with
  | .msg m => Flow.take o later f m
  | .demand c => Flow.send o later c f

/-- The mail that satisfies `due` is taken, oldest first; the rest goes on waiting. -/
def Flow.collect (o : Sched) (later : List Taking) (due : Mail → Bool) (f : Flow) : Flow :=
  (f.mail.filter due).foldl (Flow.open o later) { f with mail := f.mail.filter (fun m => !due m) }

/-- A report of the kind `k`. -/
def isReport (k : Cause) : Mail → Bool
  | .msg (.report j _) => decide (j = k)
  | .msg (.cond _ _) | .msg (.notice _ _) | .msg (.capture _ _) => false
  | .demand _ => false

/-- A trip demand. -/
def isDemand : Mail → Bool
  | .msg _ => false
  | .demand _ => true

/-- A block's work is done and its messages are taken at once, in the order `o` gives. -/
def posted (o : Sched) (r : State × List Msg) : State := deliver o r.2 r.1

/-- Channel `n` of the vibration watch becomes `c`, and its changes are published (R107 to R110). -/
def chanPut (n : Chan) (c : VChan) (s : State) : State × List Msg :=
  ({ s with vwa := (vwaPut (s.set.action n) n c s.vwa).1 }, (vwaPut (s.set.action n) n c s.vwa).2)

/-- Channel `n` of the vibration watch becomes `c`, and what it publishes is taken at once (R107 to R110). -/
def putChan (o : Sched) (n : Chan) (c : VChan) (s : State) : State := posted o (chanPut n c s)

/-- The channel takes its staged profile, where there is one (R113, R186). -/
def chanStaged (n : Chan) (s : State) : State × List Msg :=
  match stagedProfile n s.set with
  | none => (s, [])
  | some v =>
    let s1 := tellOwners [profileId n] { s with set := profileTaken n v s.set }
    chanPut n (takeProfile (s.set.profile n) (s1.set.profile n) s1.now (s1.vwa.chans.get n)) s1

/-- The channel takes its staged profile at the completion of a revolution (R113, R186). -/
def takeStaged (o : Sched) (n : Chan) (s : State) : State := posted o (chanStaged n s)

/-- The reference speed of channel `n`, as last published (section 5.1). -/
def State.refSpeedOf (s : State) (n : Chan) : Nat :=
  refSpeed (s.set.profile n).marker s.stu.motors.a.speed s.stu.motors.b.speed s.stu.s

/-- Channel `n` takes the speeds published at the speed and torque unit's last period event (R95). -/
def chanSpeeds (n : Chan) (s : State) : State × List Msg :=
  let r := chanPut n (speedTest s.set.watchMin (s.set.profile n) (s.refSpeedOf n) s.now (s.vwa.chans.get n)) s
  ({ r.1 with vwa := vwaWake s.stu.periodTaken n (s.vwa.chans.get n).state (stagedProfile n s.set) r.1.vwa }, r.2)

/-- Each channel does `work`, in the order `o` gives. -/
def eachChan (o : Sched) (later : List Taking) (work : Chan → State → State × List Msg) (f : Flow) : Flow :=
  (chanOrder o).foldl (fun g n => Flow.post o later (work n g.state) g) f

/-- STALL in the warning set leaves it and is reported with class S, where the stall class applied is S (R141). -/
def stallClass (n : Period) (s : State) : State × List Msg :=
  if s.pru.warnings.contains .stall && decide (s.set.classInForce .stall = .s) then
    ({ s with pru := { s.pru with warnings := dropCause .stall s.pru.warnings } }, [.report .stall n])
  else (s, [])

/-- A channel takes an apply of its action (R108, R109, R113). -/
def chanAction (ids : List Nat) (n : Chan) (s : State) : State × List Msg :=
  if ids.contains (67 + chanNumber n) then chanPut n (s.vwa.chans.get n) s else (s, [])

/-- The hand-over of applied settings at a period event (R187). The consumers act one after the other: the converters on
the angle limits, the speed and torque unit on its ratings, the channels on their actions, the protection unit on the
stall class. The manual gives their order no name: the model's is this one (log entry 13). STALL is taken at the apply
itself (R141); a VIB_DANGER_n that `o.takings` names after this work waits for its place, so that either may be first
(R148, log entry 6). -/
def handPeriod (o : Sched) (n : Period) (ids : List Nat) (later : List Taking) (f : Flow) : Flow :=
  let g := eachChan o later (chanAction ids) { f with state := handStopped f.state.dsq.drive ids f.state }
  if ids.contains 82 then Flow.perform o later (stallClass n g.state) g else g

/-- What the speed and torque unit reads at the period event `n` at `t` (R67). -/
def State.stuView (s : State) (n : Period) (t : Tick) : StuView :=
  { teeth := s.meu.teeth, instant := t, means := ⟨s.meu.sides.a.mean, s.meu.sides.b.mean⟩,
    convs := ⟨s.cca.state, s.ccb.state⟩, level := s.vwa.level, drive := s.dsq.drive, number := n }

/-- The speed and torque unit's period work (R67): its reports, then the publication of the speeds. -/
def workStu (o : Sched) (n : Period) (t : Tick) (later : List Taking) (f : Flow) : Flow :=
  eachChan o later chanSpeeds (Flow.post o later
    ({ f.state with stu := (stuPeriod f.state.set (f.state.stuView n t) f.state.stu).1 },
     (stuPeriod f.state.set (f.state.stuView n t) f.state.stu).2) f)

/-- Channel `n` at a period event whose speeds brought channels out of PAUSED with the profiles `woken` staged (R113). -/
def chanPeriod (woken : Quad (Option SetValue)) (n : Chan) (s : State) : State × List Msg :=
  if takesAtPeriod (woken.get n) (stagedProfile n s.set) (s.vwa.chans.get n) then chanStaged n s else (s, [])

/-- The vibration watch's period work (R113). -/
def workVwa (o : Sched) (n : Period) (later : List Taking) (f : Flow) : Flow :=
  eachChan o later (chanPeriod f.state.vwa.woken)
    { f with state := { f.state with vwa := { f.state.vwa with woken := noneWoken, periodTaken := n } } }

/-- What the sequencer reads at the period event `n` (R123, R125, R135, R136). -/
def State.dsqView (s : State) (n : Period) : DsqView :=
  { number := n, s := s.stu.s, off := decide (s.cca.state = .off) && decide (s.ccb.state = .off),
    low := currentsLow s.set ⟨s.meu.sides.a.mean, s.meu.sides.b.mean⟩ }

/-- The drive sequencer's period work (R122, R123, R125, R127, R135 to R137). -/
def workDsq (o : Sched) (n : Period) (s : State) : State × List Msg :=
  (moveDrive o (dsqPeriod s.set (s.dsqView n) s.dsq).1 s, (dsqPeriod s.set (s.dsqView n) s.dsq).2)

/-- PERMIT_LOST at a loss of the permit (R152). -/
def lossOf (s : State) : State × List Msg :=
  if lossReports s.pru then
    ({ s with pru := pruCond .permitLost true { s.pru with lostCond := true } }, [.report .permitLost s.pru.periodTaken])
  else (s, [])

/-- The protection unit's period work (R150): it takes its own PERMIT_LOST with the loss (R152). -/
def workPru (n : Period) (s : State) : State × List Msg :=
  if permitLapses s.pru then lossOf { s with pru := { pruAbsent s.pru with periodTaken := n } }
  else ({ s with pru := { pruCount s.pru with periodTaken := n } }, [])

/-- The settings table's period work (R184, R185, R187, R188). -/
def workSet (o : Sched) (n : Period) (later : List Taking) (f : Flow) : Flow :=
  let ids := appliedIds (atPeriod f.state.set.driveView) f.state.set
  let z := { applyClasses (atPeriod f.state.set.driveView) f.state.set with periodTaken := n }
  handPeriod o n ids later { f with state := tellOwners ids { f.state with set := z } }

/-- The history entry formed at the period event `n` (R159): what the speed and torque unit published at its last
period work, what stands in the other blocks. -/
def State.entry (s : State) (n : Period) : Entry :=
  { period := n, s := s.stu.s, rr := s.stu.pub.rr, td := s.stu.pub.td, tenv := s.stu.pub.tenv,
    irefA := s.stu.motors.a.iref, irefB := s.stu.motors.b.iref,
    meanA := s.meu.sides.a.mean, meanB := s.meu.sides.b.mean,
    angleA := s.cca.lastAngle, angleB := s.ccb.lastAngle, convA := s.cca.state, convB := s.ccb.state,
    trim := s.stu.pub.trim, level := s.vwa.level, drive := s.dsq.drive, sync := s.msy.sync,
    coarseA := s.stu.pub.coarseA, coarseB := s.stu.pub.coarseB,
    chans := ⟨s.vwa.chans.c0.state, s.vwa.chans.c1.state, s.vwa.chans.c2.state, s.vwa.chans.c3.state⟩,
    warningCount := s.pru.warnings.length, latchedCount := s.pru.latched.length }

/-- The record unit's period work (R159, R160, R166). -/
def workRcu (n : Period) (s : State) : State :=
  raiseAll (rcuPeriod (s.entry n) s.rcu).2 { s with rcu := (rcuPeriod (s.entry n) s.rcu).1 }

/-- The number of the last period event that block `b` has taken. -/
def State.takenBy (s : State) : Block → Period
  | .meu => s.meu.periodTaken
  | .stu => s.stu.periodTaken
  | .vwa => s.vwa.periodTaken
  | .dsq => s.dsq.periodTaken
  | .pru => s.pru.periodTaken
  | .set => s.set.periodTaken
  | .rcu => s.rcu.periodTaken

/-- Block `b` does its period work at the period event `n` at `t`; `later` holds the takings still to come. -/
def periodWork (o : Sched) (n : Period) (t : Tick) (b : Block) (later : List Taking) (f : Flow) : Flow :=
  match b with
  | .meu => { f with state := { f.state with meu := meuPeriod n f.state.meu } }
  | .stu => workStu o n t later f
  | .vwa => workVwa o n later f
  | .dsq => Flow.post o later (workDsq o n f.state) f
  | .pru => Flow.perform o later (workPru n f.state) f
  | .set => workSet o n later f
  | .rcu => { f with state := workRcu n f.state }

/-- Block `b` takes the period event `n`, once (R2; log entry 7). -/
def takePeriod (o : Sched) (n : Period) (t : Tick) (b : Block) (later : List Taking) (f : Flow) : Flow :=
  if f.state.takenBy b = n then f else periodWork o n t b later f

/-- Converter `x` takes the origin `g` (R39, R44, R45, R47); an entry into OFF may clear CONV_x_FAULT (R63). -/
def convTakeOrigin (x : Side) (g : Origin) (s : State) : State × List Msg :=
  let c := convOrigin s.set (s.stu.motors.get x).iref (s.meu.sides.get x).average g (s.conv x)
  (s.putConv x c, convMsgs x (s.conv x) c)

/-- A receiver takes the origin `g` (R24, R39). -/
def takeOrigin (g : Origin) (k : OriginTaker) (s : State) : State × List Msg :=
  match k with
  | .meu => ({ s with meu := (meuOrigin s.set g s.meu).1 }, (meuOrigin s.set g s.meu).2)
  | .cca => convTakeOrigin .a g s
  | .ccb => convTakeOrigin .b g s

/-- What the coming reference edge, at `t`, is issued with (R11, R17): what was noted as a block took it ahead, or else
the origin offset and P_est now in force. -/
def State.issueAt (s : State) (t : Tick) : EdgeIssue :=
  match s.issued.filter (fun x => decide (x.period = s.msy.period + 1#32) && decide (x.pred = t)) with
  | some x => x
  | none => { period := s.msy.period + 1#32, pred := t, offset := s.set.originOffset, pEst := s.msy.pEst }

/-- The note once a block takes the coming period event, at `t`, ahead: where that event is the reference edge, it is
issued before any block takes it (R11, R17; log entry 7). -/
def State.edgeNoted (s : State) (t : Tick) : Option EdgeIssue :=
  if edgeDue s.msy = some t then some (s.issueAt t) else s.issued

/-- A block is about to take the period event `n` at `t`: where the synchroniser has still to issue it, what it is issued
with is noted. -/
def Flow.issue (n : Period) (t : Tick) (f : Flow) : Flow :=
  if f.state.msy.period = n then f else { f with state := { f.state with issued := f.state.edgeNoted t } }

/-- One taking of a period event, of the origin `g` that falls with it, or of what waits by then. -/
def takeOne (o : Sched) (n : Period) (t : Tick) (g : Option Origin) (k : Taking) (later : List Taking) (f : Flow) : Flow :=
  match k with
  | .period b => takePeriod o n t b later (Flow.issue n t f)
  | .origin r => match g with
    | none => f
    | some g => Flow.post o later (takeOrigin g r f.state) f
  | .report c => Flow.collect o later (isReport c) f
  | .demand => Flow.collect o later isDemand f

/-- The takings of a list, one after the other; what still waits after the last is taken then. -/
def runTakings (o : Sched) (n : Period) (t : Tick) (g : Option Origin) : List Taking → Flow → Flow
  | [], f => Flow.collect o [] (fun _ => true) f
  | k :: later, f => runTakings o n t g later (takeOne o n t g k later f)

/-- The first pending origin, where it falls at `t` and `o` has its receivers take it with the period event. -/
def coinciding (o : Sched) (t : Tick) (m : Msy) : Option Origin :=
  match m.origins with
  | [] => none
  | g :: _ => if namesOrigin o && decide (g.stamp = t) then some g else none

/-- The blocks take the period event that the synchroniser has issued at `t` (R2), in the order of `o`, with the origin
of the same instant where `o` names it (R17, R27, R47). -/
def periodEvent (o : Sched) (t : Tick) (s : State) : State :=
  match coinciding o t s.msy with
  | none => (runTakings o s.msy.period t none (periodTakings o) { state := s, mail := [] }).state
  | some g =>
    (runTakings o s.msy.period t (some g) (bothTakings o)
      { state := { s with msy := { s.msy with origins := s.msy.origins.tail } }, mail := [] }).state

/-- The receivers take the first pending origin (R18), in the order of `o`. -/
def issueOrigin (o : Sched) (g : Origin) (s : State) : State :=
  (runTakings o s.msy.period s.now (some g) (originTakings o)
    { state := { s with msy := { s.msy with origins := s.msy.origins.tail } }, mail := [] }).state

/-- Converter `x` takes sync lost (R43). -/
def convTakeLost (o : Sched) (x : Side) (s : State) : State :=
  deliver o (convMsgs x (s.conv x) (convOff (s.conv x))) (s.putConv x (convOff (s.conv x)))

/-- What the synchroniser publishes reaches the others (R4, R9, R16, R43, R126 to R128). -/
def takeSync (o : Sched) (s : State) (e : SyncEvent) : State :=
  match e with
  | .locked =>
    let d := dsqLocked s.set s.stu.s s.dsq
    deliver o d.2 (moveDrive o d.1 (takeCond .mainsSequence false s))
  | .lost => moveDrive o (dsqSyncLost s.dsq) (convTakeLost o .b (convTakeLost o .a s))
  | .reversed => deliver o [.cond .mainsSequence true, .report .mainsSequence s.msy.period] s

/-- The synchroniser becomes `r.1` and publishes `r.2`. -/
def syncTaken (o : Sched) (r : Msy × List SyncEvent) (s : State) : State :=
  r.2.foldl (takeSync o) { s with msy := r.1 }

end Sys2Proof.Machine
end

