-- ==== Sys2Proof/Machine/Formats.lean ====
section
/-! DEFINITION. The byte layouts and codes of chapter 11 (R202): what every reply carries. -/

namespace Sys2Proof.Machine

/-- A number in `k` bytes, high byte first, modulo 256^k (R202). -/
def be : Nat → Nat → List Byte
  | 0, _ => []
  | k + 1, n => BitVec.ofNat 8 (n / 256 ^ k) :: be k n

/-- A signed number in `k` bytes of two's complement (R202). -/
def beInt (k : Nat) (i : Int) : List Byte := be k (i % (256 ^ k : Nat)).toNat

/-- A flag (R202). -/
def beFlag (b : Bool) : List Byte := [if b then 1#8 else 0#8]

/-- One byte. -/
def be1 (n : Nat) : List Byte := [BitVec.ofNat 8 n]

/-- A flag at a bit. -/
def bitAt (b : Bool) (k : Nat) : Nat := if b then 2 ^ k else 0

def statusCode : Status → Nat
  | .ok => 0 | .clamped => 1 | .refused => 2 | .notOwner => 3
  | .unknown => 4 | .malformed => 5 | .stale => 6 | .noRecord => 7

def reasonCode : Reason → Nat
  | .wrongState => 1 | .releasing => 2 | .noPermit => 3 | .notLocked => 4 | .episodeActive => 5 | .notReady => 6
  | .notStill => 7 | .noEpisode => 8 | .notStopped => 9 | .causePresent => 10 | .recordUnread => 11 | .recording => 12

def noticeCode : Notice → Nat
  | .restarted => 0 | .driveState => 1 | .episode => 2 | .recordSealed => 3 | .recordLost => 4
  | .warning => 5 | .derate => 6 | .channel => 7 | .applied => 8 | .holdExpired => 9

/-- The code of a cause kind (section 7.1). -/
def causeCode : Cause → Nat
  | .convFault .a => 1 | .convFault .b => 2 | .convTransient .a => 3 | .convTransient .b => 4
  | .overcurrent .a => 5 | .overcurrent .b => 6 | .overvoltage .a => 7 | .overvoltage .b => 8
  | .currentSensor .a => 9 | .currentSensor .b => 10 | .mainsSequence => 11 | .mainsLoss => 12
  | .pinionMismatch => 13 | .speedSensor .a => 14 | .speedSensor .b => 15 | .overspeed => 16 | .stall => 17
  | .breakawayFailed => 18 | .converterLost => 19 | .thermalHot .a => 20 | .thermalHot .b => 21
  | .vibDanger .c0 => 22 | .vibDanger .c1 => 23 | .vibDanger .c2 => 24 | .vibDanger .c3 => 25
  | .vibSensor .c0 => 26 | .vibSensor .c1 => 27 | .vibSensor .c2 => 28 | .vibSensor .c3 => 29
  | .permitLost => 30 | .stationTrip => 31 | .extTrip => 32 | .currentNotDecaying => 33 | .referenceHold => 34

def classCode : Class → Nat
  | .b => 1 | .f => 2 | .s => 3 | .w => 4

def driveCode : Drive → Nat
  | .blocked => 0 | .closing => 1 | .starting => 2 | .run => 3 | .stopping => 4 | .coast => 5
  | .tripStop => 6 | .tripped => 7 | .aux => 8

def syncCode : SyncState → Nat
  | .seek => 0 | .locking => 1 | .locked => 2 | .holdover => 3

def convCode : ConvState → Nat
  | .off => 0 | .firing => 1 | .retard => 2 | .held => 3

def thermalCode : Thermal → Nat
  | .cool => 0 | .warm => 1 | .hot => 2

def chanCode : ChanState → Nat
  | .paused => 0 | .learning => 1 | .normal => 2 | .alert => 3 | .danger => 4 | .unreferenced => 5 | .sensorFault => 6

def phaseCode : Phase → Nat
  | .wait => 0 | .timing => 1 | .running => 2

def exitCode : ExitReason → Nat
  | .none => 0 | .relocked => 1 | .timeout => 2 | .stop => 3 | .trip => 4

def recordKindCode : RecordKind → Nat
  | .trip => 1 | .manual => 2

/-- The code of a record's state: FILLING 1, SEALED 2. -/
def recordStateCode (r : Record) : Nat := if r.isSealed then 2 else 1

def stationCode : Station → Nat
  | .c => 1 | .p => 2 | .m => 3

def applyCode : ApplyClass → Nat
  | .live => 0 | .stopped => 1 | .revolution => 2

def markerCode : Marker → Nat
  | .ka => 0 | .kb => 1 | .ks => 2

/-- A set of causes in five bytes (R202); the bits of no cause are 0 (DEDUCED, log entry 27). -/
def causeSetBytes (ks : List Cause) : List Byte :=
  be 5 ((allCauses.map (fun k => bitAt (ks.contains k) (causeCode k - 1))).sum)

/-- The notice set in two bytes (R202); the bits of no notice are 0 (DEDUCED, log entry 27). -/
def noticeSetBytes (ks : List Notice) : List Byte :=
  be 2 ((allNotices.map (fun k => bitAt (ks.contains k) (noticeCode k))).sum)

/-- A set of stations in one byte (R202); the bits of no station are 0 (DEDUCED, log entry 27). -/
def stationSetByte (z : StationSet) : List Byte := be1 (bitAt z.c 0 + bitAt z.p 1 + bitAt z.m 2)

/-- A code with 0 as its mark of absence (R202). -/
def orZero {α : Type} (f : α → Nat) (x : Option α) : Nat :=
  match x with
  | none => 0
  | some v => f v

/-- The STATUS payload, 61 bytes (section 11.2, R201). The layout gives no meaning to bits 2 to 7 of offset 12 and bit 7 of
offset 60: the model sends them as 0 (DESIGN CHOICE, log entry 27). -/
def statusBytes (s : State) : List Byte :=
  be 4 s.msy.period.toNat ++ be1 (syncCode s.msy.sync) ++ be 4 s.msy.pEst ++ be1 s.msy.missCount ++
  be1 (driveCode s.dsq.drive) ++ be1 (exitCode s.dsq.exit) ++
  be1 (bitAt s.dsq.lossCond 0 + bitAt s.dsq.decayCond 1) ++ be1 (convCode s.cca.state) ++ be1 (convCode s.ccb.state) ++
  be 2 s.stu.s ++ be 2 s.stu.motors.a.speed ++ be 2 s.stu.motors.b.speed ++ be 2 s.stu.rr ++ beInt 2 s.stu.td ++
  be 2 s.stu.tenv ++ be 2 s.stu.motors.a.iref ++ be 2 s.stu.motors.b.iref ++ beInt 2 s.stu.trim ++
  beInt 4 s.stu.motors.a.q ++ beInt 4 s.stu.motors.b.q ++
  be1 (thermalCode s.stu.motors.a.thermal) ++ be1 (thermalCode s.stu.motors.b.thermal) ++ be1 s.vwa.level ++
  beFlag s.pru.active ++ be1 (orZero classCode s.pru.cls) ++ be1 (orZero causeCode s.pru.firstOut) ++
  be 2 (s.pru.record.getD 0) ++ causeSetBytes (s.pru.latched.map Latch.kind) ++ causeSetBytes s.pru.warnings ++
  beFlag s.pru.permit ++
  be1 (bitAt s.dsq.contactor 0 + bitAt s.dsq.auxEn 1 + bitAt s.pru.trip 2 + bitAt s.rcu.mark 3 +
       bitAt s.pru.ext.level 4 + bitAt s.cca.fault 5 + bitAt s.ccb.fault 6)

/-- A history entry, 36 bytes (section 11.3). -/
def entryBytes (e : Entry) : List Byte :=
  be 4 e.period.toNat ++ be 2 e.s ++ be 2 e.rr ++ beInt 2 e.td ++ be 2 e.tenv ++ be 2 e.irefA ++ be 2 e.irefB ++
  be 2 e.meanA ++ be 2 e.meanB ++ be 2 e.angleA ++ be 2 e.angleB ++ beInt 2 e.trim ++
  be1 (convCode e.convA * 16 + convCode e.convB) ++ be1 (driveCode e.drive) ++ be1 (syncCode e.sync) ++ be1 e.level ++
  beInt 1 e.coarseA ++ beInt 1 e.coarseB ++ be1 (chanCode e.chans.c0 * 16 + chanCode e.chans.c1) ++
  be1 (chanCode e.chans.c2 * 16 + chanCode e.chans.c3) ++ be1 e.warningCount ++ be1 e.latchedCount

/-- A fault capture, 10 bytes (section 11.3). -/
def captureBytes : Option FaultCapture → List Byte
  | none => List.replicate 10 0#8
  | some c => be1 1 ++ be 4 c.period.toNat ++ be1 (thyNumber c.thy) ++ be 2 c.angle ++ be 2 c.current

/-- A subsequent cause, 3 bytes: its code and its offset from the trigger (R167, R180, section 11.3). -/
def subBytes (trigger : Option Period) (c : SubCause) : List Byte :=
  be1 (causeCode c.kind) ++ be 2 (c.period - trigger.getD 0#32).toNat

/-- The eight items of the subsequent-cause list, those beyond its count 0 (R202). -/
def subsBytes (r : Record) : List Byte :=
  (r.subs.flatMap (subBytes r.trigger)) ++ List.replicate (24 - 3 * r.subs.length) 0#8

/-- A record header, 63 bytes (section 11.3). -/
def headerBytes (r : Record) : List Byte :=
  be 2 r.number ++ be1 (recordKindCode r.kind) ++ be1 (orZero stationCode r.requester) ++
  be 4 (r.trigger.getD 0#32).toNat ++ be1 (orZero causeCode r.firstOut) ++ be1 (orZero classCode r.cls) ++
  be1 r.pre ++ be1 r.post ++ be1 r.entries.length ++ be1 (driveCode r.driveAt) ++ beFlag r.truncated ++
  stationSetByte r.interest ++ stationSetByte r.marks ++ be1 r.subs.length ++ be1 r.overflow ++ subsBytes r ++
  captureBytes r.capA ++ captureBytes r.capB

/-- One item of LIST RECORDS for station `st` (R174, section 11.4). The section gives no meaning to bits 2 to 7 of the flags
byte: the model sends them as 0 (DESIGN CHOICE, log entry 27). -/
def listItem (st : Station) (u : Rcu) (i : SlotIx) : List Byte :=
  match u.slots.get i with
  | none => []
  | some r => be1 (slotNumber i) ++ be 2 r.number ++ be1 (recordKindCode r.kind) ++ be1 (recordStateCode r) ++
              be1 (bitAt (r.interest.has st) 0 + bitAt (r.marks.has st) 1)

/-- The LIST RECORDS payload (R174, section 11.4). The section gives the count no width: the model carries it in one byte
(DEDUCED, log entry 26). -/
def listBytes (st : Station) (u : Rcu) : List Byte :=
  be1 (allSlots.filter (fun i => (u.slots.get i).isSome)).length ++ allSlots.flatMap (listItem st u)

/-- The NEXT CHUNK payload (R176, section 11.4). The section gives no meaning to bits 2 to 7 of the flags byte: the model
sends them as 0 (DESIGN CHOICE, log entry 27). -/
def chunkBytes (k : Cursor) (r : Record) : List Byte :=
  be 2 r.number ++ be1 k.pos ++ be1 (chunkEntries k r).length ++ be1 (bitAt (!r.isSealed) 0 + bitAt (chunkEnds k r) 1) ++
  (chunkEntries k r).flatMap entryBytes

/-- The held channel state, or its mark of absence (R202). -/
def heldByte : Option Held → Nat
  | none => 255
  | some h => chanCode h.state

/-- The CHANNEL payload, 19 bytes (R114, section 11.5). -/
def channelBytes (level : Nat) (c : VChan) : List Byte :=
  be1 (chanCode c.state) ++ be1 (phaseCode c.phase) ++ be 2 c.sync ++ be 2 c.resid ++ be1 c.alert ++ be1 c.danger ++
  be1 c.release ++ be1 c.completed ++ be 2 c.serial ++ be 4 (c.trev.getD 0) ++ be1 c.contribution ++
  be1 (heldByte c.held) ++ be1 level

/-- The TABLE payload, 69 bytes (R115, section 11.5). -/
def tableBytes (n h : Nat) (c : VChan) : List Byte :=
  be1 n ++ be1 h ++ be 2 c.serial ++ be1 c.completed ++ ((c.table.drop (32 * h)).take 32).flatMap (beInt 2)

/-- A profile, 13 bytes (section 11.5). -/
def profileBytes (p : Profile) : List Byte :=
  be1 (markerCode p.marker) ++ be1 p.w ++ be 2 p.syncAlert ++ be 2 p.syncDanger ++ be 2 p.residAlert ++
  be 2 p.residDanger ++ be1 p.nAlert ++ be1 p.nDanger ++ be1 p.nRelease

/-- An action, 3 bytes (section 11.5): the danger action TRIP is 0, DERATE is 1. -/
def actionBytes (a : Action) : List Byte :=
  be1 a.alertLevel ++ be1 (if a.dangerTrip then 0 else 1) ++ be1 a.faultLevel

/-- A setting's value in its form (R203). -/
def valueBytes : SetValue → List Byte
  | .num n => be 4 n
  | .code n => be1 n
  | .profile p => profileBytes p
  | .action a => actionBytes a

/-- The length of a value of a form (R203). -/
def formLength : Form → Nat
  | .num _ _ _ => 4
  | .code _ _ => 1
  | .profile _ => 13
  | .action _ => 3

/-- A staged value with its flag, zero when absent (section 11.5). -/
def stagedBytes (f : Form) : Option SetValue → List Byte
  | none => beFlag false ++ List.replicate (formLength f) 0#8
  | some v => beFlag true ++ valueBytes v

/-- The GET SETTING payload of the setting `id` with the row `r` (R189, section 11.5). -/
def settingBytes (id : Nat) (r : SetSpec) (active : SetValue) (staged : Option SetValue) : List Byte :=
  be 2 id ++ be1 (stationCode r.owner) ++ be1 (applyCode r.cls) ++ valueBytes active ++ stagedBytes r.form staged

end Sys2Proof.Machine
end

