-- ==== Sys2Proof/Machine/LinkUnit.lean ====
section
/-! DEFINITION. A link unit (chapter 10): the cyclic check (R192), reception (R193), the frame of a reply (R196), its
length in ticks (R191), and the link reset (R197). -/

namespace Sys2Proof.Machine

/-- One bit taken into the check register (R192). -/
def crcBit (r : BitVec 16) (bit : Bool) : BitVec 16 :=
  if r.msb ^^ bit then (r <<< 1) ^^^ 0x1021#16 else r <<< 1

/-- One byte taken into the check register, most significant bit first (R192). -/
def crcByte (r : BitVec 16) (v : Byte) : BitVec 16 :=
  [7, 6, 5, 4, 3, 2, 1, 0].foldl (fun r i => crcBit r (v.getLsbD i)) r

/-- CHECK over a list of bytes (R192). -/
def crc (vs : List Byte) : BitVec 16 := vs.foldl crcByte 0xFFFF#16

/-- The two CHECK bytes of a body: over LENGTH and the body, high byte first (R192). -/
def checkBytes (body : List Byte) : List Byte := be 2 (crc (BitVec.ofNat 8 body.length :: body)).toNat

/-- The SYNC byte (section 10.2). -/
def syncByte : Byte := 0xE7#8

/-- The frame of a body (section 10.2). -/
def frameOf (body : List Byte) : List Byte :=
  syncByte :: BitVec.ofNat 8 body.length :: (body ++ checkBytes body)

/-- The ticks of one byte (R191). -/
def byteTicks : LinkRate → Nat
  | .r500k => 200
  | .r1M => 100
  | .r2M => 50

/-- The ticks of one bit: a byte is ten of them (R191). -/
def bitTicks (rate : LinkRate) : Nat := byteTicks rate / 10

/-- The levels of a byte on a line (R191): a low start bit, eight data bits least significant first, a high stop bit. -/
def lineBits (v : Byte) : List Bool := false :: ((List.range 8).map v.getLsbD ++ [true])

/-- What a receiver takes (R191): a byte, or a framing error. -/
inductive Received where
  | byte (v : Byte)
  | framingError
  deriving DecidableEq, Repr

/-- The byte of eight levels, least significant first. -/
def byteOfBits (bits : List Bool) : Byte := bits.foldr (fun b v => (v <<< 1) ||| (if b then 1#8 else 0#8)) 0#8

/-- A receiver between two bit times (R191): it looks for a start bit, has the data bits `got` of a byte, or waits after
a framing error for the line to be high for a bit time. -/
inductive Receiver where
  | looking
  | taking (got : List Bool)
  | waiting
  deriving DecidableEq, Repr

/-- A receiver takes the level of one bit time (R191), with what it then hands on: a byte where the stop bit is high, a
framing error where it is low. -/
def Receiver.take (level : Bool) : Receiver → Receiver × Option Received
  | .looking => (if level then .looking else .taking [], none)
  | .taking got =>
    if got.length < 8 then (.taking (got ++ [level]), none)
    else if level then (.looking, some (.byte (byteOfBits got)))
    else (.waiting, some .framingError)
  | .waiting => (if level then .looking else .waiting, none)

/-- What a receiver hands on from the levels of a line, bit time after bit time (R191). -/
def listen : Receiver → List Bool → List Received
  | _, [] => []
  | r, level :: rest => ((r.take level).2).toList ++ listen (r.take level).1 rest

/-- The level of a transmit line that has sent the bytes of `r` back to back from its start: high after the last (R191,
R196). -/
def replyLevel (rate : LinkRate) (t : Tick) (r : Reply) : Bool :=
  (r.frame.flatMap lineBits).getD (since t r.started / bitTicks rate) true

/-- The level of the transmit line of a link at `t` (R191, R197): the reply in transmission, what was begun of a reply
that a link reset has cut, or the resting level. -/
def txLevel (rate : LinkRate) (t : Tick) (l : Link) : Bool :=
  match l.reply, l.cut with
  | some r, _ => replyLevel rate t r
  | none, some r => replyLevel rate t r
  | none, none => true

/-- The bytes of a reply sent by `t` (R191, R196). -/
def bytesSent (rate : LinkRate) (t : Tick) (r : Reply) : Nat := min (since t r.started / byteTicks rate) r.frame.length

/-- What is sent of a reply that is cut at `t`: the bytes sent by then and the byte being sent (R197). -/
def replyCut (rate : LinkRate) (t : Tick) (r : Reply) : Reply := { r with frame := r.frame.take (bytesSent rate t r + 1) }

/-- The instant at which the last byte of a reply has been sent (R191, R194). -/
def replyEnd (rate : LinkRate) (r : Reply) : Tick := plus r.started (r.frame.length * byteTicks rate)

/-- A link back in HUNT with its gap timer stopped: a frame discarded or complete (R193). -/
def linkHunt (l : Link) : Link := { l with rx := .hunt, gap := none }

/-- A link inside a frame, its gap timer restarted at `t` (R193). -/
def linkInside (x : RxState) (t : Tick) (l : Link) : Link := { l with rx := x, gap := some t }

/-- The request in a body that has passed its check (R193, R194). -/
def requestOf : List Byte → Option Request
  | k :: g :: rest => some { kind := k, tag := g, payload := rest }
  | _ => none

/-- The two check bytes received are those of the body (R192, R193). -/
def checkPasses (body : List Byte) (hi lo : Byte) : Bool := decide (checkBytes body = [hi, lo])

/-- The receive state takes the byte `v` at `t` (R193); a frame that passes its check gives its request. -/
def linkByte (v : Byte) (t : Tick) (l : Link) : Link × Option Request :=
  match l.rx with
  | .hunt => if v = syncByte then (linkInside .length t l, none) else (l, none)
  | .length =>
    if 2 ≤ v.toNat ∧ v.toNat ≤ 250 then (linkInside (.body v.toNat []) t l, none) else (linkHunt l, none)
  | .body len got =>
    if len ≤ got.length + 1 then (linkInside (.check (got ++ [v]) none) t l, none)
    else (linkInside (.body len (got ++ [v])) t l, none)
  | .check body none => (linkInside (.check body (some v)) t l, none)
  | .check body (some hi) => (linkHunt l, if checkPasses body hi v then requestOf body else none)

/-- The gap timer has passed 10,000 ticks before `t` (R193): a byte at exactly 10,000 is taken first where it comes
first (log entry 22). -/
def gapPassed (t : Tick) (l : Link) : Bool :=
  match l.gap with
  | none => false
  | some g => decide (gapTicks < since t g)

/-- A link whose frame in reception is discarded where its gap timer has passed before `t` (R193). -/
def linkCaughtUp (t : Tick) (l : Link) : Link := if gapPassed t l then linkHunt l else l

/-- The line is still low at `t`. -/
def stillLow (t : Tick) (w : LowSpan) : Bool := decide (since t w.start < w.length)

/-- The ticks from the beginning of a low stretch to the end of the last of those that follow it (R191). -/
def runTicks (w : LowRun) : Nat := w.span.length + (w.dips.map (fun d => d.high + d.low)).sum

/-- The low stretches that follow one, before each of which the line is high for less than a bit time (R191). -/
def dipsFit (rate : LinkRate) (ds : List Dip) : Bool :=
  ds.all (fun d => decide (0 < d.high) && decide (d.high < bitTicks rate))

/-- The stretch that a line is in at `t`, or was in last, after the low stretch `span` and those that follow it, and
whether its break is served (R197): a new stretch is a new break. -/
def stretchFrom (t : Tick) (error served : Bool) (span : LowSpan) : List Dip → LowLine
  | [] => { run := { span := span, dips := [] }, error := error, served := served }
  | d :: ds =>
    if since t span.start < span.length + d.high then
      { run := { span := span, dips := d :: ds }, error := error, served := served }
    else stretchFrom t error false { start := plus span.start (span.length + d.high), length := d.low } ds

/-- A low line at `t`: the stretch that it is in then, or was in last (R197). -/
def stretchAt (t : Tick) (w : LowLine) : LowLine := stretchFrom t w.error w.served w.run.span w.run.dips

/-- The bit times after the low stretches of a line before the end of which no byte can have been taken (R191, R197):
after a framing error the line is high for one before the start bit, and after a break a start bit follows; nine bits
lie between the beginning of a start bit and that of the stop bit. A stretch at release may itself be the start bit. -/
def quietBits (w : LowLine) : Nat := if w.error then 10 else if w.served then 9 else 0

/-- A byte can have been taken at `t`, as far as the low line `w` tells (R191, R197). -/
def heardAfter (rate : LinkRate) (t : Tick) (w : LowLine) : Bool :=
  decide (runTicks w.run + quietBits w * bitTicks rate ≤ since t w.run.span.start)

/-- For how many ticks a line is high before a low stretch that is none of those of `w` (R191): a bit time after a
framing error, and otherwise at all. -/
def restTicks (rate : LinkRate) (w : LowLine) : Nat := if w.error then bitTicks rate else 1

/-- The low stretch `low` began before `t`, and after those of `w`, the line having been high in between (R191). -/
def beganAfter (rate : LinkRate) (low : LowSpan) (t : Tick) (w : LowLine) : Bool :=
  decide (runTicks w.run + restTicks rate w + since t low.start ≤ since t w.run.span.start)

/-- A byte or a framing error of a new start bit can have been found at `t` (R191). -/
def heard (rate : LinkRate) (t : Tick) (l : Link) : Bool :=
  match l.low with
  | none => true
  | some w => heardAfter rate t w

/-- A stop bit found low at `t` lies in the low stretch of `low`, which began within its byte, and those that follow it
come before the line has been high for a bit time (R191). -/
def errorFits (rate : LinkRate) (low : LowRun) (t : Tick) : Bool :=
  stillLow t low.span && decide (since t low.span.start ≤ byteTicks rate) && dipsFit rate low.dips

/-- The low line after a framing error found at `t` in the low stretch of `low`, none where no framing error can be
found (R191): a stretch gives one, also one that stood at release, those that follow it before the line has been high
for a bit time give none, and a new one needs a start bit that the receiver takes. -/
def lowAfterError (rate : LinkRate) (low : LowRun) (t : Tick) (l : Link) : Option LowLine :=
  match l.low with
  | none => some { run := low, error := true, served := false }
  | some w =>
    if stillLow t w.run.span then
      if w.error || w.served then none else some { w with run := { w.run with dips := low.dips }, error := true }
    else if heardAfter rate t w && beganAfter rate low.span t w then
      some { run := low, error := true, served := false }
    else none

/-- A framing error found at `t` in the low stretch of `low` (R191, R193), where it can be. -/
def linkFraming (rate : LinkRate) (low : LowRun) (t : Tick) (l : Link) : Option Link :=
  if errorFits rate low t then (lowAfterError rate low t l).map (fun w => { linkHunt l with low := some w }) else none

/-- The break timer of a low line reaches 100,000 ticks at `t` (R197): it runs over the stretch that the line is in, from
its beginning; the line is low as long as that, and a break resets the link once. -/
def breaksAt (t : Tick) (w : LowLine) : Bool :=
  !w.served && decide (breakTicks ≤ w.run.span.length) && decide (t = plus w.run.span.start breakTicks)

/-- The break timer of a link reaches 100,000 ticks at `t` (R197). -/
def breakDue (t : Tick) (l : Link) : Bool := l.low.any (fun w => breaksAt t (stretchAt t w))

/-- What is left of a low line at `t` while its break is served and it is low, however long (R197). -/
def lowLeft (t : Tick) (w : LowLine) : LowLine :=
  if w.served && stillLow t w.run.span then
    { w with run := { w.run with span := { start := t, length := w.run.span.length - since t w.run.span.start } } }
  else w

/-- A low line at `t` (R191, R197): none once it bears on nothing that the link receives, for a stop bit found later
belongs to a low stretch that began a bit time after it or later; and the stretch that the line is in, or was in last. -/
def lowAt (rate : LinkRate) (t : Tick) (w : LowLine) : Option LowLine :=
  if runTicks w.run + byteTicks rate + bitTicks rate ≤ since t w.run.span.start then none
  else some (lowLeft t (stretchAt t w))

/-- What is sent of a cut reply at `t`: none once its last byte has ended (R197). -/
def cutAt (rate : LinkRate) (t : Tick) (r : Reply) : Option Reply :=
  if r.frame.length * byteTicks rate ≤ since t r.started then none else some r

/-- A link whose lines have come to rest by `t`: the transmit line after a cut reply, the receive line after a low
stretch (R191, R197). -/
def linkAt (rate : LinkRate) (t : Tick) (l : Link) : Link :=
  { l with low := l.low.bind (lowAt rate t), cut := l.cut.bind (cutAt rate t) }

/-- The three links at `t`. -/
def linksAt (rate : LinkRate) (t : Tick) (ls : Triple Link) : Triple Link :=
  ⟨linkAt rate t ls.c, linkAt rate t ls.p, linkAt rate t ls.m⟩

/-- The link reset at `t` (R197): the reply in transmission is cut at the end of the byte being sent. -/
def linkResetTaken (rate : LinkRate) (t : Tick) (l : Link) : Link :=
  { rx := .hunt, gap := none, low := l.low.map (fun w => { stretchAt t w with served := true }), waiting := none,
    reply := none, cut := l.reply.map (replyCut rate t), notices := [.restarted], attention := true }

end Sys2Proof.Machine
end

