-- ==== Sys2Proof/Machine/Requests.lean ====
section
/-! DEFINITION. The requests of the stations (section 10.7): the tests of the link (R195), what each request does in the
block that owns its effect, the reply (R196), and the queue of one request (R194). -/

namespace Sys2Proof.Machine

/-- The requests (section 10.7). -/
inductive ReqKind where
  | status | notices | getSetting | putSetting | listRecords | openRecord | nextChunk | channel | table | capture
  | speedRef | start | stop | toAux | fromAux | permit | withdraw | trip | resetTrip | clearTable
  deriving DecidableEq, Repr

/-- The twenty requests. -/
def allKinds : List ReqKind :=
  [.status, .notices, .getSetting, .putSetting, .listRecords, .openRecord, .nextChunk, .channel, .table, .capture,
   .speedRef, .start, .stop, .toAux, .fromAux, .permit, .withdraw, .trip, .resetTrip, .clearTable]

/-- The KIND code of a request (section 11.1). -/
def kindCode : ReqKind → Byte
  | .status => 0x01#8 | .notices => 0x02#8 | .getSetting => 0x03#8 | .putSetting => 0x04#8 | .listRecords => 0x05#8
  | .openRecord => 0x06#8 | .nextChunk => 0x07#8 | .channel => 0x08#8 | .table => 0x09#8 | .capture => 0x0A#8
  | .speedRef => 0x10#8 | .start => 0x11#8 | .stop => 0x12#8 | .toAux => 0x13#8 | .fromAux => 0x14#8
  | .permit => 0x20#8 | .withdraw => 0x21#8 | .trip => 0x22#8 | .resetTrip => 0x23#8 | .clearTable => 0x30#8

/-- The request a KIND names, if any. -/
def kindOf (v : Byte) : Option ReqKind := allKinds.find? (fun k => decide (kindCode k = v))

/-- A request is allowed on a link (section 10.7). -/
def allowedOn : ReqKind → Station → Bool
  | .status, _ | .notices, _ | .getSetting, _ | .putSetting, _ | .listRecords, _ | .openRecord, _ | .nextChunk, _
  | .channel, _ | .table, _ => true
  | .capture, .p => false
  | .capture, _ => true
  | .speedRef, .c | .start, .c | .stop, .c | .toAux, .c | .fromAux, .c => true
  | .speedRef, _ | .start, _ | .stop, _ | .toAux, _ | .fromAux, _ => false
  | .permit, .p | .withdraw, .p | .trip, .p | .resetTrip, .p => true
  | .permit, _ | .withdraw, _ | .trip, _ | .resetTrip, _ => false
  | .clearTable, .m => true
  | .clearTable, _ => false

/-- The payload length that a request fixes (R195, section 11.1); PUT SETTING needs at least its identifier. -/
def lengthFits : ReqKind → Nat → Bool
  | .getSetting, n | .openRecord, n | .table, n | .speedRef, n => decide (n = 2)
  | .channel, n | .clearTable, n => decide (n = 1)
  | .putSetting, n => decide (2 ≤ n)
  | .status, n | .notices, n | .listRecords, n | .nextChunk, n | .capture, n | .start, n | .stop, n | .toAux, n
  | .fromAux, n | .permit, n | .withdraw, n | .trip, n | .resetTrip, n => decide (n = 0)

/-- What a request leaves and what its reply carries: the status, the reason bytes of REFUSED, the payload (R196). -/
structure Result where
  state : State
  status : Status
  reason : List Byte
  payload : List Byte
  deriving DecidableEq, Repr

/-- OK with a payload. -/
def okWith (s : State) (payload : List Byte) : Result := { state := s, status := .ok, reason := [], payload := payload }

/-- A status alone, nothing changed. -/
def plain (s : State) (k : Status) : Result := { state := s, status := k, reason := [], payload := [] }

/-- REFUSED with a reason, nothing changed. -/
def refuse (s : State) (r : Reason) : Result :=
  { state := s, status := .refused, reason := be1 (reasonCode r), payload := [] }

/-- An answer of the sequencer: refused, or the state `t`. -/
def answered (s t : State) (w : Answer) : Result :=
  match w with
  | .ok => okWith t []
  | .refused r => refuse s r

/-- STATUS (R201). -/
def reqStatus (s : State) : Result := okWith s (statusBytes s)

/-- NOTICES (R200). -/
def reqNotices (st : Station) (s : State) : Result :=
  okWith { s with links := s.links.put st (linkCollect (s.links.get st)) } (noticeSetBytes (s.links.get st).notices)

/-- GET SETTING (R189). -/
def reqGetSetting (id : Nat) (s : State) : Result :=
  match specOf id, s.set.active[id - 1]?, s.set.staged[id - 1]? with
  | some r, some v, some w => okWith s (settingBytes id r v w)
  | _, _, _ => { state := s, status := .malformed, reason := [], payload := be 2 id }

/-- A value is staged (R182); one equal to the value it replaces is staged like any other, so a profile written while its
channel is in LEARNING is held, whatever the speeds of the period event at hand found staged (R186). -/
def staging (id : Nat) (v : SetValue) (s : State) : State :=
  match profileChan id with
  | none => { s with set := stageValue id v s.set }
  | some n => { s with set := stageValue id v s.set, vwa := vwaRewritten n s.vwa }

/-- PUT SETTING (R181, R182). -/
def reqPutSetting (st : Station) (id : Nat) (value : List Byte) (s : State) : Result :=
  match putTest st id value with
  | .malformed => { state := s, status := .malformed, reason := [], payload := be 2 id }
  | .notOwner => { state := s, status := .notOwner, reason := [], payload := be 2 id }
  | .staged clamped v =>
    { state := staging id v s, status := if clamped then .clamped else .ok, reason := [],
      payload := be 2 id ++ valueBytes v }

/-- LIST RECORDS (R174). -/
def reqListRecords (st : Station) (s : State) : Result := okWith s (listBytes st s.rcu)

/-- OPEN RECORD (R175). -/
def reqOpenRecord (st : Station) (n : Nat) (s : State) : Result :=
  if n = 0 then plain s .malformed
  else match openFinds n s.rcu with
    | none => plain s .noRecord
    | some (i, r) =>
      okWith { s with rcu := { s.rcu with cursors := s.rcu.cursors.put st (some { number := n, slot := i, pos := 0 }) } }
        (be1 (recordStateCode r) ++ headerBytes r)

/-- NEXT CHUNK (R176). -/
def reqNextChunk (st : Station) (s : State) : Result :=
  match chunkOf st s.rcu with
  | .noRecord => plain { s with rcu := rcuNext st s.rcu } .noRecord
  | .stale => plain { s with rcu := rcuNext st s.rcu } .stale
  | .chunk k r => okWith { s with rcu := rcuNext st s.rcu } (chunkBytes k r)

/-- CHANNEL (R114). -/
def reqChannel (n : Nat) (s : State) : Result :=
  match chanOf n with
  | none => plain s .malformed
  | some k => okWith s (channelBytes s.vwa.level (s.vwa.chans.get k))

/-- TABLE (R115). -/
def reqTable (n h : Nat) (s : State) : Result :=
  match chanOf n with
  | none => plain s .malformed
  | some k => if h ≤ 1 then okWith s (tableBytes n h (s.vwa.chans.get k)) else plain s .malformed

/-- CAPTURE (R169). -/
def reqCapture (st : Station) (s : State) : Result :=
  match s.rcu.filling with
  | some _ => refuse s .recording
  | none =>
    okWith (raiseAll (rcuCapture s.set st s.rcu).2 { s with rcu := (rcuCapture s.set st s.rcu).1 })
      (be 2 s.rcu.counter)

/-- SPEED REF (R73). -/
def reqSpeedRef (o : Sched) (value : Nat) (s : State) : Result :=
  plain (deliver o (stuSpeedRef s.set value s.stu).2 { s with stu := (stuSpeedRef s.set value s.stu).1 })
    (if s.set.speedMax < value then .clamped else .ok)

/-- What START reads of other blocks (R121). -/
def State.startView (s : State) : StartView :=
  { permit := s.pru.permit, locked := decide (s.msy.sync = .locked), clear := !s.pru.active,
    readyA := convReady s.cca, readyB := convReady s.ccb, single := s.set.singleDrive }

/-- START (R121). -/
def reqStart (o : Sched) (s : State) : Result :=
  answered s (moveDrive o (dsqStart s.dsq) s) (startTest s.startView s.dsq)

/-- STOP (R124). -/
def reqStop (o : Sched) (s : State) : Result := answered s (moveDrive o (dsqStop s.dsq) s) (stopTest s.dsq)

/-- TO AUX (R132). -/
def reqToAux (o : Sched) (s : State) : Result :=
  answered s (moveDrive o (dsqToAux s.dsq) s) (toAuxTest s.stu.s s.dsq)

/-- FROM AUX (R133). -/
def reqFromAux (o : Sched) (s : State) : Result :=
  answered s (moveDrive o (dsqFromAux s.pru.active s.dsq) s) (fromAuxTest s.dsq)

/-- PERMIT (R149). -/
def reqPermit (s : State) : Result :=
  plain (if s.pru.lostCond then takeCond .permitLost false { s with pru := pruPermit s.set.permitWindow s.pru }
         else { s with pru := pruPermit s.set.permitWindow s.pru }) .ok

/-- WITHDRAW (R151). -/
def reqWithdraw (o : Sched) (s : State) : Result :=
  plain (if s.pru.permit then posted o (lossOf { s with pru := pruAbsent s.pru }) else s) .ok

/-- TRIP (R153): STATION_TRIP holds, is reported, and is clear again. -/
def reqTrip (o : Sched) (s : State) : Result :=
  let s1 := takeReport o .stationTrip s.pru.periodTaken
    { s with pru := pruCond .stationTrip true { s.pru with stationCond := true } }
  plain { s1 with pru := pruCond .stationTrip false { s1.pru with stationCond := false } } .ok

/-- RESET TRIP accepted (R156, R171, R131). -/
def episodeEnds (o : Sched) (s : State) : State :=
  raiseTo .episode [.c, .p, .m]
    (moveDrive o (dsqEpisodeEnd s.dsq) { s with pru := pruReset s.pru, rcu := rcuUnpin s.rcu })

/-- RESET TRIP (R155, R156, R173). -/
def reqResetTrip (o : Sched) (s : State) : Result :=
  match resetTest (readByP s.pru.record s.rcu) s.pru with
  | .ok => okWith (episodeEnds o s) []
  | .refused r => refuse s r
  | .present k =>
    { state := s, status := .refused, reason := be1 (reasonCode .causePresent) ++ be1 (causeCode k), payload := [] }

/-- CLEAR TABLE (R116). -/
def reqClearTable (o : Sched) (n : Nat) (s : State) : Result :=
  match chanOf n with
  | none => plain s .malformed
  | some k => okWith (putChan o k (clearChannel false s.now (s.vwa.chans.get k)) s) []

/-- A request that has passed the link's tests is handed to the block that owns its effect (R195, R203). -/
def handRequest (st : Station) (k : ReqKind) (payload : List Byte) (o : Sched) (s : State) : Result :=
  match k with
  | .status => reqStatus s
  | .notices => reqNotices st s
  | .getSetting => reqGetSetting (beNat payload) s
  | .putSetting => reqPutSetting st (beNat (payload.take 2)) (payload.drop 2) s
  | .listRecords => reqListRecords st s
  | .openRecord => reqOpenRecord st (beNat payload) s
  | .nextChunk => reqNextChunk st s
  | .channel => reqChannel (beNat payload) s
  | .table => reqTable (beNat (payload.take 1)) (beNat (payload.drop 1)) s
  | .capture => reqCapture st s
  | .speedRef => reqSpeedRef o (beNat payload) s
  | .start => reqStart o s
  | .stop => reqStop o s
  | .toAux => reqToAux o s
  | .fromAux => reqFromAux o s
  | .permit => reqPermit s
  | .withdraw => reqWithdraw o s
  | .trip => reqTrip o s
  | .resetTrip => reqResetTrip o s
  | .clearTable => reqClearTable o (beNat payload) s

/-- The link's tests of a request it takes, in order (R195), and its effect. -/
def actRequest (st : Station) (r : Request) (o : Sched) (s : State) : Result :=
  match kindOf r.kind with
  | none => plain s .unknown
  | some k =>
    if !allowedOn k st then plain s .unknown
    else if !lengthFits k r.payload.length then plain s .malformed
    else handRequest st k r.payload o s

/-- The body of a reply (R196). -/
def replyBody (r : Request) (w : Result) : List Byte :=
  r.kind :: r.tag :: BitVec.ofNat 8 (statusCode w.status) :: (w.reason ++ w.payload)

/-- The transmission of a reply starts (R196). -/
def startReply (st : Station) (body : List Byte) (s : State) : State :=
  { s with links := s.links.put st { s.links.get st with
      reply := some { frame := frameOf body, started := s.now }, cut := none } }

/-- A request is taken: its effect, and its reply (R195, R196). -/
def takeRequest (st : Station) (r : Request) (o : Sched) (s : State) : State :=
  startReply st (replyBody r (actRequest st r o s)) (actRequest st r o s).state

/-- A link with a request waiting (R194). -/
def linkWait (r : Request) (l : Link) : Link := { l with waiting := some r }

/-- A complete request (R194): taken at once, made waiting, or discarded. -/
def completeRequest (st : Station) (r : Request) (o : Sched) (s : State) : State :=
  match (s.links.get st).reply, (s.links.get st).waiting with
  | none, _ => takeRequest st r o s
  | some _, none => { s with links := s.links.put st (linkWait r (s.links.get st)) }
  | some _, some _ => s

/-- A reply has been sent (R194): the waiting request, if any, is taken at that moment. -/
def replySentAt (st : Station) (o : Sched) (s : State) : State :=
  match (s.links.get st).waiting with
  | none => { s with links := s.links.put st { s.links.get st with reply := none } }
  | some r =>
    takeRequest st r o { s with links := s.links.put st { s.links.get st with reply := none, waiting := none } }

end Sys2Proof.Machine
end

