-- ==== Sys2Proof/Machine/ConverterCommands.lean ====
section
/-! DEFINITION. The commands of the origins and of the converter controllers (R18, chapter 3). -/

namespace Sys2Proof.Machine

/-- ORIGIN (R18, R24, R39, R44, R45, R47). -/
def execOrigin (o : Sched) (s : State) : Host.Outcome State Fault Refusal :=
  .next (match s.msy.origins with
    | [] => s
    | g :: _ => issueOrigin o g { s with now := g.stamp })

/-- Converter `x` issues the firing `f` (R54, R62). -/
def issueFiring (x : Side) (f : Firing) (s : State) : State :=
  raiseAll (convMsgs x (s.conv x) (convIssue s.set f (s.conv x)))
    ({ s with now := f.stamp }.putConv x (convIssue s.set f (s.conv x)))

/-- FIRING_ISSUE (R54, R55). -/
def execFiringIssue (x : Side) (s : State) : Host.Outcome State Fault Refusal :=
  .next (match (s.conv x).firings with
    | [] => s
    | f :: _ => issueFiring x f s)

/-- BURST_PHASE_END (R55). -/
def execBurstPhaseEnd (x : Side) (s : State) : Host.Outcome State Fault Refusal :=
  .next (match (s.conv x).burst with
    | none => s
    | some b => { s with now := b.phaseEnd }.putConv x (convPhaseEnd b (s.conv x)))

/-- ESCALATION_DECAY: the firing with which the firings since arrival reach 64 (R62). -/
def execEscalationDecay (x : Side) (s : State) : Host.Outcome State Fault Refusal :=
  .next (match (s.conv x).firings with
    | [] => s
    | f :: _ => if 64 ≤ (s.conv x).since + 1 then issueFiring x f s else s)

/-- The takings that follow a fault arrival at the instant of the coming period event: the protection unit takes the
report, and the sequencer the trip demand, before or after the blocks that `o` names take that event (R90). A
reference edge is issued as the first of them takes it (`Flow.issue`, R17). -/
def aheadOf (o : Sched) (t : Tick) (m : Msy) : List Taking :=
  if nextPeriodEvent m = some t then aheadTakings o else []

/-- FAULT_ARRIVAL (R57 to R63, R90). -/
def execFaultArrival (x : Side) (t : Tick) (o : Sched) (s : State) : Host.Outcome State Fault Refusal :=
  let w := convArrival s.set x t (s.meu.sides.get x).lastSample (s.conv x)
  .next (runTakings o (s.msy.period + 1#32) t none (aheadOf o t s.msy)
    (Flow.post o (aheadOf o t s.msy) ({ s with now := t }.putConv x w.1, w.2) { state := s, mail := [] })).state

/-- FAULT_CLEAR (R45, R57, R63). -/
def execFaultClear (x : Side) (t : Tick) (s : State) : Host.Outcome State Fault Refusal :=
  .next (raiseAll (convMsgs x (s.conv x) (convClear (s.conv x)))
    ({ s with now := t }.putConv x (convClear (s.conv x))))

end Sys2Proof.Machine
end

