-- ==== Sys2Proof/Machine/LinkCommands.lean ====
section
/-! DEFINITION. The commands of the link units (chapter 10): bytes, framing errors, timers and resets of the links. -/

namespace Sys2Proof.Machine

/-- A link is replaced. -/
def State.putLink (s : State) (k : Station) (l : Link) : State := { s with links := s.links.put k l }

/-- The link as a byte at `t` finds it: a frame whose gap timer has passed is discarded (R193; log entry 10), and its
line is high, for a byte ends in a high stop bit (R191, R197). -/
def linkAtByte (t : Tick) (l : Link) : Link := { linkCaughtUp t l with low := none }

/-- The byte `v` is handed on at `t` (R192 to R196). -/
def takeByte (link : Station) (v : Byte) (t : Tick) (o : Sched) (s : State) : State :=
  match linkByte v t (linkAtByte t (s.links.get link)) with
  | (l, none) => { s with now := t }.putLink link l
  | (l, some r) => completeRequest link r o ({ s with now := t }.putLink link l)

/-- RX_BYTE (R191 to R196). -/
def execRxByte (link : Station) (v : Byte) (t : Tick) (o : Sched) (s : State) : Host.Outcome State Fault Refusal :=
  .next (if heard s.rate t (s.links.get link) then takeByte link v t o s else s)

/-- RX_FRAMING_ERROR (R191, R193, R197). -/
def execRxFramingError (link : Station) (low : LowRun) (t : Tick) (s : State) : Host.Outcome State Fault Refusal :=
  .next (match linkFraming s.rate low t (s.links.get link) with
    | none => s
    | some l => { s with now := t }.putLink link l)

/-- GAP_TIMEOUT (R193): at the instant 10,000 ticks after the last byte, which is the model's reading of
"passes 10,000 ticks" (DEDUCED, log entry 22). -/
def execGapTimeout (link : Station) (s : State) : Host.Outcome State Fault Refusal :=
  .next (match (s.links.get link).gap with
    | none => s
    | some g => { s with now := plus g gapTicks }.putLink link (linkHunt (s.links.get link)))

/-- REPLY_SENT (R191, R194). -/
def execReplySent (link : Station) (o : Sched) (s : State) : Host.Outcome State Fault Refusal :=
  .next (match (s.links.get link).reply with
    | none => s
    | some r => replySentAt link o { s with now := replyEnd s.rate r })

/-- The link reset of a link and of its station's read cursor (R177, R197). -/
def linkResetAt (link : Station) (s : State) : State :=
  { s with rcu := { s.rcu with cursors := s.rcu.cursors.put link none } }.putLink link
    (linkResetTaken s.rate s.now (s.links.get link))

/-- LINK_RESET (R177, R197). -/
def execLinkReset (link : Station) (t : Tick) (s : State) : Host.Outcome State Fault Refusal :=
  .next (if breakDue t (s.links.get link) then linkResetAt link { s with now := t } else s)

end Sys2Proof.Machine
end

