-- ==== Sys2Proof/Machine/MainsCommands.lean ====
section
/-! DEFINITION. The commands of the mains synchroniser and of the period event (chapter 1; R2), and those that name
what one block's taking of the coming period event brings about (log entry 7). -/

namespace Sys2Proof.Machine

/-- A candidate of a zero-cross line becomes its qualified level, 256 ticks after its stamp (R3). -/
def crossingTaken (l : ZLine) (c : Candidate) (o : Sched) (s : State) : State :=
  syncTaken o (msyQualify s.set.settleCount s.set.windowHalf l c s.msy) { s with now := plus c.stamp crossPersist }

/-- A candidate of a zero-cross line that has persisted by `t` is qualified (R3; log entry 10). -/
def crossingCaughtUp (l : ZLine) (t : Tick) (o : Sched) (s : State) : State :=
  match (s.msy.line l).cand with
  | none => s
  | some c => if crossPersist ≤ since t c.stamp then crossingTaken l c o s else s

/-- The raw level of a zero-cross line at `t` (R3). -/
def rawCrossing (l : ZLine) (level : Bool) (t : Tick) (s : State) : State :=
  { s with now := t, msy := s.msy.putLine l (qualRaw level t (s.msy.line l)) }

/-- ZERO_CROSS_RAW_EDGE (R3). -/
def execZeroCrossRawEdge (line : ZLine) (level : Bool) (t : Tick) (o : Sched) (s : State) :
    Host.Outcome State Fault Refusal :=
  .next (rawCrossing line level t (crossingCaughtUp line t o s))

/-- QUALIFIED_CROSSING (R3, R5 to R9, R12, R13, R127, R128). -/
def execQualifiedCrossing (line : ZLine) (o : Sched) (s : State) : Host.Outcome State Fault Refusal :=
  .next (match (s.msy.line line).cand with
    | none => s
    | some c => crossingTaken line c o s)

/-- LOCKING_TIMEOUT (R7). -/
def execLockingTimeout (s : State) : Host.Outcome State Fault Refusal :=
  .next (match s.msy.lockTimeout with
    | none => s
    | some u => { s with now := u, msy := msySeek s.msy })

/-- The open window of the latest prediction, while it is tracked (R10, R14). -/
def openWindow (m : Msy) : Option Prediction :=
  match m.prediction with
  | none => none
  | some w => if tracking m && !w.served then some w else none

/-- The window `w` closes unserved (R14, R16). -/
def windowCloses (w : Prediction) (o : Sched) (s : State) : State :=
  syncTaken o (msyMiss s.set.holdover s.set.windowHalf w s.msy) { s with now := closeInstant w }

/-- WINDOW_CLOSE (R14, R16). -/
def execWindowClose (o : Sched) (s : State) : Host.Outcome State Fault Refusal :=
  .next (match openWindow s.msy with
    | none => s
    | some w => windowCloses w o s)

/-- SYNC_LOST: the window close at which the miss count exceeds holdover (R16, R43, R126). -/
def execSyncLost (o : Sched) (s : State) : Host.Outcome State Fault Refusal :=
  .next (match openWindow s.msy with
    | none => s
    | some w => if s.set.holdover < s.msy.missCount + 1 then windowCloses w o s else s)

/-- The synchroniser becomes `m` and issues a period event at `t` (R2); the lines of the links that have come to rest by
then rest from then on (R191, R197; log entries 16 and 18), and nothing of an edge to come is noted. -/
def periodFalls (t : Tick) (m : Msy) (s : State) : State :=
  { s with now := t, msy := m, links := linksAt s.rate t s.links, issued := none }

/-- REFERENCE_EDGE (R11, R17), a period event (R2). Its origins are computed from the origin offset and P_est of its
issue: those noted where a block has taken the edge ahead (log entry 7), else those now in force. -/
def execReferenceEdge (o : Sched) (s : State) : Host.Outcome State Fault Refusal :=
  .next (match edgeDue s.msy with
    | none => s
    | some t => periodEvent o t (periodFalls t (msyEdge (s.issueAt t) s.msy) s))

/-- SUBSTITUTE_PERIOD_EVENT (R19), a period event (R2). -/
def execSubstitutePeriodEvent (o : Sched) (s : State) : Host.Outcome State Fault Refusal :=
  .next (match substDue s.msy with
    | none => s
    | some t => periodEvent o t (periodFalls t (msySubstitute t s.msy) s))

/-- Block `b` takes the coming period event, where it has not taken it and `due` says of its number and instant that
the thing the command names comes about (log entry 7). A reference edge is issued before any block takes it: the origin
offset and P_est of its origins are noted first, for the REFERENCE_EDGE that follows (R11, R17). -/
def takeAhead (b : Block) (o : Sched) (due : Period → Tick → Bool) (s : State) : State :=
  match nextPeriodEvent s.msy with
  | none => s
  | some t =>
    if decide (s.takenBy b ≠ s.msy.period + 1#32) && due (s.msy.period + 1#32) t then
      (periodWork o (s.msy.period + 1#32) t b [] { state := { s with now := t, issued := s.edgeNoted t }, mail := [] }).state
    else s

/-- A report of `k` is among the messages. -/
def reports (k : Cause) (ms : List Msg) : Bool :=
  ms.any (fun m => match m with
    | .report j _ => decide (j = k)
    | .cond _ _ => false
    | .notice _ _ => false
    | .capture _ _ => false)

/-- The speed and torque unit's period work would report `k`. -/
def stuReports (k : Cause) (s : State) (n : Period) (t : Tick) : Bool :=
  reports k (stuPeriod s.set (s.stuView n t) s.stu).2

/-- The drive sequencer's period work would report `k`. -/
def dsqReports (k : Cause) (s : State) (n : Period) : Bool := reports k (dsqPeriod s.set (s.dsqView n) s.dsq).2

/-- HOLD_EXPIRED (R74). -/
def execHoldExpired (o : Sched) (s : State) : Host.Outcome State Fault Refusal :=
  .next (takeAhead .stu o (stuReports .referenceHold s) s)

/-- SPEED_SENSOR_EXCLUDED (R69). -/
def execSpeedSensorExcluded (x : Side) (o : Sched) (s : State) : Host.Outcome State Fault Refusal :=
  .next (takeAhead .stu o (stuReports (.speedSensor x) s) s)

/-- PINION_MISMATCH (R71). -/
def execPinionMismatch (o : Sched) (s : State) : Host.Outcome State Fault Refusal :=
  .next (takeAhead .stu o (stuReports .pinionMismatch s) s)

/-- BREAKAWAY_FAILED (R81). -/
def execBreakawayFailed (o : Sched) (s : State) : Host.Outcome State Fault Refusal :=
  .next (takeAhead .stu o (stuReports .breakawayFailed s) s)

/-- STALL (R92). -/
def execStall (o : Sched) (s : State) : Host.Outcome State Fault Refusal :=
  .next (takeAhead .stu o (stuReports .stall s) s)

/-- The order of a command whose takings cannot coincide with others. -/
def noOrder : Sched := { takings := [], reports := [], channels := [], applyFirst := false }

/-- RECORD_SEALED (R166). -/
def execRecordSealed (s : State) : Host.Outcome State Fault Refusal :=
  .next (takeAhead .rcu noOrder (fun _ _ => sealsNext s.rcu) s)

/-- PERMIT_LAPSE (R150, R152). -/
def execPermitLapse (o : Sched) (s : State) : Host.Outcome State Fault Refusal :=
  .next (takeAhead .pru o (fun _ _ => permitLapses s.pru) s)

/-- CLOSE_DELAY_END (R122). -/
def execCloseDelayEnd (o : Sched) (s : State) : Host.Outcome State Fault Refusal :=
  .next (takeAhead .dsq o
    (fun n _ => decide (s.dsq.drive = .closing) && decide ((dsqWork s.set (s.dsqView n) s.dsq).drive = .starting)) s)

/-- COAST_TIMEOUT (R127). -/
def execCoastTimeout (o : Sched) (s : State) : Host.Outcome State Fault Refusal :=
  .next (takeAhead .dsq o (fun n _ => dsqReports .mainsLoss s n) s)

/-- CONTACTOR_RELEASE (R135, R136). -/
def execContactorRelease (o : Sched) (s : State) : Host.Outcome State Fault Refusal :=
  .next (takeAhead .dsq o (fun n _ => s.dsq.contactor && !(dsqWork s.set (s.dsqView n) s.dsq).contactor) s)

/-- CURRENT_NOT_DECAYING (R137). -/
def execCurrentNotDecaying (o : Sched) (s : State) : Host.Outcome State Fault Refusal :=
  .next (takeAhead .dsq o (fun n _ => dsqReports .currentNotDecaying s n) s)

end Sys2Proof.Machine
end

