-- ==== Sys2Proof/Machine/MeasurementCommands.lean ====
section
/-! DEFINITION. The commands of the measurement unit and of the vibration watch (chapters 2 and 5), and those of the
EXT_TRIP line (R154). -/

namespace Sys2Proof.Machine

/-- The current group at the sample instant `t` of the open interval `g` (R25). -/
def sampleTaken (v : RawSet) (o : Sched) (g : Interval) (t : Tick) (s : State) : State :=
  deliver o (meuSample s.set v g s.meu).2 { s with now := t, meu := (meuSample s.set v g s.meu).1 }

/-- CURRENT_SAMPLE (R22, R25, R28 to R30). -/
def execCurrentSample (v : RawSet) (o : Sched) (s : State) : Host.Outcome State Fault Refusal :=
  .next (match sampleDue s.meu with
    | none => s
    | some (g, t) => sampleTaken v o g t s)

/-- The sample takes CURRENT_SENSOR_x from clear to holding (R28). -/
def sensorTrips (x : Side) (z : SetTable) (v : RawSet) (g : Interval) (m : Meu) : Bool :=
  !(m.sides.get x).sensorCond && ((meuSample z v g m).1.sides.get x).sensorCond

/-- CURRENT_SENSOR: the sample at which the rail counter of channel `x` reaches 3 (R28). -/
def execCurrentSensor (x : Side) (v : RawSet) (o : Sched) (s : State) : Host.Outcome State Fault Refusal :=
  .next (match sampleDue s.meu with
    | none => s
    | some (g, t) => if sensorTrips x s.set v g s.meu then sampleTaken v o g t s else s)

/-- The watch takes a change of the sensor-fault flag of channel `n` from `old` to `new` (R110, R111). -/
def flagChange (o : Sched) (n : Chan) (old new : Bool) (s : State) : State :=
  if old = new then s
  else if new then putChan o n (sensorFaultSet (s.vwa.chans.get n)) s
  else putChan o n (sensorFaultClear s.set.watchMin (s.refSpeedOf n) s.now (s.vwa.chans.get n)) s

/-- The watch takes the scan record of channel `n` (R101). -/
def handScan (n : Chan) (x : Int) (s : State) : State :=
  { s with vwa := { s.vwa with chans := s.vwa.chans.put n (takeScan x s.now (s.vwa.chans.get n)) } }

/-- Channel `n` at a scan (R31 to R33): the bias and the window test, the scan record, then the change of the flag. -/
def scanOne (v : RawSet) (o : Sched) (s : State) (n : Chan) : State :=
  let d := s.meu.chans.get n
  let d' := chanScan s.set (rawOf v n) d
  flagChange o n d.flag d'.flag
    (handScan n (scanValue (rawOf v n) d) { s with meu := { s.meu with chans := s.meu.chans.put n d' } })

/-- A scan (R31): the next scan instant is 2000 ticks on. -/
def scanTaken (v : RawSet) (o : Sched) (s : State) : State :=
  (chanOrder o).foldl (scanOne v o)
    { s with now := s.meu.nextScan, meu := { s.meu with nextScan := plus s.meu.nextScan scanTicks } }

/-- VIBRATION_SCAN (R22, R31 to R33, R101). -/
def execVibrationScan (v : RawSet) (o : Sched) (s : State) : Host.Outcome State Fault Refusal :=
  .next (scanTaken v o s)

/-- The flag of channel `n` after a scan (R33). -/
def flagAfter (n : Chan) (v : RawSet) (s : State) : Bool := (chanScan s.set (rawOf v n) (s.meu.chans.get n)).flag

/-- SENSOR_FAULT_SET: the scan at which channel `n` is flagged (R33, R110). -/
def execSensorFaultSet (n : Chan) (v : RawSet) (o : Sched) (s : State) : Host.Outcome State Fault Refusal :=
  .next (if !(s.meu.chans.get n).flag && flagAfter n v s then scanTaken v o s else s)

/-- SENSOR_FAULT_CLEAR: the scan at which the flag of channel `n` is cleared (R33, R111). -/
def execSensorFaultClear (n : Chan) (v : RawSet) (o : Sched) (s : State) : Host.Outcome State Fault Refusal :=
  .next (if (s.meu.chans.get n).flag && !flagAfter n v s then scanTaken v o s else s)

/-- A tooth arrival of pinion `x` stamped `t` (R35, R69). -/
def toothTaken (x : Side) (t : Tick) (o : Sched) (s : State) : State :=
  deliver o (stuTooth x s.stu).2 { s with meu := meuTooth x t s.meu, stu := (stuTooth x s.stu).1 }

/-- Channel `n` takes a marker record where the marker is its reference marker (R36, R97, R98, R100). -/
def chanMarker (k : Marker) (t : Tick) (o : Sched) (s : State) (n : Chan) : State :=
  if (s.set.profile n).marker = k then
    let c := takeMarker (s.set.profile n) t (s.vwa.chans.get n)
    if c.2 then takeStaged o n (putChan o n c.1 s) else putChan o n c.1 s
  else s

/-- A marker record reaches the watch (R36). -/
def markerTaken (k : Marker) (t : Tick) (o : Sched) (s : State) : State := (chanOrder o).foldl (chanMarker k t o) s

/-- A qualified rising edge of a pulse input stamped `t` (R35, R36). -/
def pulseRises (l : PulseLine) (t : Tick) (o : Sched) (s : State) : State :=
  match l with
  | .pa => toothTaken .a t o s
  | .pb => toothTaken .b t o s
  | .ka => markerTaken .ka t o s
  | .kb => markerTaken .kb t o s
  | .ks => markerTaken .ks t o s

/-- A candidate of a pulse input becomes its qualified level, 200 ticks after its stamp (R34). -/
def pulseTaken (l : PulseLine) (c : Candidate) (o : Sched) (s : State) : State :=
  if c.level then
    pulseRises l c.stamp o { s with now := plus c.stamp pulsePersist, meu := s.meu.putLine l (qualTake c) }
  else { s with now := plus c.stamp pulsePersist, meu := s.meu.putLine l (qualTake c) }

/-- A candidate of a pulse input that has persisted by `t` is qualified (R34; log entry 10). -/
def pulseCaughtUp (l : PulseLine) (t : Tick) (o : Sched) (s : State) : State :=
  match (s.meu.line l).cand with
  | none => s
  | some c => if pulsePersist ≤ since t c.stamp then pulseTaken l c o s else s

/-- The raw level of a pulse input at `t` (R34). -/
def rawPulse (l : PulseLine) (level : Bool) (t : Tick) (s : State) : State :=
  { s with now := t, meu := s.meu.putLine l (qualRaw level t (s.meu.line l)) }

/-- PULSE_RAW_EDGE (R34). -/
def execPulseRawEdge (line : PulseLine) (level : Bool) (t : Tick) (o : Sched) (s : State) :
    Host.Outcome State Fault Refusal :=
  .next (rawPulse line level t (pulseCaughtUp line t o s))

/-- PULSE_QUALIFIED_EDGE (R34 to R36, R69, R97, R98). -/
def execPulseQualifiedEdge (line : PulseLine) (o : Sched) (s : State) : Host.Outcome State Fault Refusal :=
  .next (match (s.meu.line line).cand with
    | none => s
    | some c => pulseTaken line c o s)

/-- MARKER_DEADLINE (R99). -/
def execMarkerDeadline (n : Chan) (o : Sched) (s : State) : Host.Outcome State Fault Refusal :=
  .next (match (s.vwa.chans.get n).deadline with
    | none => s
    | some d => putChan o n (takeDeadline (s.vwa.chans.get n)) { s with now := d })

/-- The qualified level of EXT_TRIP becomes active or inactive (R154). -/
def extChange (level : Bool) (o : Sched) (s : State) : State :=
  if level then
    takeReport o .extTrip s.pru.periodTaken { s with pru := pruCond .extTrip true { s.pru with extCond := true } }
  else { s with pru := pruCond .extTrip false { s.pru with extCond := false } }

/-- The candidate of EXT_TRIP becomes its qualified level, 2000 ticks after its stamp (R154). -/
def extTaken (c : Candidate) (o : Sched) (s : State) : State :=
  extChange c.level o { s with now := plus c.stamp extPersist, pru := { s.pru with ext := qualTake c } }

/-- A candidate of EXT_TRIP that has persisted by `t` is qualified (R154; log entry 10). -/
def extCaughtUp (t : Tick) (o : Sched) (s : State) : State :=
  match s.pru.ext.cand with
  | none => s
  | some c => if extPersist ≤ since t c.stamp then extTaken c o s else s

/-- The raw level of EXT_TRIP at `t` (R154). -/
def rawExt (level : Bool) (t : Tick) (s : State) : State :=
  { s with now := t, pru := { s.pru with ext := qualRaw level t s.pru.ext } }

/-- EXT_TRIP_RAW_EDGE (R154). -/
def execExtTripRawEdge (level : Bool) (t : Tick) (o : Sched) (s : State) : Host.Outcome State Fault Refusal :=
  .next (rawExt level t (extCaughtUp t o s))

/-- EXT_TRIP_QUALIFIED (R154). -/
def execExtTripQualified (o : Sched) (s : State) : Host.Outcome State Fault Refusal :=
  .next (match s.pru.ext.cand with
    | none => s
    | some c => extTaken c o s)

end Sys2Proof.Machine
end

