-- ==== Sys2Proof/Machine/RequestCommands.lean ====
section
/-! DEFINITION. The commands that are requests of the stations (section 10.7): each is the arrival of the complete
request on its link (R194), so that the link's own tests (R195) and its queue stand before the effect. -/

namespace Sys2Proof.Machine

/-- A two-byte operand of a request (R203). -/
def operand2 (v : BitVec 16) : List Byte := be 2 v.toNat

/-- The complete request of kind `k` arrives on `link` at `t` (R194). -/
def requestArrives (link : Station) (k : ReqKind) (tag : Byte) (payload : List Byte) (t : Tick) (o : Sched)
    (s : State) : State :=
  completeRequest link { kind := kindCode k, tag := tag, payload := payload } o { s with now := t }

/-- The longest value field a frame can carry (section 10.2): 250 body bytes less KIND, TAG and identifier. -/
def valueMax : Nat := 246

/-- STATUS (R201). -/
def execStatus (link : Station) (tag : Byte) (t : Tick) (o : Sched) (s : State) :
    Host.Outcome State Fault Refusal :=
  .next (requestArrives link .status tag [] t o s)

/-- NOTICES (R199, R200). -/
def execNotices (link : Station) (tag : Byte) (t : Tick) (o : Sched) (s : State) :
    Host.Outcome State Fault Refusal :=
  .next (requestArrives link .notices tag [] t o s)

/-- GET SETTING (R189). -/
def execGetSetting (link : Station) (tag : Byte) (id : BitVec 16) (t : Tick) (o : Sched) (s : State) :
    Host.Outcome State Fault Refusal :=
  .next (requestArrives link .getSetting tag (operand2 id) t o s)

/-- PUT SETTING (R181 to R183); a value field that no frame can carry is never received and has no effect (log entry 9). -/
def execPutSetting (link : Station) (tag : Byte) (id : BitVec 16) (value : List Byte) (t : Tick) (o : Sched)
    (s : State) : Host.Outcome State Fault Refusal :=
  .next (if value.length ≤ valueMax then requestArrives link .putSetting tag (operand2 id ++ value) t o s else s)

/-- LIST RECORDS (R174). -/
def execListRecords (link : Station) (tag : Byte) (t : Tick) (o : Sched) (s : State) :
    Host.Outcome State Fault Refusal :=
  .next (requestArrives link .listRecords tag [] t o s)

/-- OPEN RECORD (R175). -/
def execOpenRecord (link : Station) (tag : Byte) (n : BitVec 16) (t : Tick) (o : Sched) (s : State) :
    Host.Outcome State Fault Refusal :=
  .next (requestArrives link .openRecord tag (operand2 n) t o s)

/-- NEXT CHUNK (R172, R176). -/
def execNextChunk (link : Station) (tag : Byte) (t : Tick) (o : Sched) (s : State) :
    Host.Outcome State Fault Refusal :=
  .next (requestArrives link .nextChunk tag [] t o s)

/-- CHANNEL (R114). -/
def execChannel (link : Station) (tag : Byte) (n : Byte) (t : Tick) (o : Sched) (s : State) :
    Host.Outcome State Fault Refusal :=
  .next (requestArrives link .channel tag [n] t o s)

/-- TABLE (R115). -/
def execTable (link : Station) (tag : Byte) (n h : Byte) (t : Tick) (o : Sched) (s : State) :
    Host.Outcome State Fault Refusal :=
  .next (requestArrives link .table tag [n, h] t o s)

/-- CAPTURE (R169). -/
def execCapture (link : Station) (tag : Byte) (t : Tick) (o : Sched) (s : State) :
    Host.Outcome State Fault Refusal :=
  .next (requestArrives link .capture tag [] t o s)

/-- SPEED REF (R73). -/
def execSpeedRef (link : Station) (tag : Byte) (value : BitVec 16) (t : Tick) (o : Sched) (s : State) :
    Host.Outcome State Fault Refusal :=
  .next (requestArrives link .speedRef tag (operand2 value) t o s)

/-- START (R121). -/
def execStart (link : Station) (tag : Byte) (t : Tick) (o : Sched) (s : State) :
    Host.Outcome State Fault Refusal :=
  .next (requestArrives link .start tag [] t o s)

/-- STOP (R124). -/
def execStop (link : Station) (tag : Byte) (t : Tick) (o : Sched) (s : State) :
    Host.Outcome State Fault Refusal :=
  .next (requestArrives link .stop tag [] t o s)

/-- TO AUX (R132). -/
def execToAux (link : Station) (tag : Byte) (t : Tick) (o : Sched) (s : State) :
    Host.Outcome State Fault Refusal :=
  .next (requestArrives link .toAux tag [] t o s)

/-- FROM AUX (R133). -/
def execFromAux (link : Station) (tag : Byte) (t : Tick) (o : Sched) (s : State) :
    Host.Outcome State Fault Refusal :=
  .next (requestArrives link .fromAux tag [] t o s)

/-- PERMIT (R149). -/
def execPermit (link : Station) (tag : Byte) (t : Tick) (o : Sched) (s : State) :
    Host.Outcome State Fault Refusal :=
  .next (requestArrives link .permit tag [] t o s)

/-- WITHDRAW (R151, R152). -/
def execWithdraw (link : Station) (tag : Byte) (t : Tick) (o : Sched) (s : State) :
    Host.Outcome State Fault Refusal :=
  .next (requestArrives link .withdraw tag [] t o s)

/-- TRIP (R153). -/
def execTrip (link : Station) (tag : Byte) (t : Tick) (o : Sched) (s : State) :
    Host.Outcome State Fault Refusal :=
  .next (requestArrives link .trip tag [] t o s)

/-- RESET TRIP (R155, R156). -/
def execResetTrip (link : Station) (tag : Byte) (t : Tick) (o : Sched) (s : State) :
    Host.Outcome State Fault Refusal :=
  .next (requestArrives link .resetTrip tag [] t o s)

/-- CLEAR TABLE (R112, R116). -/
def execClearTable (link : Station) (tag : Byte) (n : Byte) (t : Tick) (o : Sched) (s : State) :
    Host.Outcome State Fault Refusal :=
  .next (requestArrives link .clearTable tag [n] t o s)

end Sys2Proof.Machine
end

