-- ==== Sys2Proof/Machine/ResetCommands.lean ====
section
/-! DEFINITION. POWER_ON and RESET_LINE_RELEASE: the values of R21, R38, R66, R94, R118, R139, R158, R179, R180, R190
and R198, and the report of EXT_TRIP at a release with its line active (R154). -/

namespace Sys2Proof.Machine

/-- Every block at release, with the record unit as given and the queue kept. -/
def released (t : Tick) (pins : Pins) (rcu : Rcu) (s : State) : State :=
  { now := t, rate := rateOf pins.rsel1 pins.rsel0, msy := msyRelease t pins, meu := meuRelease t pins,
    cca := convRelease pins.faultA, ccb := convRelease pins.faultB, stu := stuRelease, vwa := vwaRelease,
    dsq := dsqRelease, pru := pruRelease pins.extTrip, rcu := rcu, set := setRelease,
    links := linksRelease t pins, issued := none, pending := s.pending }

/-- EXT_TRIP is holding from release and reported at release where its line is active then (R154, R158). -/
def extAtRelease (o : Sched) (s : State) : State :=
  if s.pru.ext.level then
    takeReport o .extTrip s.pru.periodTaken { s with pru := pruCond .extTrip true { s.pru with extCond := true } }
  else s

/-- POWER_ON (R21, R38, R66, R94, R118, R139, R158, R179, R190, R198). -/
def execPowerOn (t : Tick) (pins : Pins) (o : Sched) (s : State) : Host.Outcome State Fault Refusal :=
  .next (extAtRelease o (released t pins rcuRelease s))

/-- RESET_LINE_RELEASE: as power-on, but for the record store and the record number counter (R180). -/
def execResetLineRelease (t : Tick) (pins : Pins) (o : Sched) (s : State) : Host.Outcome State Fault Refusal :=
  .next (extAtRelease o (released t pins (rcuResetLine s.rcu) s))

end Sys2Proof.Machine
end

