-- ==== Sys2Proof/Machine/Dispatch.lean ====
section
/-! DEFINITION. The one dispatch: each command's arm calls its meaning. -/

namespace Sys2Proof.Machine

def exec (i : Instr) (s : State) : Host.Outcome State Fault Refusal :=
  match i with
  | .powerOn t pins o => Sys2Proof.Machine.execPowerOn t pins o s
  | .resetLineRelease t pins o => Sys2Proof.Machine.execResetLineRelease t pins o s
  | .zeroCrossRawEdge line level t o => Sys2Proof.Machine.execZeroCrossRawEdge line level t o s
  | .qualifiedCrossing line o => Sys2Proof.Machine.execQualifiedCrossing line o s
  | .lockingTimeout => Sys2Proof.Machine.execLockingTimeout s
  | .windowClose o => Sys2Proof.Machine.execWindowClose o s
  | .syncLost o => Sys2Proof.Machine.execSyncLost o s
  | .referenceEdge o => Sys2Proof.Machine.execReferenceEdge o s
  | .substitutePeriodEvent o => Sys2Proof.Machine.execSubstitutePeriodEvent o s
  | .holdExpired o => Sys2Proof.Machine.execHoldExpired o s
  | .speedSensorExcluded x o => Sys2Proof.Machine.execSpeedSensorExcluded x o s
  | .pinionMismatch o => Sys2Proof.Machine.execPinionMismatch o s
  | .breakawayFailed o => Sys2Proof.Machine.execBreakawayFailed o s
  | .stall o => Sys2Proof.Machine.execStall o s
  | .recordSealed => Sys2Proof.Machine.execRecordSealed s
  | .permitLapse o => Sys2Proof.Machine.execPermitLapse o s
  | .closeDelayEnd o => Sys2Proof.Machine.execCloseDelayEnd o s
  | .coastTimeout o => Sys2Proof.Machine.execCoastTimeout o s
  | .contactorRelease o => Sys2Proof.Machine.execContactorRelease o s
  | .currentNotDecaying o => Sys2Proof.Machine.execCurrentNotDecaying o s
  | .origin o => Sys2Proof.Machine.execOrigin o s
  | .firingIssue x => Sys2Proof.Machine.execFiringIssue x s
  | .burstPhaseEnd x => Sys2Proof.Machine.execBurstPhaseEnd x s
  | .escalationDecay x => Sys2Proof.Machine.execEscalationDecay x s
  | .faultArrival x t o => Sys2Proof.Machine.execFaultArrival x t o s
  | .faultClear x t => Sys2Proof.Machine.execFaultClear x t s
  | .currentSample v o => Sys2Proof.Machine.execCurrentSample v o s
  | .currentSensor x v o => Sys2Proof.Machine.execCurrentSensor x v o s
  | .vibrationScan v o => Sys2Proof.Machine.execVibrationScan v o s
  | .sensorFaultSet n v o => Sys2Proof.Machine.execSensorFaultSet n v o s
  | .sensorFaultClear n v o => Sys2Proof.Machine.execSensorFaultClear n v o s
  | .pulseRawEdge line level t o => Sys2Proof.Machine.execPulseRawEdge line level t o s
  | .pulseQualifiedEdge line o => Sys2Proof.Machine.execPulseQualifiedEdge line o s
  | .markerDeadline n o => Sys2Proof.Machine.execMarkerDeadline n o s
  | .extTripRawEdge level t o => Sys2Proof.Machine.execExtTripRawEdge level t o s
  | .extTripQualified o => Sys2Proof.Machine.execExtTripQualified o s
  | .rxByte link v t o => Sys2Proof.Machine.execRxByte link v t o s
  | .rxFramingError link low t => Sys2Proof.Machine.execRxFramingError link low t s
  | .gapTimeout link => Sys2Proof.Machine.execGapTimeout link s
  | .replySent link o => Sys2Proof.Machine.execReplySent link o s
  | .linkReset link t => Sys2Proof.Machine.execLinkReset link t s
  | .status link tag t o => Sys2Proof.Machine.execStatus link tag t o s
  | .notices link tag t o => Sys2Proof.Machine.execNotices link tag t o s
  | .getSetting link tag id t o => Sys2Proof.Machine.execGetSetting link tag id t o s
  | .putSetting link tag id value t o => Sys2Proof.Machine.execPutSetting link tag id value t o s
  | .listRecords link tag t o => Sys2Proof.Machine.execListRecords link tag t o s
  | .openRecord link tag n t o => Sys2Proof.Machine.execOpenRecord link tag n t o s
  | .nextChunk link tag t o => Sys2Proof.Machine.execNextChunk link tag t o s
  | .channel link tag n t o => Sys2Proof.Machine.execChannel link tag n t o s
  | .table link tag n h t o => Sys2Proof.Machine.execTable link tag n h t o s
  | .capture link tag t o => Sys2Proof.Machine.execCapture link tag t o s
  | .speedRef link tag value t o => Sys2Proof.Machine.execSpeedRef link tag value t o s
  | .start link tag t o => Sys2Proof.Machine.execStart link tag t o s
  | .stop link tag t o => Sys2Proof.Machine.execStop link tag t o s
  | .toAux link tag t o => Sys2Proof.Machine.execToAux link tag t o s
  | .fromAux link tag t o => Sys2Proof.Machine.execFromAux link tag t o s
  | .permit link tag t o => Sys2Proof.Machine.execPermit link tag t o s
  | .withdraw link tag t o => Sys2Proof.Machine.execWithdraw link tag t o s
  | .trip link tag t o => Sys2Proof.Machine.execTrip link tag t o s
  | .resetTrip link tag t o => Sys2Proof.Machine.execResetTrip link tag t o s
  | .clearTable link tag n t o => Sys2Proof.Machine.execClearTable link tag n t o s

end Sys2Proof.Machine
end

