-- ==== Sys2Proof/Safety.lean ====
section
/-! DEFINITION. What the manual says holds of the part at every moment, as tests of a state. Each is meant to be kept by
every command from every state in which it holds; the obligations say so. -/

namespace Sys2Proof.Machine

/-- A row's staged value, where there is one, is in the row's range. -/
def stagedFits (f : Form) (w : Option SetValue) : Bool :=
  match w with
  | none => true
  | some v => valueInRange f v

/-- The table holds 87 settings, each active value lies within its range, and so does each staged value (R182). -/
def settingsRight (z : SetTable) : Bool :=
  decide (z.active.length = 87) && decide (z.staged.length = 87) &&
  (setRows z).all (fun x => valueInRange x.1.form x.2.1 && stagedFits x.1.form x.2.2)

/-- An attention line is asserted exactly while its notice set is not empty (R199). -/
def attentionRight (l : Link) : Bool := decide (l.attention = !l.notices.isEmpty)

/-- The three attention lines (R199). -/
def attentionsRight (s : State) : Bool := attentionRight s.links.c && attentionRight s.links.p && attentionRight s.links.m

/-- A converter is in neither FIRING nor HELD. -/
def convIdle (c : Conv) : Bool := decide (c.state ≠ .firing) && decide (c.state ≠ .held)

/-- The enable is that of the drive state, and while it is withdrawn no converter is in FIRING or HELD (R41, R120). -/
def enableRight (s : State) : Bool :=
  decide (s.dsq.enable = enableOf s.dsq.drive) && (enableOf s.dsq.drive || (convIdle s.cca && convIdle s.ccb))

/-- CONTACTOR, the release wait and AUX_EN agree with the drive state (section 6.1, R134). -/
def linesRight (d : Dsq) : Bool :=
  decide (d.auxEn = decide (d.drive = .aux)) &&
  match d.drive with
  | .closing | .starting | .run | .stopping | .coast | .tripStop => d.contactor && decide (d.wait = .none)
  | .aux => !d.contactor && decide (d.wait = .none)
  | .blocked | .tripped => decide (d.contactor = decide (d.wait ≠ .none))

/-- The derate level is the greatest of the four contributions (R108). -/
def derateRight (v : Vwa) : Bool := decide (v.level = levelOf v.chans)

/-- A channel's average table and its accumulators have 64 bins (R101, R102). -/
def chanBinsRight (c : VChan) : Bool :=
  decide (c.table.length = 64) && decide (c.acc.sums.length = 64) && decide (c.acc.counts.length = 64)

/-- Every channel has its 64 bins. -/
def binsRight (v : Vwa) : Bool := allChans.all (fun n => chanBinsRight (v.chans.get n))

/-- The latched set holds each kind once. -/
def kindsOnce (p : Pru) : Bool := decide (p.latched.map Latch.kind).Nodup

/-- The latched set lists its kinds in the order of their codes (R155 names the lowest code whose condition holds). -/
def latchedInOrder (p : Pru) : Bool := decide ((p.latched.map (fun e => causeCode e.kind)).Pairwise (· < ·))

/-- TRIP is asserted exactly while the ACTIVE episode holds a latched class B cause (R147); a CLEAR episode has
neither class, first-out, latched entry nor record (R156). The latched set holds each kind once, in code order. -/
def tripRight (p : Pru) : Bool :=
  kindsOnce p && latchedInOrder p &&
  decide (p.trip = (p.active && p.latched.any (fun e => decide (e.cls = .b)))) &&
  (p.active || (decide (p.cls = none) && decide (p.firstOut = none) && decide (p.latched = []) && decide (p.record = none)))

/-- The gate lines of a controller are those of its burst (R55, R56), and in OFF there is neither burst nor pending
firing (R42). -/
def gatesRight (c : Conv) : Bool :=
  decide (c.gates = match c.burst with
    | none => 0#6
    | some b => if b.on then gatePair b.thy else 0#6) &&
  (decide (c.state ≠ .off) || (decide (c.burst = none) && decide (c.firings = [])))

/-- A motor's share lies between 0 and its pinion limit (R86). -/
def shareRight (d : Motor) : Bool := decide (0 ≤ d.share) && decide (d.share ≤ d.limit)

/-- The total demand lies within the envelope, the shares within the demand and the pinion limits (R77, R82, R86), and
without the speed loop there is neither demand, share nor current reference (R78). -/
def torqueRight (s : State) : Bool :=
  decide (0 ≤ s.stu.td) && decide (s.stu.td ≤ s.stu.tenv) && shareRight s.stu.motors.a && shareRight s.stu.motors.b &&
  decide (s.stu.motors.a.share + s.stu.motors.b.share ≤ s.stu.td) &&
  (loopRuns s.dsq.drive ||
   (decide (s.stu.td = 0) && decide (s.stu.motors.a.iref = 0) && decide (s.stu.motors.b.iref = 0)))

/-- A record's counts (R165, R166, R167): at most 192 entries are to come, a record is short of them exactly while it
fills, or where it was cut short, and it lists at most eight subsequent causes. -/
def recordRight (r : Record) : Bool :=
  decide (r.subs.length ≤ 8) &&
  decide (r.pre + r.post ≤ recordCapacity) && decide (r.entries.length ≤ r.pre + r.post) &&
  (r.isSealed || decide (r.entries.length < r.pre + r.post))

/-- The slot named as filling holds a record that is FILLING. -/
def fillingRight (u : Rcu) : Bool :=
  match u.filling with
  | none => true
  | some i => match u.slots.get i with
    | none => false
    | some r => !r.isSealed

/-- The history ring holds at most 256 entries, every record's counts hold, and RECORD_MARK is asserted exactly while a
record is FILLING (R159, R165, R166). -/
def recordsRight (u : Rcu) : Bool :=
  decide (u.ring.length ≤ ringCapacity) && decide (u.mark = u.filling.isSome) && fillingRight u &&
  allSlots.all (fun i => match u.slots.get i with
    | none => true
    | some r => recordRight r)

/-- The complete request that a request command brings to its link at an instant (section 10.7, chapter 11): the link,
the instant, KIND, TAG and payload, and the order of the command's takings. The other commands bring none. -/
def commandRequest : Instr → Option (Station × Tick × Request × Sched)
  | .status k g t o => some (k, t, { kind := 0x01#8, tag := g, payload := [] }, o)
  | .notices k g t o => some (k, t, { kind := 0x02#8, tag := g, payload := [] }, o)
  | .getSetting k g id t o => some (k, t, { kind := 0x03#8, tag := g, payload := be 2 id.toNat }, o)
  | .putSetting k g id v t o =>
    if v.length ≤ 246 then some (k, t, { kind := 0x04#8, tag := g, payload := be 2 id.toNat ++ v }, o) else none
  | .listRecords k g t o => some (k, t, { kind := 0x05#8, tag := g, payload := [] }, o)
  | .openRecord k g n t o => some (k, t, { kind := 0x06#8, tag := g, payload := be 2 n.toNat }, o)
  | .nextChunk k g t o => some (k, t, { kind := 0x07#8, tag := g, payload := [] }, o)
  | .channel k g n t o => some (k, t, { kind := 0x08#8, tag := g, payload := [n] }, o)
  | .table k g n h t o => some (k, t, { kind := 0x09#8, tag := g, payload := [n, h] }, o)
  | .capture k g t o => some (k, t, { kind := 0x0A#8, tag := g, payload := [] }, o)
  | .speedRef k g v t o => some (k, t, { kind := 0x10#8, tag := g, payload := be 2 v.toNat }, o)
  | .start k g t o => some (k, t, { kind := 0x11#8, tag := g, payload := [] }, o)
  | .stop k g t o => some (k, t, { kind := 0x12#8, tag := g, payload := [] }, o)
  | .toAux k g t o => some (k, t, { kind := 0x13#8, tag := g, payload := [] }, o)
  | .fromAux k g t o => some (k, t, { kind := 0x14#8, tag := g, payload := [] }, o)
  | .permit k g t o => some (k, t, { kind := 0x20#8, tag := g, payload := [] }, o)
  | .withdraw k g t o => some (k, t, { kind := 0x21#8, tag := g, payload := [] }, o)
  | .trip k g t o => some (k, t, { kind := 0x22#8, tag := g, payload := [] }, o)
  | .resetTrip k g t o => some (k, t, { kind := 0x23#8, tag := g, payload := [] }, o)
  | .clearTable k g n t o => some (k, t, { kind := 0x30#8, tag := g, payload := [n] }, o)
  | .powerOn _ _ _ | .resetLineRelease _ _ _ | .zeroCrossRawEdge _ _ _ _ | .qualifiedCrossing _ _ | .lockingTimeout
  | .windowClose _ | .syncLost _ | .referenceEdge _ | .substitutePeriodEvent _ | .holdExpired _
  | .speedSensorExcluded _ _ | .pinionMismatch _ | .breakawayFailed _ | .stall _ | .recordSealed | .permitLapse _
  | .closeDelayEnd _ | .coastTimeout _ | .contactorRelease _ | .currentNotDecaying _ | .origin _ | .firingIssue _
  | .burstPhaseEnd _ | .escalationDecay _ | .faultArrival _ _ _ | .faultClear _ _ | .currentSample _ _
  | .currentSensor _ _ _ | .vibrationScan _ _ | .sensorFaultSet _ _ _ | .sensorFaultClear _ _ _
  | .pulseRawEdge _ _ _ _ | .pulseQualifiedEdge _ _ | .markerDeadline _ _ | .extTripRawEdge _ _ _
  | .extTripQualified _ | .rxByte _ _ _ _ | .rxFramingError _ _ _ | .gapTimeout _ | .replySent _ _
  | .linkReset _ _ => none

/-- A link that takes the bytes of a list one after the other at `t`, with the last request delivered (R193). -/
def linkBytes (t : Tick) (l : Link) (vs : List Byte) : Link × Option Request :=
  vs.foldl (fun p v => linkByte v t p.1) (l, none)

/-- A kind is in the latched set of an ACTIVE episode (R144, R145). -/
def latchedActive (k : Cause) (p : Pru) : Bool := p.active && (p.latched.map Latch.kind).contains k

end Sys2Proof.Machine
end

