-- ==== Sys2Proof/Certificates/Slice0/Obligations.lean ====
section
/-! DEFINITION. The statements for the provers, grouped as the manual's chapters are: the queue, resets, mains, the
period event, converters, measurement and vibration, protection, links, requests, and what every step keeps. A bound
instant, number or record is written out as the rule gives it. -/

open Sys2Proof Sys2Proof.Machine

/-- Tier 1. A step takes the command at the front of the queue and runs `exec` on it with the queue's rest. With an
empty queue the model idles for one tick, which is the model's own choice (log entry 8). -/
def Obligations.StepTakesTheFront : Prop :=
  (∀ (c : Instr) (rest : List Instr) (s : State),
    step { s with pending := c :: rest } = exec c { s with pending := rest }) ∧
  ∀ s : State, step { s with pending := [] } = .next { s with pending := [], now := s.now + 1#32 }

/-- Tier 2. Every command answers a next state, and none changes the queue of waiting commands (00_scope, "Timing of
work"; log entry 1). Only the two resets change the link rate (R191), and no request of a station changes the mains
synchroniser or the measurement unit (section 10.7). That the queue is left alone is the model's own convention. -/
def Obligations.CommandsCompleteAndKeepTheirReach : Prop :=
  ∀ (c : Instr) (s : State), ∃ u, exec c s = .next u ∧ u.pending = s.pending ∧
    ((∀ t p o, c ≠ .powerOn t p o) → (∀ t p o, c ≠ .resetLineRelease t p o) → u.rate = s.rate) ∧
    (commandRequest c ≠ none → u.msy = s.msy ∧ u.meu = s.meu)

/-- Tier 2. Both resets leave the link rate of the straps, the synchroniser of R21 and the measurement unit of R38,
whatever the lines and whatever stood before. That nothing is noted of a coming reference edge is the model's own
(`issued`, log entry 7). -/
def Obligations.ResetSynchroniserAndMeasurement : Prop :=
  ∀ (i : Instr) (t : Tick) (p : Pins) (o : Sched) (s : State), i = .powerOn t p o ∨ i = .resetLineRelease t p o →
    ∃ u, exec i s = .next u ∧ u.now = t ∧
      u.rate = (if p.rsel1 && !p.rsel0 then .r2M else if !p.rsel1 && p.rsel0 then .r1M else .r500k) ∧
      u.msy = { za := ⟨p.za, none⟩, zb := ⟨p.zb, none⟩, zc := ⟨p.zc, none⟩, lastZb := none, lastZc := none,
                sync := .seek, ring := [], pEst := 200000, lockStart := none, prevValid := none, count := 0,
                lockTimeout := none, prediction := none, pendingEdge := none, waitingEdge := none,
                lastAccepted := none, gap := false, missCount := 0, origins := [], subst := some t, period := 0#32,
                seqCond := false } ∧ u.issued = none ∧
      u.meu.interval = none ∧ u.meu.nextScan = t + 2000#32 ∧
      (∀ x : Side, u.meu.sides.get x =
        { average := 0, voltAverage := 0, accSum := 0, accCount := 0, mean := 0, lastSample := 0, rail := 0,
          sensorCond := false, overCond := false, voltCond := false } ∧
        u.meu.teeth.get x = { newest := none, previous := none }) ∧
      (∀ n : Chan, u.meu.chans.get n = { bias := 2048 * 1024, count := 0, flag := false }) ∧
      u.meu.pa = ⟨p.pa, none⟩ ∧ u.meu.pb = ⟨p.pb, none⟩ ∧ u.meu.ka = ⟨p.ka, none⟩ ∧ u.meu.kb = ⟨p.kb, none⟩ ∧
      u.meu.ks = ⟨p.ks, none⟩

/-- Tier 2. Both resets leave the converter controllers of R66, the speed and torque unit of R94, the channels of R118
and the settings of R190, whatever the lines (also with EXT_TRIP active, which moves the drive at once). That a unit
holds the number of the period event it last took, 0 here (`periodTaken`, log entry 11), and the values the speed and
torque unit last published, here those of a release (`pub`, log entry 20), is the model's own and no rule's; so is the
note of the profiles staged for channels that the speeds brought out of PAUSED, here none (`woken`, log entry 25). -/
def Obligations.ResetConvertersTorqueAndWatch : Prop :=
  ∀ (i : Instr) (t : Tick) (p : Pins) (o : Sched) (s : State), i = .powerOn t p o ∨ i = .resetLineRelease t p o →
    ∃ u, exec i s = .next u ∧
      (∀ x : Side, u.conv x =
        { state := .off, integ := -4194304, lastAngle := 20480, dither := 0, firings := [], burst := none,
          gates := 0#6, lastOrigin := none, retardCount := 0, esc := 0, since := 0,
          fault := (match x with | .a => p.faultA | .b => p.faultB), capture := none, faultCond := false,
          transCond := false }) ∧
      u.stu = { motors := ⟨{ speed := 0, exclCount := 0, excluded := false, q := 30720000, thermal := .cool, limit := 0,
                             share := 0, iref := 0, sensorCond := false, hotCond := false },
                           { speed := 0, exclCount := 0, excluded := false, q := 30720000, thermal := .cool, limit := 0,
                             share := 0, iref := 0, sensorCond := false, hotCond := false }⟩,
                s := 0, mismatch := 0, stationRef := none, hold := .stopped, rr := 0, y := 0, td := 0, window := none,
                tenv := 36045, trim := 0, splitLimited := false, stall := 0, grace := false, mismatchCond := false,
                overspeedCond := false, holdCond := false, breakCond := false, lostCond := false,
                stallCond := false, periodTaken := 0#32,
                pub := { rr := 0, td := 0, tenv := 36045, trim := 0, coarseA := 127, coarseB := 127 } } ∧
      u.vwa.level = 0 ∧ (∀ n : Chan, u.vwa.woken.get n = none) ∧
      (∀ n : Chan, u.vwa.chans.get n =
        { state := .paused, held := none, phase := .wait, lastMarker := none, deadline := none, trev := none,
          table := List.replicate 64 0,
          acc := { sums := List.replicate 64 0, counts := List.replicate 64 0, sumSq := 0, total := 0 },
          sync := 0, resid := 0, completed := 0, serial := 0, alert := 0, danger := 0, release := 0,
          contribution := 0, dangerCond := false, sensorCond := false }) ∧
      u.set.active = catalogue.map (fun r => formDefault r.form) ∧ u.set.staged = List.replicate 87 none

/-- Tier 2. Both resets with EXT_TRIP inactive leave the sequencer of R139, the protection unit of R158 and the links
of R198 (the break timer runs from the release where the receive line is low, for as long as it is). With EXT_TRIP
active at the release both open a class B episode at once: the condition holds, TRIP is asserted, the drive is TRIPPED
with CONTACTOR released, and a record with the counter's number, 1 after power-on and kept by the reset line, takes
the cause (R154, R158, R179, R180). The model's own readings here: the blocks stand as released before the report is
taken, so EPISODE joins RESTARTED in the notice sets (log entry 17, DEDUCED); a unit holds the number of the period
event it last took, 0 here (`periodTaken`, log entry 11). -/
def Obligations.ResetSequencerProtectionAndLinks : Prop :=
  (∀ (i : Instr) (t : Tick) (p : Pins) (o : Sched) (s : State), i = .powerOn t p o ∨ i = .resetLineRelease t p o →
    p.extTrip = false →
    ∃ u, exec i s = .next u ∧
      u.dsq = { drive := .blocked, enable := false, contactor := false, closeCount := 0, coast := .stopped,
                exit := .none, wait := .none, auxEn := false, lossCond := false, decayCond := false,
                periodTaken := 0#32 } ∧
      u.pru = { active := false, cls := none, firstOut := none, latched := [], record := none, warnings := [],
                view := [], permit := false, permitCount := 0, lostCond := false, stationCond := false,
                extCond := false, ext := ⟨false, none⟩, trip := false, driveView := .blocked, periodTaken := 0#32 } ∧
      (∀ k : Station, u.links.get k =
        { rx := .hunt, gap := none,
          low := (match (match k with | .c => p.rxC | .p => p.rxP | .m => p.rxM) with
            | 0 => none
            | n + 1 => some { run := { span := { start := t, length := n + 1 }, dips := [] }, error := false,
                              served := false }),
          waiting := none, reply := none, cut := none, notices := [.restarted], attention := true }) ∧
      u.rcu.ring = [] ∧ u.rcu.filling = none ∧ u.rcu.pinned = none ∧ u.rcu.mark = false ∧
      u.rcu.latest = ⟨none, none⟩ ∧ u.rcu.cursors = ⟨none, none, none⟩ ∧ u.rcu.driveView = .blocked) ∧
  ∀ (i : Instr) (t : Tick) (p : Pins) (o : Sched) (s : State) (n : Nat), p.extTrip = true →
    (i = .powerOn t p o ∧ n = 1 ∨ i = .resetLineRelease t p o ∧ n = s.rcu.counter) →
    ∃ u, exec i s = .next u ∧ u.pru.ext = ⟨true, none⟩ ∧ u.pru.extCond = true ∧ u.pru.view = [.extTrip] ∧
      u.pru.active = true ∧ u.pru.cls = some .b ∧ u.pru.firstOut = some .extTrip ∧
      u.pru.latched = [{ kind := .extTrip, cls := .b }] ∧ u.pru.record = some n ∧ u.rcu.pinned = some n ∧
      u.pru.trip = true ∧ u.dsq.drive = .tripped ∧ u.dsq.contactor = false ∧ u.dsq.enable = false ∧
      u.dsq.wait = .none ∧
      (i = .powerOn t p o ∨ (∃ j : SlotIx, s.rcu.slots.get j = none) →
        u.rcu.mark = true ∧ ∃ (j : SlotIx) (r : Record), u.rcu.filling = some j ∧ u.rcu.slots.get j = some r ∧
          r.number = n ∧ r.kind = .trip ∧ r.firstOut = some .extTrip ∧ r.entries = []) ∧
      ∀ k : Station, (u.links.get k).attention = true ∧ .restarted ∈ (u.links.get k).notices ∧
        .episode ∈ (u.links.get k).notices

/-- Tier 2. With EXT_TRIP inactive, power-on empties the record store (R179), and the reset line keeps it (R180): the
counter stays, a record that was FILLING is sealed TRUNCATED, the pinned record becomes FREE where every station of
its interest set has read it, and every other record stays as it is, in its slot. -/
def Obligations.ResetLineKeepsTheRecordStore : Prop :=
  ∀ (t : Tick) (p : Pins) (o : Sched) (s : State), p.extTrip = false →
    (∃ u, exec (.powerOn t p o) s = .next u ∧ u.rcu.counter = 1 ∧ u.rcu.age = [] ∧
      ∀ i : SlotIx, u.rcu.slots.get i = none) ∧
    ∃ u, exec (.resetLineRelease t p o) s = .next u ∧ u.rcu.counter = s.rcu.counter ∧
      (s.rcu.pinned = none → u.rcu.age = s.rcu.age) ∧
      ∀ i : SlotIx,
        (s.rcu.slots.get i = none → u.rcu.slots.get i = none) ∧
        (∀ r : Record, s.rcu.slots.get i = some r → s.rcu.pinned ≠ some r.number →
          u.rcu.slots.get i = some (if r.isSealed then r else { r with isSealed := true, truncated := true })) ∧
        (∀ r : Record, s.rcu.slots.get i = some r → s.rcu.pinned = some r.number →
          (∀ (j : SlotIx) (q : Record), s.rcu.slots.get j = some q → q.number = r.number → j = i) →
          u.rcu.slots.get i =
            (if r.interest.within r.marks then none
             else some (if r.isSealed then r else { r with isSealed := true, truncated := true })))

/-- Tier 2. A raw edge of a zero-cross input, of a pulse input or of EXT_TRIP whose line has no candidate that has
persisted starts a candidate, or drops it on a return to the qualified level, and does nothing else (R3, R34, R154). A
candidate that has persisted becomes the qualified level. A falling crossing does no more; a rising one of ZB or ZC
gives its line's last rising stamp; a rising one of ZA enters LOCKING from SEEK, restarts the settlement in LOCKING
where the period is out of range, and changes nothing in LOCKED or HOLDOVER outside an open window (R3, R5, R6, R7,
R12). -/
def Obligations.RawEdgesAndCrossingsThatDoNotLock : Prop :=
  ((∀ (l : ZLine) (b : Bool) (t : Tick) (o : Sched) (s : State),
    (∀ c, (s.msy.line l).cand = some c → since t c.stamp < 256) →
    exec (.zeroCrossRawEdge l b t o) s = .next { s with
      now := t
      msy := s.msy.putLine l
               { level := (s.msy.line l).level,
                 cand := if b = (s.msy.line l).level then none
                         else (s.msy.line l).cand.or (some { level := b, stamp := t }) } }) ∧
  (∀ (l : PulseLine) (b : Bool) (t : Tick) (o : Sched) (s : State),
    (∀ c, (s.meu.line l).cand = some c → since t c.stamp < 200) →
    exec (.pulseRawEdge l b t o) s = .next { s with
      now := t
      meu := s.meu.putLine l
               { level := (s.meu.line l).level,
                 cand := if b = (s.meu.line l).level then none
                         else (s.meu.line l).cand.or (some { level := b, stamp := t }) } }) ∧
  ∀ (b : Bool) (t : Tick) (o : Sched) (s : State),
    (∀ c, s.pru.ext.cand = some c → since t c.stamp < 2000) →
    exec (.extTripRawEdge b t o) s = .next { s with
      now := t
      pru := { s.pru with
        ext := { level := s.pru.ext.level,
                 cand := if b = s.pru.ext.level then none
                         else s.pru.ext.cand.or (some { level := b, stamp := t }) } } }) ∧
  ∀ (l : ZLine) (o : Sched) (s : State) (c : Candidate), (s.msy.line l).cand = some c →
    (c.level = false → exec (.qualifiedCrossing l o) s =
      .next { s with now := c.stamp + 256#32, msy := s.msy.putLine l ⟨false, none⟩ }) ∧
    (c.level = true → l = .zb → exec (.qualifiedCrossing l o) s =
      .next { s with now := c.stamp + 256#32, msy := { s.msy with zb := ⟨true, none⟩, lastZb := some c.stamp } }) ∧
    (c.level = true → l = .zc → exec (.qualifiedCrossing l o) s =
      .next { s with now := c.stamp + 256#32, msy := { s.msy with zc := ⟨true, none⟩, lastZc := some c.stamp } }) ∧
    (c.level = true → l = .za → s.msy.sync = .seek → exec (.qualifiedCrossing l o) s =
      .next { s with now := c.stamp + 256#32,
                     msy := { s.msy with za := ⟨true, none⟩, sync := .locking, lockStart := some c.stamp, ring := [],
                                         count := 0, prevValid := none, lockTimeout := some (c.stamp + 444444#32) } }) ∧
    (∀ c0 : Tick, c.level = true → l = .za → s.msy.sync = .locking → s.msy.lockStart = some c0 →
      ((c.stamp - c0).toNat < 151515 ∨ 222222 < (c.stamp - c0).toNat) → exec (.qualifiedCrossing l o) s =
      .next { s with now := c.stamp + 256#32,
                     msy := { s.msy with za := ⟨true, none⟩, lockStart := some c.stamp, ring := [], count := 0,
                                         prevValid := none, lockTimeout := some (c.stamp + 444444#32) } }) ∧
    (∀ w : Prediction, c.level = true → l = .za → (s.msy.sync = .locked ∨ s.msy.sync = .holdover) →
      s.msy.prediction = some w →
      (w.served = true ∨ 2 * w.half < (c.stamp - (w.pred - BitVec.ofNat 32 w.half)).toNat) →
      exec (.qualifiedCrossing l o) s =
      .next { s with now := c.stamp + 256#32, msy := { s.msy with za := ⟨true, none⟩ } })

/-- Tier 2. A crossing in LOCKING with a valid period that brings the consistent count to the settle count, with the
last ZB and ZC stamps at 120° and 240° of the period within the window half-width, enters LOCKED: P_est is the mean of
the ring, the first prediction lies one P_est after the crossing and becomes the pending reference edge, and
MAINS_SEQUENCE is clear (R6, R8, R9, R10, R11). -/
def Obligations.SettlementEntersLocked : Prop :=
  ∀ (o : Sched) (s : State) (c : Candidate) (c0 zb zc : Tick) (p : Nat) (ring : List Nat),
    s.msy.za.cand = some c → c.level = true → s.msy.sync = .locking → s.msy.lockStart = some c0 →
    p = (c.stamp - c0).toNat → 151515 ≤ p → p ≤ 222222 →
    (∀ v, s.msy.prevValid = some v → p ≤ v + v / 16 ∧ v ≤ p + v / 16) →
    s.set.settleCount ≤ s.msy.count + 1 →
    s.msy.lastZb = some zb → (zb - c0).toNat < p → s.msy.lastZc = some zc → (zc - c0).toNat < p →
    16384 ≤ (zb - c0).toNat * 49152 / p + s.set.windowHalf →
    (zb - c0).toNat * 49152 / p ≤ 16384 + s.set.windowHalf →
    32768 ≤ (zc - c0).toNat * 49152 / p + s.set.windowHalf →
    (zc - c0).toNat * 49152 / p ≤ 32768 + s.set.windowHalf →
    ring = (s.msy.ring ++ [p]).drop (s.msy.ring.length + 1 - 4) → s.msy.pendingEdge = none →
    ∃ u, exec (.qualifiedCrossing .za o) s = .next u ∧ u.now = c.stamp + 256#32 ∧ u.meu = s.meu ∧
      .mainsSequence ∉ u.pru.view ∧
      u.msy = { s.msy with
        za := ⟨true, none⟩, sync := .locked, lockStart := some c.stamp, ring := ring, pEst := ring.sum / ring.length,
        prevValid := some p, count := s.msy.count + 1, lockTimeout := none, lastAccepted := some c.stamp, gap := false,
        missCount := 0, seqCond := false,
        prediction := some { pred := c.stamp + BitVec.ofNat 32 (ring.sum / ring.length),
                             half := s.set.windowHalf * (ring.sum / ring.length) / 49152, served := false },
        pendingEdge := some (c.stamp + BitVec.ofNat 32 (ring.sum / ring.length)) }

/-- Tier 2. A reference crossing in LOCKING that does not settle. A valid period that leaves the consistent count
below the settle count joins the ring, and the count goes on (R6). A period in range but off by more than one
sixteenth of the last valid one starts the count again from this crossing (R6). With the settle count reached, ZB at
240° and ZC at 120° of the period within the window half-width are a reversed sequence: the synchroniser is in SEEK,
MAINS_SEQUENCE holds and, class S, is latched (R8, R9); a stamp missing or outside the period, or an angle near
neither, starts the count again (R8). -/
def Obligations.LockingGoesOnOrStartsAgain : Prop :=
  ∀ (o : Sched) (s : State) (c : Candidate) (c0 : Tick) (p : Nat) (again : Host.Outcome State Fault Refusal),
    s.msy.za.cand = some c → c.level = true → s.msy.sync = .locking → s.msy.lockStart = some c0 →
    p = (c.stamp - c0).toNat → 151515 ≤ p → p ≤ 222222 →
    again = .next { s with
      now := c.stamp + 256#32,
      msy := { s.msy with za := ⟨true, none⟩, lockStart := some c.stamp, lockTimeout := some (c.stamp + 444444#32),
                          ring := [], count := 0, prevValid := none } } →
    (∀ v, s.msy.prevValid = some v → v + v / 16 < p ∨ p + v / 16 < v → exec (.qualifiedCrossing .za o) s = again) ∧
    ((∀ v, s.msy.prevValid = some v → p ≤ v + v / 16 ∧ v ≤ p + v / 16) →
      (s.msy.count + 1 < s.set.settleCount → exec (.qualifiedCrossing .za o) s = .next { s with
        now := c.stamp + 256#32,
        msy := { s.msy with
          za := ⟨true, none⟩, lockStart := some c.stamp, lockTimeout := some (c.stamp + 444444#32),
          ring := (s.msy.ring ++ [p]).drop (s.msy.ring.length + 1 - 4), prevValid := some p,
          count := s.msy.count + 1 } }) ∧
      (s.set.settleCount ≤ s.msy.count + 1 →
        (∀ zb zc : Tick, s.msy.lastZb = some zb → (zb - c0).toNat < p → s.msy.lastZc = some zc → (zc - c0).toNat < p →
          16384 + s.set.windowHalf < (zb - c0).toNat * 49152 / p →
          32768 ≤ (zb - c0).toNat * 49152 / p + s.set.windowHalf →
          (zb - c0).toNat * 49152 / p ≤ 32768 + s.set.windowHalf →
          16384 ≤ (zc - c0).toNat * 49152 / p + s.set.windowHalf →
          (zc - c0).toNat * 49152 / p ≤ 16384 + s.set.windowHalf →
          ∃ u, exec (.qualifiedCrossing .za o) s = .next u ∧ u.now = c.stamp + 256#32 ∧ u.meu = s.meu ∧
            u.msy = { s.msy with
              za := ⟨true, none⟩, sync := .seek, ring := [], pEst := 200000, count := 0, missCount := 0,
              lockStart := none, prevValid := none, lockTimeout := none, prediction := none, pendingEdge := none,
              waitingEdge := none, seqCond := true } ∧
            .mainsSequence ∈ u.pru.view ∧ latchedActive .mainsSequence u.pru = true) ∧
        (s.msy.lastZb = none ∨ s.msy.lastZc = none ∨
         (∃ z, (s.msy.lastZb = some z ∨ s.msy.lastZc = some z) ∧
           (p ≤ (z - c0).toNat ∨ (z - c0).toNat * 49152 / p + s.set.windowHalf < 16384 ∨
            (16384 + s.set.windowHalf < (z - c0).toNat * 49152 / p ∧
             (z - c0).toNat * 49152 / p + s.set.windowHalf < 32768) ∨
            32768 + s.set.windowHalf < (z - c0).toNat * 49152 / p)) →
          exec (.qualifiedCrossing .za o) s = again)))

/-- Tier 2. A crossing inside the open window is accepted: its measured period joins the ring where the gap flag is
clear and it is in range, P_est is the mean of the ring, and the next prediction with its window lies one P_est after
it; in LOCKED the state stays, and from HOLDOVER, with the drive not coasting, it is LOCKED again with the miss count
0 and MAINS_SEQUENCE clear (R10, R12, R13, R15). The locking timeout leaves the synchroniser in SEEK (R5, R7). The
close of an unserved window within the holdover setting counts a miss, sets the gap flag and moves the prediction on
by one P_est, in HOLDOVER (R14). -/
def Obligations.WindowServedOrMissed : Prop :=
  (∀ (o : Sched) (s : State) (c : Candidate) (w : Prediction) (a : Tick) (p : Nat) (ring : List Nat),
    s.msy.za.cand = some c → c.level = true → s.msy.sync = .locked → s.msy.prediction = some w → w.served = false →
    (c.stamp - (w.pred - BitVec.ofNat 32 w.half)).toNat ≤ 2 * w.half →
    s.msy.lastAccepted = some a → s.msy.ring ≠ [] →
    ring = (if s.msy.gap = false ∧ 151515 ≤ (c.stamp - a).toNat ∧ (c.stamp - a).toNat ≤ 222222
            then (s.msy.ring ++ [(c.stamp - a).toNat]).drop (s.msy.ring.length + 1 - 4) else s.msy.ring) →
    p = ring.sum / ring.length →
    exec (.qualifiedCrossing .za o) s = .next { s with
      now := c.stamp + 256#32,
      msy := { s.msy with
        za := ⟨true, none⟩, ring := ring, pEst := p, lastAccepted := some c.stamp, gap := false, missCount := 0,
        seqCond := false,
        prediction := some { pred := c.stamp + BitVec.ofNat 32 p, half := s.set.windowHalf * p / 49152,
                             served := false },
        pendingEdge := (if s.msy.pendingEdge = none then some (c.stamp + BitVec.ofNat 32 p) else s.msy.pendingEdge),
        waitingEdge := (if s.msy.pendingEdge = none then s.msy.waitingEdge
                        else some (c.stamp + BitVec.ofNat 32 p)) } }) ∧
  (∀ (o : Sched) (s : State) (c : Candidate) (w : Prediction) (a : Tick) (p : Nat) (ring : List Nat),
    s.msy.za.cand = some c → c.level = true → s.msy.sync = .holdover → s.msy.prediction = some w → w.served = false →
    (c.stamp - (w.pred - BitVec.ofNat 32 w.half)).toNat ≤ 2 * w.half →
    s.msy.lastAccepted = some a → s.msy.ring ≠ [] →
    ring = (if s.msy.gap = false ∧ 151515 ≤ (c.stamp - a).toNat ∧ (c.stamp - a).toNat ≤ 222222
            then (s.msy.ring ++ [(c.stamp - a).toNat]).drop (s.msy.ring.length + 1 - 4) else s.msy.ring) →
    p = ring.sum / ring.length → s.dsq.drive ≠ .coast → s.dsq.lossCond = false →
    exec (.qualifiedCrossing .za o) s = .next { s with
      now := c.stamp + 256#32,
      msy := { s.msy with
        za := ⟨true, none⟩, sync := .locked, ring := ring, pEst := p, lastAccepted := some c.stamp, gap := false,
        missCount := 0, seqCond := false,
        prediction := some { pred := c.stamp + BitVec.ofNat 32 p, half := s.set.windowHalf * p / 49152,
                             served := false },
        pendingEdge := (if s.msy.pendingEdge = none then some (c.stamp + BitVec.ofNat 32 p) else s.msy.pendingEdge),
        waitingEdge := (if s.msy.pendingEdge = none then s.msy.waitingEdge
                        else some (c.stamp + BitVec.ofNat 32 p)) },
      pru := { s.pru with view := s.pru.view.filter (· ≠ .mainsSequence),
                          warnings := s.pru.warnings.filter (· ≠ .mainsSequence) } }) ∧
  (∀ (s : State) (t : Tick), s.msy.lockTimeout = some t →
    exec .lockingTimeout s = .next { s with now := t, msy := { s.msy with
      sync := .seek, ring := [], pEst := 200000, count := 0, missCount := 0, lockStart := none, prevValid := none,
      lockTimeout := none, prediction := none, pendingEdge := none, waitingEdge := none } }) ∧
  ∀ (o : Sched) (s : State) (w : Prediction), (s.msy.sync = .locked ∨ s.msy.sync = .holdover) →
    s.msy.prediction = some w → w.served = false → s.msy.missCount + 1 ≤ s.set.holdover →
    exec (.windowClose o) s = .next { s with
      now := w.pred + BitVec.ofNat 32 (w.half + 256),
      msy := { s.msy with
        sync := .holdover, missCount := s.msy.missCount + 1, gap := true,
        prediction := some { pred := w.pred + BitVec.ofNat 32 s.msy.pEst,
                             half := s.set.windowHalf * s.msy.pEst / 49152, served := false },
        pendingEdge := (if s.msy.pendingEdge = none then some (w.pred + BitVec.ofNat 32 s.msy.pEst)
                        else s.msy.pendingEdge),
        waitingEdge := (if s.msy.pendingEdge = none then s.msy.waitingEdge
                        else some (w.pred + BitVec.ofNat 32 s.msy.pEst)) } }

/-- Tier 2. An entry of the synchroniser into LOCKED, taken in COAST while the coast timer runs, ends the coast with
RELOCKED: RUN with rr at s where s has reached the breakaway speed, otherwise STARTING; the enable is given, and a
converter in OFF with its fault line inactive enters FIRING with the integrator preset (R128, R40, R76, R120). The
close of an unserved window that takes the misses above the holdover setting loses the sync: the synchroniser enters
SEEK without its real origins and restarts the substitute timer from the edge missed (R5, R16), both controllers enter
OFF with their gate lines released (R42, R43), and the drive leaves every driving state (R126). That SYNC_LOST as a
command is that close of the window is the model's reading (log entry 7, DEDUCED). -/
def Obligations.RelockAndSyncLoss : Prop :=
  (∀ (o : Sched) (s : State) (c : Candidate) (k : Nat),
    s.msy.za.cand = some c →
    (msyQualify s.set.settleCount s.set.windowHalf .za c s.msy).2 = [.locked] →
    s.dsq.drive = .coast → s.dsq.coast = .running k → s.dsq.enable = false →
    ∃ u, exec (.qualifiedCrossing .za o) s = .next u ∧ u.msy.sync = .locked ∧
      u.dsq = { s.dsq with drive := (if s.set.breakSpeed ≤ s.stu.s then .run else .starting), enable := true,
                           coast := .stopped, exit := .relocked, lossCond := false } ∧
      (∀ x : Side, (s.conv x).state = .off → (s.conv x).fault = false →
        u.conv x = { s.conv x with state := .firing, integ := -4194304 }) ∧
      (s.set.breakSpeed ≤ s.stu.s → u.stu = { s.stu with rr := s.stu.s, grace := true }) ∧
      (s.stu.s < s.set.breakSpeed → u.stu.grace = true ∧
        (s.stu.motors.a.thermal ≠ .hot → s.stu.motors.b.thermal ≠ .hot → u.stu.window = some 0)) ∧
      (∀ j : Station, j ≠ .m → .driveState ∈ (u.links.get j).notices)) ∧
  ∀ (o : Sched) (s : State) (w : Prediction), (s.msy.sync = .locked ∨ s.msy.sync = .holdover) →
    s.msy.prediction = some w → w.served = false → s.set.holdover < s.msy.missCount + 1 →
    exec (.windowClose o) s = exec (.syncLost o) s ∧
    ∃ u, exec (.syncLost o) s = .next u ∧ u.now = w.pred + BitVec.ofNat 32 (w.half + 256) ∧ u.meu = s.meu ∧
      u.msy = { s.msy with
        sync := .seek, ring := [], pEst := 200000, count := 0, missCount := 0, lockStart := none, prevValid := none,
        lockTimeout := none, prediction := none, pendingEdge := none, waitingEdge := none, gap := true,
        origins := s.msy.origins.filter (fun g => decide (g.kind = .substitute)), subst := some w.pred } ∧
      (∀ x : Side, u.conv x = { s.conv x with state := .off, firings := [], burst := none, gates := 0#6,
                                              retardCount := 0, faultCond := (s.conv x).faultCond && (s.conv x).fault }) ∧
      u.dsq.drive = (match s.dsq.drive with
        | .starting | .run => .coast
        | .closing | .stopping => .blocked
        | .tripStop => .tripped
        | .blocked => .blocked
        | .coast => .coast
        | .tripped => .tripped
        | .aux => .aux) ∧
      (s.dsq.drive = .starting ∨ s.dsq.drive = .run → u.dsq.coast = .running 0 ∧ u.dsq.enable = false) ∧
      (s.dsq.drive = .stopping ∨ s.dsq.drive = .tripStop → s.dsq.contactor = true → s.dsq.wait = .none →
        u.dsq.enable = false ∧ u.dsq.contactor = true ∧ u.dsq.wait = .zeroWait 0)

/-- Tier 2. A reference edge or a substitute period event that is due gives the next period number, moves the pending
edge or the substitute timer as R11 and R19 state, and every block has then taken that period event (R2), whatever the
order of the takings; the history ring's last entry carries its number (R159). A reference edge at pred brings one
REAL origin of each thyristor Tn, at pred plus ((offset + (n − 1) × 8192) mod 49152) × P_est / 49152 ticks, with the
edge's period number and P_est, and drops the pending substitute origins; the other pending origins stay (R17, R11). A
substitute period event at t adds six SUBSTITUTE origins, at t plus 0, 33333, 66666, 100000, 133333 and 166666 ticks
with the length 200000 and the event's period number, to those pending (R19). The blocks' work is that of
`runTakings`, in the order of the command; these two parts are for an order in which no receiver takes an origin
within the period event. The transmit line of a link rests from then on where a cut reply has ended, and a low line is
held only while it bears on what the link receives, as the stretch that it is in then, or was in last (`stretchAt`,
which ReceptionAndBreak gives), counted from there while its break is served and it is low (R191, R197; how the lines
are held is log entries 16 and 18). That a block takes each period event once rests on the model's periodTaken (log
entry 11). The offset and the P_est of a reference edge's origins are those in force as the edge is issued (R11, R17): at
the REFERENCE_EDGE, or, where a command has a block take that period event ahead of it, before the first such taking. The
model notes them then (`issued`, log entry 7), and the REFERENCE_EDGE uses and ends the note. -/
def Obligations.PeriodEventAndItsOrigins : Prop :=
  (∀ (i : Instr) (o : Sched) (s : State) (e : Tick),
    (i = .referenceEdge o ∧ (s.msy.sync = .locked ∨ s.msy.sync = .holdover) ∧ s.msy.pendingEdge = some e) ∨
    (i = .substitutePeriodEvent o ∧ s.msy.subst = some (e - 200000#32)) →
    ∃ u, exec i s = .next u ∧ u.now = e ∧ u.msy.period = s.msy.period + 1#32 ∧
      (∀ b : Block, u.takenBy b = s.msy.period + 1#32) ∧
      (i = .referenceEdge o → u.msy.subst = none ∧ u.msy.pendingEdge = s.msy.waitingEdge ∧ u.msy.waitingEdge = none) ∧
      (i = .substitutePeriodEvent o → u.msy.subst = some e ∧ u.msy.pendingEdge = s.msy.pendingEdge) ∧
      (∀ k : Station, (u.links.get k).reply = (s.links.get k).reply ∧
        (u.links.get k).cut = (s.links.get k).cut.filter
          (fun r => decide ((e - r.started).toNat < r.frame.length * byteTicks s.rate)) ∧
        ((s.links.get k).low = none → (u.links.get k).low = none) ∧
        (∀ (w x : LowLine) (rest : Nat), (s.links.get k).low = some w → x = stretchAt e w →
          rest = (w.run.dips.map (fun d => d.high + d.low)).sum + byteTicks s.rate + byteTicks s.rate / 10 →
          (w.run.span.length + rest ≤ (e - w.run.span.start).toNat → (u.links.get k).low = none) ∧
          ((e - w.run.span.start).toNat < w.run.span.length + rest →
            (x.served = true → (e - x.run.span.start).toNat < x.run.span.length →
              (u.links.get k).low = some { x with run := { x.run with
                span := { start := e, length := x.run.span.length - (e - x.run.span.start).toNat } } }) ∧
            (x.served = false ∨ x.run.span.length ≤ (e - x.run.span.start).toNat →
              (u.links.get k).low = some x)))) ∧
      (s.rcu.periodTaken ≠ s.msy.period + 1#32 →
        (u.rcu.ring.getLast?).map Entry.period = some (s.msy.period + 1#32) ∧ u.rcu.ring.length ≤ 256)) ∧
  (∀ (o : Sched) (s : State) (e : Tick), s.msy.subst = some (e - 200000#32) → namesOrigin o = false →
    ∃ u, exec (.substitutePeriodEvent o) s = .next u ∧
      u = (runTakings o (s.msy.period + 1#32) e none (periodTakings o)
            { state := { s with now := e, msy := u.msy, links := linksAt s.rate e s.links, issued := none },
              mail := [] }).state ∧
      u.msy.origins.Perm (s.msy.origins ++
        [(Thy.t1, 0#32), (.t2, 33333#32), (.t3, 66666#32), (.t4, 100000#32), (.t5, 133333#32), (.t6, 166666#32)].map
          (fun y => { stamp := e + y.2, thy := y.1, period := s.msy.period + 1#32, kind := .substitute,
                      length := 200000 }))) ∧
  (∀ (o : Sched) (s : State) (e : Tick) (offset pEst : Nat), (s.msy.sync = .locked ∨ s.msy.sync = .holdover) →
    s.msy.pendingEdge = some e → namesOrigin o = false →
    ((∀ x, s.issued = some x → x.period ≠ s.msy.period + 1#32 ∨ x.pred ≠ e) →
      offset = s.set.originOffset ∧ pEst = s.msy.pEst) →
    (∀ x, s.issued = some x → x.period = s.msy.period + 1#32 → x.pred = e → offset = x.offset ∧ pEst = x.pEst) →
    ∃ u, exec (.referenceEdge o) s = .next u ∧ u.issued = none ∧
      u = (runTakings o (s.msy.period + 1#32) e none (periodTakings o)
            { state := { s with now := e, msy := u.msy, links := linksAt s.rate e s.links, issued := none },
              mail := [] }).state ∧
      u.msy.origins.Perm (s.msy.origins.filter (fun g => decide (g.kind = .real)) ++
        [(Thy.t1, 0), (.t2, 1), (.t3, 2), (.t4, 3), (.t5, 4), (.t6, 5)].map (fun y =>
          { stamp := e + BitVec.ofNat 32 (((offset + y.2 * 8192) % 49152) * pEst / 49152),
            thy := y.1, period := s.msy.period + 1#32, kind := .real, length := pEst }))) ∧
  ∀ (b : Block) (o : Sched) (due : Period → Tick → Bool) (s : State) (t : Tick), nextPeriodEvent s.msy = some t →
    s.takenBy b ≠ s.msy.period + 1#32 → due (s.msy.period + 1#32) t = true →
    ((s.msy.sync = .locked ∨ s.msy.sync = .holdover) → s.msy.pendingEdge = some t →
      ((∀ x, s.issued = some x → x.period ≠ s.msy.period + 1#32 ∨ x.pred ≠ t) → (takeAhead b o due s).issued =
        some { period := s.msy.period + 1#32, pred := t, offset := s.set.originOffset, pEst := s.msy.pEst }) ∧
      (∀ x, s.issued = some x → x.period = s.msy.period + 1#32 → x.pred = t →
        (takeAhead b o due s).issued = s.issued)) ∧
    (s.msy.pendingEdge ≠ some t → (takeAhead b o due s).issued = s.issued) ∧ (takeAhead b o due s).msy = s.msy

/-- Tier 2. The speed and torque unit's taking of a period event, beyond the bounds of its torque: the mean speed
(R70), the overspeed condition (R72), the converter-loss condition with the single-drive setting (R90), the grace flag
(R89), and the trim, which is frozen while a side was lowered, a converter is not FIRING or the demand is below 1638,
and otherwise moves against the sharing error within its limit (R88). OVERSPEED, of a class other than W, and
CONVERTER_LOST are latched when their condition sets, unless their report waits for its place in the order of the
takings. THERMAL_HOT_x joins the view and the warning set, with WARNING to C and P, when its motor enters HOT, unless
its report waits, and leaves both when the motor leaves HOT, where no apply of Qmax or Qwarn falls in between (R84,
R142, R143). Also where one does, at a stop that a report of the same work brings about, the view holds THERMAL_HOT_x
exactly while its motor is HOT, and the set holds it only then, by the model's reading of a late report (log entry 23,
DEDUCED). What the unit publishes is what the record unit's next entry carries: s, rr, Td, Tenv, b and the two
accounts as Q × 255 / Qmax (R67, R159), the latter two by the model's reading of log entry 20. -/
def Obligations.SpeedChecksLossAndTrim : Prop :=
  (∀ (z : SetTable) (v : StuView) (u w : Stu) (ta tb : Nat), w = stuWork z v u →
    ta = v.means.a * z.kt / 16384 → tb = v.means.b * z.kt / 16384 →
    w.s = (if w.motors.a.excluded then w.motors.b.speed else if w.motors.b.excluded then w.motors.a.speed
           else (w.motors.a.speed + w.motors.b.speed) / 2) ∧
    w.overspeedCond = decide (z.overspeed < w.s) ∧ w.grace = false ∧
    w.trim = (if w.splitLimited = true ∨ v.convs.a ≠ .firing ∨ v.convs.b ≠ .firing ∨ w.td < 1638 then u.trim
      else max (-(z.trimLimit : Int)) (min (z.trimLimit : Int)
        (u.trim - Int.tdiv (((ta : Int) - ((ta + tb) * z.share / 256 : Nat)) * (z.trimGain : Int)) 256))) ∧
    (v.drive = .starting ∨ v.drive = .run →
      w.lostCond = (if u.grace then u.lostCond else if z.singleDrive
        then decide (v.convs.a = .off) && decide (v.convs.b = .off)
        else decide (v.convs.a = .off) || decide (v.convs.b = .off))) ∧
    (v.drive ≠ .starting → v.drive ≠ .run → w.lostCond = false) ∧
    w.pub = { rr := w.rr, td := w.td, tenv := w.tenv, trim := w.trim,
              coarseA := Int.tdiv (w.motors.a.q * 255) z.qmax, coarseB := Int.tdiv (w.motors.b.q * 255) z.qmax }) ∧
  (∀ (o : Sched) (n : Period) (t : Tick) (later : List Taking) (f : Flow) (s u : State) (w : Stu),
    s = f.state → settingsRight s.set = true → s.stu.periodTaken ≠ n → w = stuWork s.set (s.stuView n t) s.stu →
    u = (takePeriod o n t .stu later f).state →
    u.stu.periodTaken = n ∧ u.stu.s = w.s ∧ u.stu.pub = w.pub ∧
    (w.overspeedCond = true → s.stu.overspeedCond = false → s.set.classInForce .overspeed ≠ .w →
      Taking.report .overspeed ∉ later → .overspeed ∈ u.pru.view ∧ latchedActive .overspeed u.pru = true) ∧
    (w.lostCond = true → s.stu.lostCond = false → Taking.report .converterLost ∉ later →
      .converterLost ∈ u.pru.view ∧ latchedActive .converterLost u.pru = true) ∧
    (w.lostCond = false → s.stu.lostCond = true → .converterLost ∉ u.pru.view) ∧
    (s.set.staged[57]? = some none → s.set.staged[58]? = some none → ∀ x : Side,
      ((w.motors.get x).hotCond = true → (s.stu.motors.get x).hotCond = false →
        .thermalHot x ∈ u.pru.view ∧
        (Taking.report (.thermalHot x) ∉ later → .thermalHot x ∈ u.pru.warnings ∧
          (.thermalHot x ∉ s.pru.warnings → .warning ∈ u.links.c.notices ∧ .warning ∈ u.links.p.notices))) ∧
      ((w.motors.get x).hotCond = false → (s.stu.motors.get x).hotCond = true →
        .thermalHot x ∉ u.pru.view ∧ .thermalHot x ∉ u.pru.warnings)) ∧
    (∀ x : Side, (.thermalHot x ∈ s.pru.view ↔ (s.stu.motors.get x).hotCond = true) →
      (.thermalHot x ∈ s.pru.warnings → .thermalHot x ∈ s.pru.view) →
      (.thermalHot x ∈ u.pru.view ↔ (u.stu.motors.get x).hotCond = true) ∧
      (.thermalHot x ∈ u.pru.warnings → .thermalHot x ∈ u.pru.view))) ∧
  ∀ (o : Sched) (n : Period) (t : Tick) (later : List Taking) (f : Flow) (s : State),
    s = f.state → s.rcu.periodTaken ≠ n →
    ∃ e, (takePeriod o n t .rcu later f).state.rcu.ring.getLast? = some e ∧ e.period = n ∧ e.s = s.stu.s ∧
      e.rr = s.stu.pub.rr ∧ e.td = s.stu.pub.td ∧ e.tenv = s.stu.pub.tenv ∧ e.trim = s.stu.pub.trim ∧
      e.coarseA = s.stu.pub.coarseA ∧ e.coarseB = s.stu.pub.coarseB ∧ e.drive = s.dsq.drive ∧ e.sync = s.msy.sync ∧
      e.irefA = s.stu.motors.a.iref ∧ e.irefB = s.stu.motors.b.iref ∧ e.meanA = s.meu.sides.a.mean ∧
      e.meanB = s.meu.sides.b.mean ∧ e.level = s.vwa.level

/-- Tier 2. The sequencer's and the measurement unit's takings of a period event (R27, R123, R125). STARTING with the
mean speed at or above the breakaway speed enters RUN, and the breakaway window closes; below it nothing but the count
of period events moves. STOPPING and TRIP_STOP with the mean speed at or below the stop speed enter BLOCKED and
TRIPPED with the enable withdrawn, a converter in FIRING in RETARD, and CONTACTOR asserted through a release wait;
above it they go on; in these three states the sequencer sends neither report nor demand that waits.
CURRENT_NOT_DECAYING is clear once both currents are low (R137). The period means are the accumulated sums over their
counts, or stand where nothing was accumulated. Each block takes a period event once (log entry 11). -/
def Obligations.DriveStatesMoveAtThePeriodEvent : Prop :=
  (∀ (o : Sched) (n : Period) (t : Tick) (later : List Taking) (f : Flow) (s : State) (d : Dsq),
    s = f.state → s.dsq.periodTaken ≠ n → s.dsq.wait = .none →
    d = { s.dsq with
      periodTaken := n,
      decayCond := s.dsq.decayCond && !(decide (s.meu.sides.a.mean ≤ s.set.zeroThreshold) &&
                                        decide (s.meu.sides.b.mean ≤ s.set.zeroThreshold)) } →
    ∃ u, (takePeriod o n t .dsq later f).state = u ∧
      (s.dsq.drive = .starting ∨ s.dsq.drive = .stopping ∨ s.dsq.drive = .tripStop →
        (takePeriod o n t .dsq later f).mail = f.mail) ∧
      (s.dsq.drive = .starting → s.set.breakSpeed ≤ s.stu.s → s.dsq.enable = true →
        u.dsq = { d with drive := .run, coast := .stopped } ∧ u.stu.window = none ∧ u.stu.rr = s.stu.rr ∧
        u.pru.driveView = .run ∧ u.rcu.driveView = .run ∧ u.set.driveView = .run ∧ u.cca = s.cca ∧ u.ccb = s.ccb ∧
        .driveState ∈ u.links.c.notices ∧ .driveState ∈ u.links.p.notices) ∧
      ((s.dsq.drive = .starting ∧ s.stu.s < s.set.breakSpeed) ∨
       ((s.dsq.drive = .stopping ∨ s.dsq.drive = .tripStop) ∧ s.set.stopSpeed < s.stu.s) →
        u.dsq = d ∧ { u with dsq := s.dsq, pru := s.pru } = s) ∧
      ((s.dsq.drive = .stopping ∨ s.dsq.drive = .tripStop) → s.stu.s ≤ s.set.stopSpeed → s.dsq.contactor = true →
        s.dsq.enable = true →
        u.dsq = { d with drive := (if s.dsq.drive = .stopping then .blocked else .tripped), enable := false,
                         coast := .stopped, wait := .zeroWait 0 } ∧
        (∀ x : Side, (s.conv x).state = .firing → (u.conv x).state = .retard ∧ (u.conv x).retardCount = 0) ∧
        u.stu.rr = 0 ∧ u.stu.td = 0 ∧ u.stu.motors.a.iref = 0 ∧ u.stu.motors.b.iref = 0 ∧
        .driveState ∈ u.links.c.notices ∧ .driveState ∈ u.links.p.notices)) ∧
  ∀ (o : Sched) (n : Period) (t : Tick) (later : List Taking) (f : Flow) (x : Side) (d : MeuSide),
    f.state.meu.periodTaken ≠ n → d = f.state.meu.sides.get x →
    ((takePeriod o n t .meu later f).state.meu.sides.get x) =
      { d with mean := (if d.accCount = 0 then d.mean else d.accSum / d.accCount), accSum := 0, accCount := 0 } ∧
    { (takePeriod o n t .meu later f).state with meu := f.state.meu } = f.state

/-- Tier 2. The speeds published at the end of the speed and torque unit's period work move the channels (R95, R96). A
channel in PAUSED whose reference speed is at or above the watch minimum leaves it for LEARNING, or for NORMAL with
2^w revolutions completed, in WAIT with a deadline from the instant. A channel in an evaluating state or UNREFERENCED
below the minimum is PAUSED: accumulators, counters, deadline and contribution are cleared, its table, figures, counts
and Trev_est stay, and VIB_DANGER_n ends. A channel in PAUSED that stays below the minimum, one in SENSOR_FAULT, and
one in an evaluating state or UNREFERENCED at or above the minimum keep every field, but that contribution,
VIB_DANGER_n's and VIB_SENSOR_n's condition are taken again with the values that state, held state and action give
(R107 to R110). Of a channel that left PAUSED ahead of the watch's own taking of that period event the watch notes the
profile then staged, of any other none: a note of the model's own (`woken`, log entry 25). -/
def Obligations.PublishedSpeedsMoveTheChannels : Prop :=
  ∀ (o : Sched) (n : Period) (t : Tick) (later : List Taking) (f : Flow) (s u : State) (w : Stu) (i : Chan)
    (c : VChan) (p : Profile) (speed : Nat),
    s = f.state → settingsRight s.set = true → s.stu.periodTaken ≠ n → w = stuWork s.set (s.stuView n t) s.stu →
    u = (takePeriod o n t .stu later f).state → c = s.vwa.chans.get i → p = s.set.profile i →
    speed = (match p.marker with | .ka => w.motors.a.speed | .kb => w.motors.b.speed | .ks => w.s) →
    (c.state = .paused → s.set.watchMin ≤ speed →
      u.vwa.chans.get i = { c with
        state := (if c.completed < 2 ^ p.w then .learning else .normal), phase := .wait, contribution := 0,
        deadline := some (match c.trev with
          | none => s.now + 1200000000#32
          | some r => s.now + BitVec.ofNat 32 (2 * r)),
        dangerCond := false, sensorCond := false } ∧
      .channel ∈ u.links.m.notices) ∧
    (c.state ≠ .paused → c.state ≠ .sensorFault → speed < s.set.watchMin →
      u.vwa.chans.get i = { c with
        state := .paused, held := none, acc := revAccClear, phase := .wait, deadline := none, alert := 0, danger := 0,
        release := 0, contribution := 0, dangerCond := false, sensorCond := false } ∧
      .channel ∈ u.links.m.notices ∧ (c.dangerCond = true → .vibDanger i ∉ u.pru.view)) ∧
    ((c.state = .paused ∧ speed < s.set.watchMin) ∨ c.state = .sensorFault ∨
     (c.state ≠ .paused ∧ s.set.watchMin ≤ speed) →
      u.vwa.chans.get i = { c with
        contribution := (match c.state with
          | .paused | .learning | .normal => 0
          | .alert => (s.set.action i).alertLevel
          | .danger => 3
          | .unreferenced => (match c.held with | none => 0 | some h => h.contribution)
          | .sensorFault => (s.set.action i).faultLevel),
        dangerCond := (s.set.action i).dangerTrip && inDanger c,
        sensorCond := decide (c.state = .sensorFault) }) ∧
    u.vwa.woken.get i =
      (if c.state = .paused ∧ s.set.watchMin ≤ speed ∧ s.vwa.periodTaken ≠ n then stagedProfile i s.set else none)

/-- Tier 2. SPEED REF stores the value as received and reloads the hold timer, clears REFERENCE_HOLD where it held,
and answers CLAMPED above the speed maximum, else OK (R73). HOLD_EXPIRED: at the speed and torque unit's taking of the
coming period event in STARTING or RUN with the hold timer at its last count, the timer is EXPIRED, REFERENCE_HOLD
holds and is a warning, and station C is noticed (R74, R142). SPEED_SENSOR_EXCLUDED: at the fiftieth period event in a
row at which a pinion's estimate is 0 and the other pinion's is 2048 or more, the pinion is excluded, its counter is
0, its warning is reported, and the mean speed is the other pinion's (R69, R70). The last two commands are the block's
taking of the coming period event (the model's reading, log entries 7 and 11). -/
def Obligations.ReferenceHoldAndSilentPinion : Prop :=
  ((∀ (o : Sched) (s : State) (t : Tick), nextPeriodEvent s.msy = some t →
    s.stu.periodTaken ≠ s.msy.period + 1#32 → (s.dsq.drive = .starting ∨ s.dsq.drive = .run) →
    s.stu.hold = .running 1 → s.stu.holdCond = false →
    ∃ u, exec (.holdExpired o) s = .next u ∧ u.now = t ∧ u.stu.periodTaken = s.msy.period + 1#32 ∧
      u.stu.hold = .expired ∧ u.stu.holdCond = true ∧ u.stu.stationRef = s.stu.stationRef ∧
      .referenceHold ∈ u.pru.view ∧ .referenceHold ∈ u.pru.warnings ∧
      .holdExpired ∈ u.links.c.notices ∧ u.links.c.attention = true ∧ u.msy = s.msy ∧ u.meu = s.meu) ∧
  ∀ (x : Side) (o : Sched) (s : State) (t : Tick), nextPeriodEvent s.msy = some t →
    s.stu.periodTaken ≠ s.msy.period + 1#32 → s.stu.motors.a.excluded = false → s.stu.motors.b.excluded = false →
    speedEstimate s.set t (s.meu.teeth.get x) = 0 →
    2048 ≤ speedEstimate s.set t (s.meu.teeth.get (otherSide x)) →
    (s.stu.motors.get x).exclCount = 49 → (s.stu.motors.get x).sensorCond = false →
    ∃ u, exec (.speedSensorExcluded x o) s = .next u ∧ u.now = t ∧ (u.stu.motors.get x).excluded = true ∧
      (u.stu.motors.get x).exclCount = 0 ∧ (u.stu.motors.get x).sensorCond = true ∧ (u.stu.motors.get x).speed = 0 ∧
      (u.stu.motors.get (otherSide x)).excluded = false ∧
      u.stu.s = speedEstimate s.set t (s.meu.teeth.get (otherSide x)) ∧
      .speedSensor x ∈ u.pru.view ∧ .speedSensor x ∈ u.pru.warnings ∧ u.msy = s.msy ∧ u.meu = s.meu) ∧
  ∀ (g : Byte) (v : BitVec 16) (t : Tick) (o : Sched) (s : State), s.links.c.reply = none →
    (s.stu.holdCond = false → exec (.speedRef .c g v t o) s = .next (startReply .c
      [0x10#8, g, if s.set.speedMax < v.toNat then 0x01#8 else 0x00#8]
      { s with now := t, stu := { s.stu with stationRef := some v.toNat, hold := .running s.set.holdTime } })) ∧
    (s.stu.holdCond = true → exec (.speedRef .c g v t o) s = .next (startReply .c
      [0x10#8, g, if s.set.speedMax < v.toNat then 0x01#8 else 0x00#8]
      { s with
        now := t,
        stu := { s.stu with stationRef := some v.toNat, hold := .running s.set.holdTime, holdCond := false },
        pru := { s.pru with view := s.pru.view.filter (· ≠ .referenceHold),
                            warnings := s.pru.warnings.filter (· ≠ .referenceHold) } }))

/-- Tier 2. PINION_MISMATCH: at the period event that brings the count of period events with the pinions further apart
than the tolerance to its setting, the condition holds and the cause, of a class other than W, is latched (R71, R144,
R145). BREAKAWAY_FAILED: at the one that brings the breakaway window's count to the breakaway time with the mean speed
below the breakaway speed, the window is CLOSED and the cause, class S, is latched; its condition is clear again
(R81). STALL: at the one that brings the count of period events in RUN with the demand at the envelope and the mean
speed below the stall speed to its setting, the condition holds, and the cause is latched with class S or enters the
warning set with class W (R92, R141, R142). Each command is the block's taking of the coming period event (the model's
reading, log entries 7 and 11). -/
def Obligations.CausesOfTheSpeedAndTorqueUnit : Prop :=
  (∀ (o : Sched) (s : State) (t : Tick) (sa sb : Nat), settingsRight s.set = true →
    nextPeriodEvent s.msy = some t → s.stu.periodTaken ≠ s.msy.period + 1#32 →
    s.stu.motors.a.excluded = false → s.stu.motors.b.excluded = false →
    sa = speedEstimate s.set t s.meu.teeth.a → sb = speedEstimate s.set t s.meu.teeth.b → 0 < sa → 0 < sb →
    (sa + s.set.mismatchTol < sb ∨ sb + s.set.mismatchTol < sa) → 2048 ≤ (sa + sb) / 2 →
    s.set.mismatchCount ≤ s.stu.mismatch + 1 → s.stu.mismatchCond = false →
    ∃ u, exec (.pinionMismatch o) s = .next u ∧ u.now = t ∧ u.stu.motors.a.speed = sa ∧ u.stu.motors.b.speed = sb ∧
      u.stu.s = (sa + sb) / 2 ∧ u.stu.mismatch = s.set.mismatchCount ∧ u.stu.mismatchCond = true ∧
      .pinionMismatch ∈ u.pru.view ∧ latchedActive .pinionMismatch u.pru = true ∧ u.msy = s.msy ∧ u.meu = s.meu) ∧
  (∀ (o : Sched) (s : State) (t : Tick) (c sa sb : Nat), nextPeriodEvent s.msy = some t →
    s.stu.periodTaken ≠ s.msy.period + 1#32 → s.stu.motors.a.excluded = false → s.stu.motors.b.excluded = false →
    s.stu.motors.a.exclCount < 49 → s.stu.motors.b.exclCount < 49 →
    sa = speedEstimate s.set t s.meu.teeth.a → sb = speedEstimate s.set t s.meu.teeth.b →
    s.stu.window = some c → (sa + sb) / 2 < s.set.breakSpeed → s.set.breakTime ≤ c + 1 →
    ∃ u, exec (.breakawayFailed o) s = .next u ∧ u.now = t ∧ u.stu.s = (sa + sb) / 2 ∧ u.stu.window = none ∧
      latchedActive .breakawayFailed u.pru = true ∧ .breakawayFailed ∉ u.pru.view ∧ u.msy = s.msy ∧ u.meu = s.meu) ∧
  ∀ (o : Sched) (s : State) (t : Tick) (w : Stu), settingsRight s.set = true → nextPeriodEvent s.msy = some t →
    s.stu.periodTaken ≠ s.msy.period + 1#32 → s.dsq.drive = .run →
    w = stuTorque s.set (s.stuView (s.msy.period + 1#32) t)
          (stuChecks s.set (s.stuView (s.msy.period + 1#32) t) s.stu) →
    w.td = w.tenv → w.s < s.set.stallSpeed → s.set.stallCount ≤ s.stu.stall + 1 → s.stu.stallCond = false →
    ∃ u, exec (.stall o) s = .next u ∧ u.now = t ∧ u.stu.stall = s.set.stallCount ∧ u.stu.stallCond = true ∧
      .stall ∈ u.pru.view ∧ (s.set.classInForce .stall = .s → latchedActive .stall u.pru = true) ∧
      (s.set.classInForce .stall = .w → .stall ∈ u.pru.warnings) ∧ u.msy = s.msy ∧ u.meu = s.meu

/-- Tier 2. The sequencer's timers at a period event. CLOSE_DELAY_END enters STARTING and gives the enable; a
converter in OFF with its fault line inactive enters FIRING in LOCKED or HOLDOVER and stays OFF otherwise; the breakaway
window opens unless a motor is HOT (R40, R80, R122). COAST_TIMEOUT in COAST with no episode ACTIVE reports MAINS_LOSS,
class S, which opens the episode and takes the drive to TRIPPED with the exit reason TIMEOUT and CONTACTOR asserted
through a release wait (R127, R128, R129, R135). CONTACTOR_RELEASE ends a release wait (both period-mean currents at or
below the zero threshold; from ZERO_WAIT with both converters OFF and a release delay of 0, from DELAY with the delay
reached) and releases CONTACTOR; CURRENT_NOT_DECAYING is then clear, and nothing else changes (R135, R136, R137). The
period events that do not end the wait: in ZERO_WAIT the decay count is 0 while a converter is not OFF, DELAY follows
with its count 0 once both are OFF and both currents low, and otherwise the decay count goes on, up to its setting while
the cause stays reported; DELAY goes back to ZERO_WAIT with the decay count it had while a current is above the
threshold, and otherwise counts on. In COAST the coast timer goes on below its setting, and nothing follows once it is
EXPIRED (R127). CURRENT_NOT_DECAYING, the decay count at its setting, both converters OFF with a current above the
threshold, reports the class B cause. With no episode ACTIVE it opens one, asserts TRIP and releases CONTACTOR at once
(R130, R137, R144, R147). In one of class F or S it is latched beside the causes that stand, goes to a FILLING record as
a subsequent cause, and raises the class to B, with EPISODE to all stations and a new demand, which ends the wait and
releases CONTACTOR (R145, R146). Each command is the block's taking of the coming period event (the model's reading, log
entries 7 and 11). -/
def Obligations.SequencerTimersRunOut : Prop :=
  (∀ (o : Sched) (s : State) (t : Tick), nextPeriodEvent s.msy = some t →
    s.dsq.periodTaken ≠ s.msy.period + 1#32 → s.dsq.drive = .closing → s.dsq.enable = false → s.dsq.wait = .none →
    s.set.closeDelay ≤ s.dsq.closeCount + 1 →
    ∃ u, exec (.closeDelayEnd o) s = .next u ∧ u.now = t ∧ u.dsq.drive = .starting ∧ u.dsq.enable = true ∧
      u.dsq.contactor = s.dsq.contactor ∧ u.dsq.closeCount = s.dsq.closeCount + 1 ∧ u.dsq.coast = .stopped ∧
      (∀ x : Side, (s.conv x).state = .off → u.conv x =
        (if (s.conv x).fault = false ∧ (s.msy.sync = .locked ∨ s.msy.sync = .holdover)
         then { s.conv x with state := .firing, integ := -4194304 } else s.conv x)) ∧
      (s.stu.motors.a.thermal ≠ .hot → s.stu.motors.b.thermal ≠ .hot → u.stu.window = some 0) ∧
      (s.stu.motors.a.thermal = .hot ∨ s.stu.motors.b.thermal = .hot → u.stu.window = s.stu.window) ∧
      u.stu.grace = true ∧ u.pru.driveView = .starting ∧ u.rcu.driveView = .starting ∧ u.set.driveView = .starting ∧
      u.msy = s.msy ∧ u.meu = s.meu) ∧
  (∀ (o : Sched) (s : State) (t : Tick) (k : Nat), nextPeriodEvent s.msy = some t →
    s.dsq.periodTaken ≠ s.msy.period + 1#32 → s.dsq.drive = .coast → s.dsq.coast = .running k →
    s.set.coastTime ≤ k + 1 → s.dsq.lossCond = false → s.dsq.wait = .none → s.dsq.contactor = true →
    s.pru.active = false →
    ∃ u, exec (.coastTimeout o) s = .next u ∧ u.now = t ∧ u.dsq.drive = .tripped ∧ u.dsq.exit = .timeout ∧
      u.dsq.coast = .stopped ∧ u.dsq.lossCond = true ∧ u.dsq.contactor = true ∧ u.dsq.wait = .zeroWait 0 ∧
      u.pru.active = true ∧ u.pru.cls = some .s ∧ u.pru.firstOut = some .mainsLoss ∧
      u.pru.latched = [{ kind := .mainsLoss, cls := .s }] ∧ u.pru.trip = false ∧ .mainsLoss ∈ u.pru.view ∧
      u.msy = s.msy ∧ u.meu = s.meu) ∧
  (∀ (o : Sched) (s : State) (t : Tick) (k : Nat), nextPeriodEvent s.msy = some t →
    s.dsq.periodTaken ≠ s.msy.period + 1#32 → (s.dsq.drive = .blocked ∨ s.dsq.drive = .tripped) →
    s.dsq.contactor = true → s.meu.sides.a.mean ≤ s.set.zeroThreshold → s.meu.sides.b.mean ≤ s.set.zeroThreshold →
    ((s.dsq.wait = .zeroWait k ∧ s.cca.state = .off ∧ s.ccb.state = .off ∧ s.set.releaseDelay = 0) ∨
     (∃ c, s.dsq.wait = .delay c k ∧ s.set.releaseDelay ≤ c + 1)) →
    ∃ u, exec (.contactorRelease o) s = .next u ∧
      u.dsq = { s.dsq with contactor := false, wait := .none, decayCond := false,
                           periodTaken := s.msy.period + 1#32 } ∧
      { u with dsq := s.dsq, pru := s.pru } = { s with now := t, issued := s.edgeNoted t }) ∧
  (∀ (o : Sched) (n : Period) (t : Tick) (later : List Taking) (f : Flow) (s u : State) (d : Dsq) (off low : Bool),
    s = f.state → s.dsq.periodTaken ≠ n → u = (takePeriod o n t .dsq later f).state →
    off = (decide (s.cca.state = .off) && decide (s.ccb.state = .off)) →
    low = (decide (s.meu.sides.a.mean ≤ s.set.zeroThreshold) && decide (s.meu.sides.b.mean ≤ s.set.zeroThreshold)) →
    d = { s.dsq with periodTaken := n, decayCond := s.dsq.decayCond && !low } →
    (∀ w : ReleaseWait, (s.dsq.drive = .blocked ∨ s.dsq.drive = .tripped) →
      ((∃ k, s.dsq.wait = .zeroWait k ∧ off = false ∧ w = .zeroWait 0) ∨
       (∃ k, s.dsq.wait = .zeroWait k ∧ off = true ∧ low = true ∧ 0 < s.set.releaseDelay ∧ w = .delay 0 k) ∨
       (∃ k, s.dsq.wait = .zeroWait k ∧ off = true ∧ low = false ∧ k + 1 < s.set.decayTime ∧ w = .zeroWait (k + 1)) ∨
       (∃ k, s.dsq.wait = .zeroWait k ∧ off = true ∧ low = false ∧ s.set.decayTime ≤ k + 1 ∧
         s.dsq.decayCond = true ∧ w = .zeroWait s.set.decayTime) ∨
       (∃ c k, s.dsq.wait = .delay c k ∧ low = false ∧ w = .zeroWait k) ∨
       (∃ c k, s.dsq.wait = .delay c k ∧ low = true ∧ c + 1 < s.set.releaseDelay ∧ w = .delay (c + 1) k)) →
      u.dsq = { d with wait := w } ∧ { u with dsq := s.dsq, pru := s.pru } = s ∧
      (s.dsq.decayCond = true → low = true → .currentNotDecaying ∉ u.pru.view) ∧
      (s.dsq.decayCond = false ∨ low = false → u.pru = s.pru) ∧ (takePeriod o n t .dsq later f).mail = f.mail) ∧
    (s.dsq.drive = .coast → s.dsq.wait = .none →
      (∀ k : Nat, s.dsq.coast = .running k → k + 1 < s.set.coastTime → u.dsq = { d with coast := .running (k + 1) } ∧
        { u with dsq := s.dsq, pru := s.pru } = s) ∧
      (s.dsq.coast = .expired → u.dsq = d ∧ { u with dsq := s.dsq, pru := s.pru } = s))) ∧
  ∀ (o : Sched) (s : State) (t : Tick) (k : Nat), nextPeriodEvent s.msy = some t →
    s.dsq.periodTaken ≠ s.msy.period + 1#32 → (s.dsq.drive = .blocked ∨ s.dsq.drive = .tripped) →
    s.dsq.wait = .zeroWait k → s.cca.state = .off → s.ccb.state = .off →
    (s.set.zeroThreshold < s.meu.sides.a.mean ∨ s.set.zeroThreshold < s.meu.sides.b.mean) →
    s.set.decayTime ≤ k + 1 → s.dsq.decayCond = false →
    (s.pru.active = false →
      ∃ u, exec (.currentNotDecaying o) s = .next u ∧ u.now = t ∧ u.dsq.drive = .tripped ∧ u.dsq.decayCond = true ∧
        u.dsq.contactor = false ∧ u.dsq.wait = .none ∧ u.pru.active = true ∧ u.pru.cls = some .b ∧
        u.pru.firstOut = some .currentNotDecaying ∧
        u.pru.latched = [{ kind := .currentNotDecaying, cls := .b }] ∧ u.pru.trip = true ∧ u.msy = s.msy ∧
        u.meu = s.meu) ∧
    (s.pru.active = true → s.pru.cls = some .f ∨ s.pru.cls = some .s →
      (∀ e ∈ s.pru.latched, e.kind ≠ .currentNotDecaying) →
      ∃ u, exec (.currentNotDecaying o) s = .next u ∧ u.now = t ∧ u.dsq.drive = .tripped ∧ u.dsq.decayCond = true ∧
        u.dsq.contactor = false ∧ u.dsq.wait = .none ∧ u.pru.active = true ∧ u.pru.cls = some .b ∧
        u.pru.firstOut = s.pru.firstOut ∧ u.pru.record = s.pru.record ∧ u.pru.trip = true ∧
        (tripRight s.pru = true →
          ∀ e : Latch, e ∈ u.pru.latched ↔ e ∈ s.pru.latched ∨ e = { kind := .currentNotDecaying, cls := .b }) ∧
        (∀ j : Station, .episode ∈ (u.links.get j).notices) ∧
        (∀ (i : SlotIx) (r : Record), s.rcu.filling = some i → s.rcu.slots.get i = some r →
          s.rcu.pinned = some r.number → r.subs.length < 8 →
          u.rcu.slots.get i = some { r with subs := r.subs ++
            [{ kind := .currentNotDecaying, period := s.msy.period + 1#32 }] }) ∧
        u.msy = s.msy ∧ u.meu = s.meu)

/-- Tier 2. The first pending origin is taken by its three receivers at its instant, in any order: it leaves the list,
it opens a sample interval with four instants at 1024, 3072, 5120 and 7168 angle units and closes the one before with
its averages, and each controller takes it with the average of its converter before or after that close (R18, R24,
R26, R39, R47). At a real origin a controller in FIRING schedules one firing within the angle limits, which becomes
the last angle, with the integrator in its range; the firing joins the end of the pending firings, all of them before
it, where before is the order of stamps modulo 2^32 that the model chose (log entry 5, DEDUCED). In OFF, and with a
current at or below the zero threshold in RETARD, no firing is scheduled; in HELD one is scheduled at the greatest
angle (R44, R45). The numbers of the step are those of RegulatorStepByItsNumbers. -/
def Obligations.OriginIsTakenByItsReceivers : Prop :=
  (∀ (o : Sched) (s : State) (g : Origin) (gs : List Origin), s.msy.origins = g :: gs →
    ∃ u, exec (.origin o) s = .next u ∧ u.now = g.stamp ∧ u.msy = { s.msy with origins := gs } ∧
      u.meu.interval = some
        { stamp := g.stamp, length := g.length,
          samples := [g.stamp + BitVec.ofNat 32 (1024 * g.length / 49152),
                      g.stamp + BitVec.ofNat 32 (3072 * g.length / 49152),
                      g.stamp + BitVec.ofNat 32 (5120 * g.length / 49152),
                      g.stamp + BitVec.ofNat 32 (7168 * g.length / 49152)],
          count := 0, curA := 0, curB := 0, voltA := 0, voltB := 0 } ∧
      (∀ q : Interval, s.meu.interval = some q → 0 < q.count →
        u.meu.sides.a.average = q.curA / q.count ∧ u.meu.sides.b.average = q.curB / q.count ∧
        u.meu.sides.a.accSum = s.meu.sides.a.accSum + q.curA / q.count ∧
        u.meu.sides.a.accCount = s.meu.sides.a.accCount + 1) ∧
      (∀ x : Side, (u.conv x).lastOrigin = some g ∧ ∃ avg : Nat,
        (avg = (s.meu.sides.get x).average ∨ avg = (u.meu.sides.get x).average) ∧
        u.conv x = convOrigin s.set (s.stu.motors.get x).iref avg g (s.conv x)) ∧
      (g.kind = .substitute → ∀ x : Side, u.conv x = { s.conv x with lastOrigin := some g }) ∧
      u.stu = s.stu ∧ u.dsq = s.dsq ∧ u.vwa = s.vwa ∧ u.rcu = s.rcu ∧ u.set = s.set ∧ u.links = s.links) ∧
  ∀ (z : SetTable) (iref imeas : Nat) (g : Origin) (c : Conv), g.kind = .real → z.alphaMin ≤ z.alphaMax →
    (c.state = .firing → -4194304 ≤ c.integ → c.integ ≤ 4194304 →
      ∃ f, (convOrigin z iref imeas g c).firings.getLast? = some f ∧ f.thy = g.thy ∧ f.period = g.period ∧
        f.originStamp = g.stamp ∧ f.angle = (convOrigin z iref imeas g c).lastAngle ∧ z.alphaMin ≤ f.angle ∧
        f.angle ≤ z.alphaMax ∧ (convOrigin z iref imeas g c).state = .firing ∧
        (∀ k ∈ (convOrigin z iref imeas g c).firings.dropLast, before k.stamp f.stamp = true) ∧
        -4194304 ≤ (convOrigin z iref imeas g c).integ ∧ (convOrigin z iref imeas g c).integ ≤ 4194304) ∧
    (c.state = .off → convOrigin z iref imeas g c = { c with lastOrigin := some g }) ∧
    (c.state = .retard → (imeas ≤ z.zeroThreshold ∨ z.retardLimit ≤ c.retardCount) →
      convOrigin z iref imeas g c = { c with
        lastOrigin := some g, state := .off, firings := [], burst := none, gates := 0#6, retardCount := 0,
        faultCond := c.faultCond && c.fault }) ∧
    (c.state = .held ∨ (c.state = .retard ∧ z.zeroThreshold < imeas ∧ c.retardCount < z.retardLimit) →
      (convOrigin z iref imeas g c).state = c.state ∧ (convOrigin z iref imeas g c).lastAngle = z.alphaMax ∧
      (convOrigin z iref imeas g c).integ = c.integ ∧
      ((convOrigin z iref imeas g c).firings.getLast?).map Firing.angle = some z.alphaMax)

/-- Tier 2. One step of the current regulator at a real origin in FIRING, number by number (R48 to R51, R53). The
error e is Iref less Imeas; the candidate is the integrator plus Ki × e, clamped; the demand u is Kp × e / 256 plus
the candidate / 256, clamped; the raw angle is read from the arccos table with its rounded step; α is the raw angle
within the limits; the integrator is held where the angle stands beyond a limit and the error draws it further, and
takes the candidate otherwise; the delay is α × length / 49152, one tick more where the dither accumulator passes
49152, and the accumulator keeps the remainder; the firing joins the end of those pending that lie before it. In HELD,
and in RETARD above its stop test, the angle is αmax with the same delay and dither, and the integrator stays (R44,
R45, R52). The table is pinned at the entries the manual lists. That one stamp lies before another is decided modulo
2^32 (log entry 5). -/
def Obligations.RegulatorStepByItsNumbers : Prop :=
  (∀ (z : SetTable) (iref imeas : Nat) (g : Origin) (c w : Conv) (al m carry : Nat) (f : Firing),
    g.kind = .real → z.alphaMin ≤ z.alphaMax → w = convOrigin z iref imeas g c →
    m = al * g.length % 49152 → carry = (if 49152 ≤ c.dither + m then 1 else 0) →
    f = { thy := g.thy, originStamp := g.stamp, period := g.period, angle := al,
          stamp := g.stamp + BitVec.ofNat 32 (al * g.length / 49152 + carry) } →
    (∀ (e i' u : Int) (k r raw : Nat), c.state = .firing → e = (iref : Int) - imeas →
      i' = max (-4194304) (min 4194304 (c.integ + (z.ki : Int) * e)) →
      u = max (-16384) (min 16384 (Int.tdiv ((z.kp : Int) * e) 256 + Int.tdiv i' 256)) →
      k = (u + 16384).toNat / 128 → r = (u + 16384).toNat % 128 →
      raw = (if k = 256 then 0 else arccosAt k - ((arccosAt k - arccosAt (k + 1)) * r + 64) / 128) →
      al = (if raw < z.alphaMin then z.alphaMin else if z.alphaMax < raw then z.alphaMax else raw) →
      w = { c with
        lastOrigin := some g, lastAngle := al,
        integ := (if (z.alphaMax < raw ∧ e < 0) ∨ (raw < z.alphaMin ∧ 0 < e) then c.integ else i'),
        dither := c.dither + m - carry * 49152,
        firings := c.firings.filter (fun q => before q.stamp f.stamp) ++ [f] }) ∧
    (c.state = .held ∨ (c.state = .retard ∧ z.zeroThreshold < imeas ∧ c.retardCount < z.retardLimit) →
      al = z.alphaMax →
      w = { c with lastOrigin := some g, lastAngle := al, dither := c.dither + m - carry * 49152,
                   firings := c.firings.filter (fun q => before q.stamp f.stamp) ++ [f] })) ∧
  [0, 64, 127, 128, 129, 192, 256].map arccosAt = [24576, 16384, 12349, 12288, 12227, 8192, 0] ∧
  ∀ k : Nat, k < 256 → arccosAt (k + 1) < arccosAt k

/-- Tier 2. The first pending firing is issued: it leaves the list, a burst starts with the settings in force on the
line of its thyristor and of the one before, RETARD counts it, and it is counted in the firings since arrival. With
the 64th, which FIRING_ISSUE and ESCALATION_DECAY both name, that count is 0 and the escalation counter falls by one,
and at 0 CONV_x_TRANSIENT is clear (R54, R55, R56, R62). The phases of a burst alternate: a pulse on gives way to its
pulse-off length with the lines released; after the last pulse-off length the burst is over, and otherwise the next
pulse asserts the pair of lines (R55). That ESCALATION_DECAY as a command is that firing is the model's reading (log
entry 7, DEDUCED), and so is the retard firing count's stop at 60 (log entry 14, DEDUCED). -/
def Obligations.FiringAndItsBurst : Prop :=
  (∀ (x : Side) (s : State) (f : Firing) (fs : List Firing) (c : Conv), (s.conv x).firings = f :: fs →
    c = { s.conv x with
      firings := fs,
      burst := some { thy := f.thy, onLen := s.set.pulseOn, offLen := s.set.pulseOff, remaining := s.set.burstCount,
                      on := true, phaseEnd := f.stamp + BitVec.ofNat 32 s.set.pulseOn },
      gates := (match f.thy with
        | .t1 => 0b100001#6
        | .t2 => 0b000011#6
        | .t3 => 0b000110#6
        | .t4 => 0b001100#6
        | .t5 => 0b011000#6
        | .t6 => 0b110000#6),
      retardCount := (if (s.conv x).state = .retard then min ((s.conv x).retardCount + 1) 60
                      else (s.conv x).retardCount) } →
    ((s.conv x).since + 1 < 64 → exec (.firingIssue x) s =
      .next ({ s with now := f.stamp }.putConv x { c with since := (s.conv x).since + 1 })) ∧
    (64 ≤ (s.conv x).since + 1 →
      exec (.escalationDecay x) s = exec (.firingIssue x) s ∧
      ∃ u, exec (.escalationDecay x) s = .next u ∧ u.now = f.stamp ∧
        u.conv x = { c with since := 0, esc := (s.conv x).esc - 1,
                            transCond := (s.conv x).transCond && decide (1 < (s.conv x).esc) } ∧
        ((s.conv x).transCond = true → (s.conv x).esc ≤ 1 →
          .convTransient x ∉ u.pru.view ∧ .convTransient x ∉ u.pru.warnings) ∧
        { u with pru := s.pru, cca := s.cca, ccb := s.ccb } = { s with now := f.stamp } ∧
        u.conv (otherSide x) = s.conv (otherSide x))) ∧
  ∀ (x : Side) (s : State) (b : Burst), (s.conv x).burst = some b →
    (b.on = true → exec (.burstPhaseEnd x) s = .next ({ s with now := b.phaseEnd }.putConv x { s.conv x with
      burst := some { b with on := false, phaseEnd := b.phaseEnd + BitVec.ofNat 32 b.offLen }, gates := 0#6 })) ∧
    (b.on = false → b.remaining ≤ 1 → exec (.burstPhaseEnd x) s = .next ({ s with now := b.phaseEnd }.putConv x
      { s.conv x with burst := none, gates := 0#6 })) ∧
    (b.on = false → 1 < b.remaining → exec (.burstPhaseEnd x) s = .next ({ s with now := b.phaseEnd }.putConv x
      { s.conv x with
        burst := some { b with on := true, remaining := b.remaining - 1,
                               phaseEnd := b.phaseEnd + BitVec.ofNat 32 b.onLen },
        gates := gatePair b.thy }))

/-- Tier 2. At an instant that is no period event's, or with no order of takings given, a fault arrival in FIRING
answered by RETARD_BLOCK or BLOCK with CONV_x_FAULT clear: the capture of the last origin is held and handed on, the
controller is in RETARD or OFF, CONV_x_FAULT holds and, class F, is latched. Answered by SKIP below the escalation
limit it counts one more, suppresses the record of the last origin and warns. In OFF only the line's level is recorded
(R57, R58, R59, R61, R62, R63). A fault line that goes inactive returns a controller in HELD to FIRING with the
integrator preset and records the level in FIRING and RETARD; in OFF CONV_x_FAULT becomes clear (R45, R57, R63). -/
def Obligations.FaultArrivalAndClear : Prop :=
  (∀ (x : Side) (t : Tick) (o : Sched) (s : State) (g : Origin), (s.conv x).fault = false →
    (nextPeriodEvent s.msy ≠ some t ∨ o.takings = []) →
    ((s.conv x).state = .off → exec (.faultArrival x t o) s =
      .next ({ s with now := t }.putConv x { s.conv x with fault := true })) ∧
    ((s.conv x).state = .firing → (s.conv x).lastOrigin = some g → (s.conv x).faultCond = false →
      (s.set.response x = .retardBlock ∨ s.set.response x = .block) →
      ∃ u, exec (.faultArrival x t o) s = .next u ∧ u.now = t ∧
        (u.conv x).state = (if s.set.response x = .block then .off else .retard) ∧ (u.conv x).fault = true ∧
        (u.conv x).since = 0 ∧ (u.conv x).faultCond = true ∧ (u.conv x).retardCount = 0 ∧
        (s.set.response x = .block → (u.conv x).firings = [] ∧ (u.conv x).burst = none ∧ (u.conv x).gates = 0#6) ∧
        (u.conv x).capture = some { period := g.period, thy := g.thy,
                                    angle := min ((t - g.stamp).toNat * 49152 / g.length) 49151,
                                    current := (s.meu.sides.get x).lastSample } ∧
        u.rcu.latest.get x = (u.conv x).capture ∧
        .convFault x ∈ u.pru.view ∧ latchedActive (.convFault x) u.pru = true ∧ u.msy = s.msy ∧ u.meu = s.meu) ∧
    ((s.conv x).state = .firing → (s.conv x).lastOrigin = some g → s.set.response x = .skip →
      (s.conv x).esc + 1 < s.set.escLimit → (s.conv x).esc < 16 → (s.conv x).transCond = false →
      ∃ u, exec (.faultArrival x t o) s = .next u ∧ u.now = t ∧ (u.conv x).state = .firing ∧
        (u.conv x).fault = true ∧ (u.conv x).esc = (s.conv x).esc + 1 ∧ (u.conv x).since = 0 ∧
        (u.conv x).firings = (if g.kind = .real
          then (s.conv x).firings.filter (fun f => decide ¬ (f.thy = g.thy ∧ f.period = g.period))
          else (s.conv x).firings) ∧
        .convTransient x ∈ u.pru.warnings ∧ u.dsq = s.dsq ∧ u.msy = s.msy ∧ u.meu = s.meu)) ∧
  ∀ (x : Side) (t : Tick) (s : State), (s.conv x).fault = true →
    ((s.conv x).state = .held → exec (.faultClear x t) s = .next ({ s with now := t }.putConv x
      { s.conv x with fault := false, state := .firing, integ := -4194304 })) ∧
    ((s.conv x).state = .firing ∨ (s.conv x).state = .retard → exec (.faultClear x t) s =
      .next ({ s with now := t }.putConv x { s.conv x with fault := false })) ∧
    ((s.conv x).state = .off → ∃ u, exec (.faultClear x t) s = .next u ∧
      u.conv x = { s.conv x with fault := false, faultCond := false } ∧
      u.conv (otherSide x) = s.conv (otherSide x) ∧
      ((s.conv x).faultCond = true → .convFault x ∉ u.pru.view) ∧
      { u with pru := s.pru, cca := s.cca, ccb := s.ccb } = { s with now := t })

/-- Tier 2. The other answers to a fault arrival, at an instant that is no period event's or with no order of takings
given, and with the settings in range, as every step keeps them (R57 to R63). RETARD_RESUME below the escalation limit
takes FIRING into HELD and leaves RETARD; SKIP below the limit leaves the state and suppresses the record of the last
origin, whatever its escalation counter was. Each counts one more, up to 16; CONV_x_TRANSIENT warns where it was clear
and nothing is reported where it holds already, as with the counter above 0 (R62). At the limit both answer as
RETARD_BLOCK: FIRING becomes RETARD with the retard firing count 0, no record is suppressed, and CONV_x_FAULT is latched.
In RETARD, RETARD_BLOCK keeps the state and its count, and BLOCK is OFF. The class F report may stop the drive at once,
where staged angle limits apply and withdraw the pending firings outside them (R65, R185). With CONV_x_FAULT holding
already, an arrival answered RETARD_BLOCK or BLOCK, set or escalated, is answered in FIRING and in RETARD, and neither
latched nor sent on as a demand (R63). A record that is FILLING takes the capture where its field is absent (R168). -/
def Obligations.OtherAnswersToAFault : Prop :=
  ∀ (x : Side) (t : Tick) (o : Sched) (s : State) (g : Origin) (c : Conv) (k : FaultCapture) (staged : Bool),
    (nextPeriodEvent s.msy ≠ some t ∨ o.takings = []) → (s.conv x).fault = false → settingsRight s.set = true →
    staged = (s.set.staged[20]?.join.isSome || s.set.staged[21]?.join.isSome) →
    ((s.conv x).state = .firing ∨ (s.conv x).state = .retard) → (s.conv x).lastOrigin = some g →
    k = { period := g.period, thy := g.thy, angle := min ((t - g.stamp).toNat * 49152 / g.length) 49151,
          current := (s.meu.sides.get x).lastSample } →
    c = { s.conv x with fault := true, since := 0, capture := some k } →
    (s.set.response x = .skip ∨ s.set.response x = .retardResume →
      min ((s.conv x).esc + 1) 16 < s.set.escLimit →
      ∃ u, exec (.faultArrival x t o) s = .next u ∧ u.now = t ∧
        u.conv x = { c with
          esc := min ((s.conv x).esc + 1) 16, transCond := true,
          state := (if s.set.response x = .retardResume ∧ (s.conv x).state = .firing then .held else (s.conv x).state),
          firings := (if s.set.response x = .skip ∧ g.kind = .real
            then (s.conv x).firings.filter (fun f => decide ¬ (f.thy = g.thy ∧ f.period = g.period))
            else (s.conv x).firings) } ∧
        u.rcu.latest.get x = some k ∧
        (∀ (i : SlotIx) (r : Record), s.rcu.filling = some i → s.rcu.slots.get i = some r →
          u.rcu.slots.get i = some (match x with
            | .a => { r with capA := some (r.capA.getD k) }
            | .b => { r with capB := some (r.capB.getD k) })) ∧
        ((s.conv x).transCond = false → .convTransient x ∈ u.pru.view ∧ .convTransient x ∈ u.pru.warnings) ∧
        ((s.conv x).transCond = true → u.pru = s.pru ∧ u.links = s.links) ∧
        u.dsq = s.dsq ∧ u.msy = s.msy ∧ u.meu = s.meu ∧ u.conv (otherSide x) = s.conv (otherSide x)) ∧
    (s.set.response x = .skip ∨ s.set.response x = .retardResume →
      s.set.escLimit ≤ min ((s.conv x).esc + 1) 16 → (s.conv x).faultCond = false →
      ∃ u, exec (.faultArrival x t o) s = .next u ∧ u.now = t ∧
        u.conv x = { c with
          esc := min ((s.conv x).esc + 1) 16, transCond := true, faultCond := true, state := .retard,
          retardCount := (if (s.conv x).state = .firing then 0 else (s.conv x).retardCount),
          firings := (if stoppedState u.dsq.drive = true ∧ u.dsq.drive ≠ s.dsq.drive ∧ staged = true
            then (s.conv x).firings.filter (fun f => decide (u.set.num 21 ≤ f.angle) && decide (f.angle ≤ u.set.num 22))
            else (s.conv x).firings) } ∧
        .convFault x ∈ u.pru.view ∧ latchedActive (.convFault x) u.pru = true ∧ u.msy = s.msy ∧ u.meu = s.meu) ∧
    ((s.conv x).state = .retard → (s.conv x).faultCond = false →
      (s.set.response x = .retardBlock → ∃ u, exec (.faultArrival x t o) s = .next u ∧
        u.conv x = { c with
          faultCond := true,
          firings := (if stoppedState u.dsq.drive = true ∧ u.dsq.drive ≠ s.dsq.drive ∧ staged = true
            then (s.conv x).firings.filter (fun f => decide (u.set.num 21 ≤ f.angle) && decide (f.angle ≤ u.set.num 22))
            else (s.conv x).firings) } ∧
        latchedActive (.convFault x) u.pru = true) ∧
      (s.set.response x = .block → ∃ u, exec (.faultArrival x t o) s = .next u ∧
        u.conv x = { c with state := .off, firings := [], burst := none, gates := 0#6, retardCount := 0,
                            faultCond := true } ∧ latchedActive (.convFault x) u.pru = true)) ∧
    ((s.conv x).faultCond = true →
      (s.set.response x = .skip ∨ s.set.response x = .retardResume → s.set.escLimit ≤ min ((s.conv x).esc + 1) 16 →
        ∃ u, exec (.faultArrival x t o) s = .next u ∧ u.now = t ∧
          u.conv x = { c with
            esc := min ((s.conv x).esc + 1) 16, transCond := true, state := .retard,
            retardCount := (if (s.conv x).state = .firing then 0 else (s.conv x).retardCount) } ∧
          u.pru.latched = s.pru.latched ∧ ((s.conv x).transCond = true → u.pru = s.pru ∧ u.links = s.links) ∧
          u.rcu.latest.get x = some k ∧ u.dsq = s.dsq) ∧
      (s.set.response x = .retardBlock → ∃ u, exec (.faultArrival x t o) s = .next u ∧ u.now = t ∧
        u.conv x = { c with
          state := .retard, retardCount := (if (s.conv x).state = .firing then 0 else (s.conv x).retardCount) } ∧
        u.rcu.latest.get x = some k ∧ u.pru = s.pru ∧ u.dsq = s.dsq ∧ u.links = s.links) ∧
      (s.set.response x = .block → ∃ u, exec (.faultArrival x t o) s = .next u ∧ u.now = t ∧
        u.conv x = { c with state := .off, firings := [], burst := none, gates := 0#6, retardCount := 0 } ∧
        u.rcu.latest.get x = some k ∧ u.pru = s.pru ∧ u.dsq = s.dsq ∧ u.links = s.links))

/-- Tier 2. A fault answered by BLOCK at the instant of the coming period event, in STARTING or RUN with single-drive
NO and the grace flag clear. With the trip demand taken before the period event the drive is TRIPPED and CONV_x_FAULT
is the one cause latched. With the period event taken first by the speed and torque unit, CONVERTER_LOST holds and is
latched as a subsequent cause of the episode whose first-out is CONV_x_FAULT, and then the drive is TRIPPED (R59, R90,
R144, R145). -/
def Obligations.FaultAndPeriodEventInEitherOrder : Prop :=
  ∀ (x : Side) (t : Tick) (o : Sched) (s : State) (g : Origin),
    settingsRight s.set = true → nextPeriodEvent s.msy = some t → s.stu.periodTaken ≠ s.msy.period + 1#32 →
    (s.conv x).fault = false → (s.conv x).state = .firing → (s.conv x).lastOrigin = some g →
    (s.conv x).faultCond = false → s.set.response x = .block → (s.dsq.drive = .starting ∨ s.dsq.drive = .run) →
    s.stu.grace = false → s.set.singleDrive = false → s.stu.lostCond = false → s.pru.active = false →
    (o.takings = [] → ∃ u, exec (.faultArrival x t o) s = .next u ∧ u.dsq.drive = .tripped ∧
      u.pru.firstOut = some (.convFault x) ∧ u.pru.latched = [{ kind := .convFault x, cls := .f }] ∧
      u.stu.lostCond = false ∧ u.stu.periodTaken = s.stu.periodTaken) ∧
    (o.takings = [.period .stu, .demand] → o.reports = [] →
      ∃ u, exec (.faultArrival x t o) s = .next u ∧ u.dsq.drive = .tripped ∧
        u.pru.firstOut = some (.convFault x) ∧ latchedActive (.convFault x) u.pru = true ∧
        latchedActive .converterLost u.pru = true ∧ .converterLost ∈ u.pru.view ∧ u.stu.lostCond = true ∧
        u.stu.periodTaken = s.msy.period + 1#32 ∧ (u.conv x).state = .off)

/-- Tier 2. A sample takes the first sample instant of the open interval: each current and voltage is (raw − offset) ×
gain / 1024, truncated and clamped to [0, 32767], joins the interval's sums, and sets the last sample; the rail
counter, CURRENT_SENSOR_x, OVERCURRENT_x and OVERVOLTAGE_x follow (R23, R25, R28, R29, R30). -/
def Obligations.SampleIsTaken : Prop :=
  ∀ (v : RawSet) (o : Sched) (s : State) (g : Interval) (t : Tick) (ts : List Tick)
    (scale : BitVec 12 → Nat → Nat → Nat) (after : Side → BitVec 12 → BitVec 12 → MeuSide),
    s.meu.interval = some g → g.samples = t :: ts →
    (scale = fun (r : BitVec 12) (off gain : Nat) =>
      (max 0 (min 32767 (Int.tdiv (((r.toNat : Int) - (off : Int)) * (gain : Int)) 1024))).toNat) →
    (after = fun x i w => { s.meu.sides.get x with
      lastSample := scale i (s.set.currentOffset x) (s.set.currentGain x),
      rail := (if i = 0#12 ∨ i = 4095#12 then min ((s.meu.sides.get x).rail + 1) 3 else 0),
      sensorCond := ((i = 0#12 || i = 4095#12) &&
        ((s.meu.sides.get x).sensorCond || decide (2 ≤ (s.meu.sides.get x).rail))),
      overCond := ((s.meu.sides.get x).overCond ||
        decide (s.set.itrip x < scale i (s.set.currentOffset x) (s.set.currentGain x))),
      voltCond := ((s.meu.sides.get x).voltCond ||
        decide (s.set.uover x < scale w (s.set.voltOffset x) (s.set.voltGain x))) }) →
    ∃ u, exec (.currentSample v o) s = .next u ∧ u.now = t ∧ u.msy = s.msy ∧
      u.meu = { s.meu with
        interval := some { g with
          samples := ts, count := g.count + 1,
          curA := g.curA + scale v.r0 (s.set.currentOffset .a) (s.set.currentGain .a),
          curB := g.curB + scale v.r1 (s.set.currentOffset .b) (s.set.currentGain .b),
          voltA := g.voltA + scale v.r2 (s.set.voltOffset .a) (s.set.voltGain .a),
          voltB := g.voltB + scale v.r3 (s.set.voltOffset .b) (s.set.voltGain .b) },
        sides := ⟨after .a v.r0 v.r2, after .b v.r1 v.r3⟩ }

/-- Tier 2. CURRENT_SENSOR: the sample at which a raw current stands at a rail for the third time in a row with the
condition clear sets CURRENT_SENSOR_x, which is latched with class F, and the drive is in a state that a class F
demand allows (R28, R129, R144, R145); that CURRENT_SENSOR as a command is that whole CURRENT_SAMPLE is the model's
reading (log entry 7, DEDUCED). Each current and voltage of a sample is tested against Itrip and Uover of its
converter (R29, R30): above it, with the condition clear, OVERCURRENT_x or OVERVOLTAGE_x holds and, of a class other
than W, is latched; while it holds, and at a sample equal to the setting, nothing is reported of it. It becomes clear
at the close of an interval of at least one sample whose average lies below the setting, not at one equal to it, and
the cause leaves the protection unit's view. -/
def Obligations.SampleChecksAreReported : Prop :=
  (∀ (x : Side) (v : RawSet) (o : Sched) (s : State) (g : Interval) (t : Tick) (ts : List Tick),
    s.meu.interval = some g → g.samples = t :: ts →
    (∀ r : BitVec 12, r = (match x with | .a => v.r0 | .b => v.r1) → r = 0#12 ∨ r = 4095#12) →
    (s.meu.sides.get x).rail = 2 → (s.meu.sides.get x).sensorCond = false → s.pru.active = false →
    ∃ u, exec (.currentSensor x v o) s = .next u ∧ exec (.currentSample v o) s = .next u ∧ u.now = t ∧
      (u.meu.sides.get x).rail = 3 ∧ (u.meu.sides.get x).sensorCond = true ∧ .currentSensor x ∈ u.pru.view ∧
      latchedActive (.currentSensor x) u.pru = true ∧
      (u.dsq.drive = .tripped ∨ u.dsq.drive = .aux) ∧ (u.dsq.drive = .aux → s.dsq.drive = .aux)) ∧
  (∀ (x : Side) (v : RawSet) (o : Sched) (s : State) (g : Interval) (t : Tick) (ts : List Tick)
    (scale : BitVec 12 → Nat → Nat → Nat) (i w : BitVec 12) (cur volt : Nat),
    s.meu.interval = some g → g.samples = t :: ts →
    (scale = fun (r : BitVec 12) (off gain : Nat) =>
      (max 0 (min 32767 (Int.tdiv (((r.toNat : Int) - (off : Int)) * (gain : Int)) 1024))).toNat) →
    i = (match x with | .a => v.r0 | .b => v.r1) → w = (match x with | .a => v.r2 | .b => v.r3) →
    cur = scale i (s.set.currentOffset x) (s.set.currentGain x) →
    volt = scale w (s.set.voltOffset x) (s.set.voltGain x) →
    ∃ u, exec (.currentSample v o) s = .next u ∧
      (u.meu.sides.get x).overCond = ((s.meu.sides.get x).overCond || decide (s.set.itrip x < cur)) ∧
      (u.meu.sides.get x).voltCond = ((s.meu.sides.get x).voltCond || decide (s.set.uover x < volt)) ∧
      ((s.meu.sides.get x).overCond = false → s.set.itrip x < cur →
        .overcurrent x ∈ u.pru.view ∧
        (s.set.classInForce (.overcurrent x) ≠ .w → latchedActive (.overcurrent x) u.pru = true)) ∧
      ((s.meu.sides.get x).voltCond = false → s.set.uover x < volt →
        .overvoltage x ∈ u.pru.view ∧
        (s.set.classInForce (.overvoltage x) ≠ .w → latchedActive (.overvoltage x) u.pru = true)) ∧
      ((∀ k : Cause, latchedActive k s.pru = false) →
        ((s.meu.sides.get x).overCond = true ∨ cur ≤ s.set.itrip x →
          latchedActive (.overcurrent x) u.pru = false) ∧
        ((s.meu.sides.get x).voltCond = true ∨ volt ≤ s.set.uover x →
          latchedActive (.overvoltage x) u.pru = false))) ∧
  ∀ (x : Side) (o : Sched) (s : State) (g : Origin) (gs : List Origin) (q : Interval) (cur volt : Nat),
    s.msy.origins = g :: gs → s.meu.interval = some q →
    cur = (match x with | .a => q.curA | .b => q.curB) → volt = (match x with | .a => q.voltA | .b => q.voltB) →
    ∃ u, exec (.origin o) s = .next u ∧
      (u.meu.sides.get x).overCond =
        ((s.meu.sides.get x).overCond && (decide (q.count = 0) || decide (s.set.itrip x ≤ cur / q.count))) ∧
      (u.meu.sides.get x).voltCond =
        ((s.meu.sides.get x).voltCond && (decide (q.count = 0) || decide (s.set.uover x ≤ volt / q.count))) ∧
      ((s.meu.sides.get x).overCond = true → 0 < q.count → cur / q.count < s.set.itrip x →
        .overcurrent x ∉ u.pru.view) ∧
      ((s.meu.sides.get x).voltCond = true → 0 < q.count → volt / q.count < s.set.uover x →
        .overvoltage x ∉ u.pru.view)

/-- Tier 2. A scan: the next scan instant is 2000 ticks on; every channel's bias moves by (raw × 1024 − B) / 1024; and
a channel of the watch that is evaluating with the phase RUNNING, and whose sensor flag does not change at this scan,
adds the sample, raw − round(B), to the bin of its time since the last marker (R31, R32, R101). At the 5000th scan in
a row with the updated bias outside the window a channel is flagged (SENSOR_FAULT_SET): it is in SENSOR_FAULT without
marker phase, deadline or accumulators, contributes its fault level, and VIB_SENSOR_n warns. At the 5000th inside, the
flag clears (SENSOR_FAULT_CLEAR): the channel, its table cleared, is in PAUSED below the watch minimum and otherwise
in LEARNING, and the warning leaves (R33, R108, R110, R111, R112). That these two commands are the whole
VIBRATION_SCAN at which the flag changes is the model's reading (log entry 7, DEDUCED). -/
def Obligations.ScanBinsAndSensorFlag : Prop :=
  (∀ (v : RawSet) (o : Sched) (s : State),
    ∃ u, exec (.vibrationScan v o) s = .next u ∧ u.now = s.meu.nextScan ∧ u.meu.nextScan = s.meu.nextScan + 2000#32 ∧
      u.msy = s.msy ∧ u.stu = s.stu ∧ u.dsq = s.dsq ∧ u.rcu = s.rcu ∧ u.set = s.set ∧
      u.meu.sides = s.meu.sides ∧ u.meu.interval = s.meu.interval ∧ u.meu.teeth = s.meu.teeth ∧
      ∀ (n : Chan) (raw : BitVec 12) (d : MeuChan) (c : VChan),
        raw = (match n with | .c0 => v.r0 | .c1 => v.r1 | .c2 => v.r2 | .c3 => v.r3) → d = s.meu.chans.get n →
        c = s.vwa.chans.get n →
        (u.meu.chans.get n).bias = d.bias + Int.tdiv ((raw.toNat : Int) * 1024 - d.bias) 1024 ∧
        (∀ (m : Tick) (r b : Nat) (x : Int),
          (c.state = .learning ∨ c.state = .normal ∨ c.state = .alert ∨ c.state = .danger) → c.phase = .running →
          c.lastMarker = some m → c.trev = some r → (u.meu.chans.get n).flag = d.flag →
          b = min (64 * (s.meu.nextScan - m).toNat / r) 63 → x = (raw.toNat : Int) - Int.tdiv (d.bias + 512) 1024 →
          u.vwa.chans.get n = { c with acc :=
            { sums := c.acc.sums.set b (c.acc.sums.getD b 0 + x),
              counts := c.acc.counts.set b (c.acc.counts.getD b 0 + 1),
              sumSq := c.acc.sumSq + (x - c.table.getD b 0).natAbs ^ 2, total := c.acc.total + 1 } })) ∧
  ∀ (n : Chan) (v : RawSet) (o : Sched) (s : State) (raw : BitVec 12) (d : MeuChan) (c : VChan) (b : Int),
    raw = (match n with | .c0 => v.r0 | .c1 => v.r1 | .c2 => v.r2 | .c3 => v.r3) → d = s.meu.chans.get n →
    c = s.vwa.chans.get n → d.count = 4999 →
    b = Int.tdiv (d.bias + Int.tdiv ((raw.toNat : Int) * 1024 - d.bias) 1024 + 512) 1024 →
    (d.flag = false → (b < s.set.biasLow ∨ (s.set.biasHigh : Int) < b) → c.sensorCond = false →
      ∃ u, exec (.sensorFaultSet n v o) s = .next u ∧ exec (.vibrationScan v o) s = .next u ∧
        (u.meu.chans.get n).flag = true ∧ (u.meu.chans.get n).count = 0 ∧
        (u.vwa.chans.get n).state = .sensorFault ∧ (u.vwa.chans.get n).held = none ∧
        (u.vwa.chans.get n).phase = .wait ∧ (u.vwa.chans.get n).deadline = none ∧
        (u.vwa.chans.get n).acc = revAccClear ∧ (u.vwa.chans.get n).alert = 0 ∧ (u.vwa.chans.get n).danger = 0 ∧
        (u.vwa.chans.get n).release = 0 ∧ (u.vwa.chans.get n).contribution = (s.set.action n).faultLevel ∧
        (u.vwa.chans.get n).table = c.table ∧ .vibSensor n ∈ u.pru.view ∧ .vibSensor n ∈ u.pru.warnings) ∧
    (d.flag = true → (s.set.biasLow : Int) ≤ b → b ≤ s.set.biasHigh → c.sensorCond = true →
      ∃ u, exec (.sensorFaultClear n v o) s = .next u ∧ exec (.vibrationScan v o) s = .next u ∧
        (u.meu.chans.get n).flag = false ∧ (u.meu.chans.get n).count = 0 ∧
        (u.vwa.chans.get n).state = (if s.refSpeedOf n < s.set.watchMin then .paused else .learning) ∧
        (u.vwa.chans.get n).table = List.replicate 64 0 ∧ (u.vwa.chans.get n).completed = 0 ∧
        (u.vwa.chans.get n).sync = 0 ∧ (u.vwa.chans.get n).resid = 0 ∧ (u.vwa.chans.get n).phase = .wait ∧
        (u.vwa.chans.get n).contribution = 0 ∧ .vibSensor n ∉ u.pru.view ∧ .vibSensor n ∉ u.pru.warnings)

/-- Tier 2. A pulse edge that has persisted gives the qualified level. A falling one does no more; a rising one of a
pinion's tooth input shifts its stamp pair and readmits an excluded pinion, whose warning leaves (R34, R35, R69). A
rising edge of a marker input reaches every channel whose profile names that marker: in WAIT of an evaluating state,
and from UNREFERENCED with its held state, it starts timing; a marker that comes before half of Trev_est is rejected
and changes nothing of the channel; a channel in PAUSED or in SENSOR_FAULT does not take it, and one of another marker
is not reached (R36, R96, R97, R100, R110). In each the contribution and the conditions VIB_DANGER_n and VIB_SENSOR_n
are taken again with the values that state, held state and action give (`settleChannel`, R107 to R110). The marker
deadline passes: a channel in an evaluating state is UNREFERENCED, holding its state and its contribution, with phase
WAIT, no deadline and cleared accumulators; its table, figures, counts and Trev_est stay, its contribution is the held
one, and the derate level does not change (R99, R107, R108). -/
def Obligations.EdgesMarkersAndDeadlines : Prop :=
  (∀ (l : PulseLine) (o : Sched) (s : State) (c : Candidate), (s.meu.line l).cand = some c →
    (c.level = false → exec (.pulseQualifiedEdge l o) s =
      .next { s with now := c.stamp + 200#32, meu := s.meu.putLine l ⟨false, none⟩ }) ∧
    (∀ x : Side, c.level = true → l = (match x with | .a => .pa | .b => .pb) →
      ∃ u, exec (.pulseQualifiedEdge l o) s = .next u ∧
        u.meu.teeth = s.meu.teeth.put x { newest := some c.stamp, previous := (s.meu.teeth.get x).newest } ∧
        { u.meu with teeth := s.meu.teeth } = s.meu.putLine l ⟨true, none⟩ ∧
        ((s.stu.motors.get x).excluded = false →
          { u with meu := s.meu } = { s with now := c.stamp + 200#32 }) ∧
        ((s.stu.motors.get x).excluded = true → (s.stu.motors.get x).sensorCond = true →
          u.stu.motors.get x = { s.stu.motors.get x with excluded := false, exclCount := 0, sensorCond := false } ∧
          u.stu.motors.get (otherSide x) = s.stu.motors.get (otherSide x) ∧
          .speedSensor x ∉ u.pru.view ∧ .speedSensor x ∉ u.pru.warnings ∧
          { u with meu := s.meu, pru := s.pru, stu := s.stu } = { s with now := c.stamp + 200#32 }))) ∧
  (∀ (l : PulseLine) (k : Marker) (o : Sched) (s : State) (q : Candidate) (n : Chan) (c : VChan),
    settingsRight s.set = true → (s.meu.line l).cand = some q → q.level = true →
    l = (match k with | .ka => .ka | .kb => .kb | .ks => .ks) → c = s.vwa.chans.get n →
    ∃ u, exec (.pulseQualifiedEdge l o) s = .next u ∧ u.now = q.stamp + 200#32 ∧
      u.meu = s.meu.putLine l ⟨true, none⟩ ∧ u.msy = s.msy ∧
      ((s.set.profile n).marker ≠ k → u.vwa.chans.get n = c) ∧
      ((s.set.profile n).marker = k →
        (c.state = .paused ∨ c.state = .sensorFault →
          u.vwa.chans.get n = settleChannel (s.set.action n) c) ∧
        (∀ (st : ChanState) (hd : Option Held),
          (evaluating c.state = true ∧ c.phase = .wait ∧ st = c.state ∧ hd = c.held ∨
           ∃ h, c.state = .unreferenced ∧ c.held = some h ∧ st = h.state ∧ hd = none) →
          u.vwa.chans.get n = settleChannel (s.set.action n) { c with
            state := st, held := hd, phase := .timing, lastMarker := some q.stamp, acc := revAccClear,
            deadline := some (match c.trev with
              | none => q.stamp + 1200000000#32
              | some r => q.stamp + BitVec.ofNat 32 (2 * r)) }) ∧
        (∀ (m : Tick) (r : Nat), evaluating c.state = true → c.phase ≠ .wait →
          c.lastMarker = some m → c.trev = some r → (q.stamp - m).toNat < r / 2 →
          u.vwa.chans.get n = settleChannel (s.set.action n) c))) ∧
  (∀ (a : Action) (c : VChan), settleChannel a c = { c with
    contribution := (match c.state with
      | .paused | .learning | .normal => 0
      | .alert => a.alertLevel
      | .danger => 3
      | .unreferenced => (match c.held with | none => 0 | some h => h.contribution)
      | .sensorFault => a.faultLevel),
    dangerCond := a.dangerTrip && (decide (c.state = .danger) ||
      (decide (c.state = .unreferenced) && decide (c.held.map Held.state = some .danger))),
    sensorCond := decide (c.state = .sensorFault) }) ∧
  ∀ (n : Chan) (o : Sched) (s : State) (c : VChan) (d : Tick), c = s.vwa.chans.get n → c.deadline = some d →
    (c.state = .learning ∨ c.state = .normal ∨ c.state = .alert ∨ c.state = .danger) → derateRight s.vwa = true →
    ∃ u, exec (.markerDeadline n o) s = .next u ∧ u.now = d ∧
      u.vwa.chans.get n = { c with
        state := .unreferenced, held := some { state := c.state, contribution := c.contribution },
        acc := revAccClear, phase := .wait, deadline := none,
        dangerCond := (s.set.action n).dangerTrip && decide (c.state = .danger), sensorCond := false } ∧
      u.vwa.level = s.vwa.level ∧ .channel ∈ u.links.m.notices ∧ u.links.m.attention = true ∧
      (∀ j : Chan, j ≠ n → u.vwa.chans.get j = s.vwa.chans.get j) ∧ u.msy = s.msy ∧ u.meu = s.meu

/-- Tier 2. A marker that is not rejected completes the revolution of a channel in an evaluating state without a
staged profile: Trev_est is the revolution's length, at most 2,000,000,000, and the deadline lies two of it on (R98).
From TIMING the phase becomes RUNNING and nothing is evaluated. From RUNNING: the bins move by the truncated 2^w-th
part of their difference to their mean, a bin without samples stays (R102); SYNC is the span of the table, greatest
bin less least, and RESID the whole root of the mean square, 0 without samples (R103); the serial and the completed
count go on, the accumulators are cleared (R104). LEARNING enters NORMAL when the count has reached 2^w. In the graded
states the counters go on while a figure is at its threshold and are 0 otherwise (R105); NORMAL, ALERT and DANGER
change by the persistence counts, the test for DANGER first, a release below 7/8 of both thresholds of the grade left
(R106); the release counter is 0 after a change, and contribution, VIB_DANGER_n's condition and the notice follow the
state (R107, R108, R109): an entry into DANGER with the danger action TRIP puts VIB_DANGER_n into the condition view
and latches it, and leaving DANGER takes it out of the view. -/
def Obligations.RevolutionIsCompletedAndGraded : Prop :=
  ∀ (l : PulseLine) (k : Marker) (o : Sched) (s : State) (q : Candidate) (n : Chan) (c : VChan) (m : Tick) (r : Nat)
    (p : Profile),
    settingsRight s.set = true → (s.meu.line l).cand = some q → q.level = true →
    l = (match k with | .ka => .ka | .kb => .kb | .ks => .ks) → c = s.vwa.chans.get n → p = s.set.profile n →
    p.marker = k → stagedProfile n s.set = none →
    (c.state = .learning ∨ c.state = .normal ∨ c.state = .alert ∨ c.state = .danger) → c.phase ≠ .wait →
    c.lastMarker = some m → (∀ e, c.trev = some e → e / 2 ≤ (q.stamp - m).toNat) →
    r = min (q.stamp - m).toNat 2000000000 →
    ∃ (u : State) (d : VChan), exec (.pulseQualifiedEdge l o) s = .next u ∧ d = u.vwa.chans.get n ∧
      d.phase = .running ∧ d.trev = some r ∧ d.lastMarker = some q.stamp ∧ d.held = c.held ∧
      d.deadline = some (q.stamp + BitVec.ofNat 32 (2 * r)) ∧
      (c.phase = .timing →
        d.state = c.state ∧ d.table = c.table ∧ d.acc = c.acc ∧ d.sync = c.sync ∧ d.resid = c.resid ∧
        d.completed = c.completed ∧ d.serial = c.serial ∧ d.alert = c.alert ∧ d.danger = c.danger ∧
        d.release = c.release) ∧
      (c.phase = .running →
        d.completed = min (c.completed + 1) 64 ∧ d.serial = (c.serial + 1) % 65536 ∧ d.acc = revAccClear ∧
        (binsRight s.vwa = true →
          (∀ (i : Nat) (avg sum : Int) (count : Nat), c.table[i]? = some avg → c.acc.sums[i]? = some sum →
            c.acc.counts[i]? = some count →
            d.table[i]? = some (if count = 0 then avg else avg + Int.tdiv (Int.tdiv sum count - avg) (2 ^ p.w))) ∧
          (∀ x ∈ d.table, ∀ y ∈ d.table, x - y ≤ (d.sync : Int)) ∧
          (∃ x ∈ d.table, ∃ y ∈ d.table, x - y = (d.sync : Int)) ∧ d.table.length = 64) ∧
        (c.acc.total = 0 → d.resid = 0) ∧
        (0 < c.acc.total → d.resid ^ 2 ≤ c.acc.sumSq / c.acc.total ∧
          c.acc.sumSq / c.acc.total < (d.resid + 1) ^ 2) ∧
        (c.state = .learning → d.alert = 0 ∧ d.danger = 0 ∧ d.release = 0 ∧
          d.state = (if 2 ^ p.w ≤ min (c.completed + 1) 64 then .normal else .learning)) ∧
        (∀ a e rel : Nat,
          a = (if p.syncAlert ≤ d.sync ∨ p.residAlert ≤ d.resid then min (c.alert + 1) 64 else 0) →
          e = (if p.syncDanger ≤ d.sync ∨ p.residDanger ≤ d.resid then min (c.danger + 1) 64 else 0) →
          (c.state = .normal → d.alert = a ∧ d.danger = e ∧ d.release = 0 ∧
            d.state = (if p.nDanger ≤ e then .danger else if p.nAlert ≤ a then .alert else .normal)) ∧
          (c.state = .alert →
            rel = (if d.sync < p.syncAlert * 7 / 8 ∧ d.resid < p.residAlert * 7 / 8 then min (c.release + 1) 64
                   else 0) →
            d.alert = a ∧ d.danger = e ∧
            d.state = (if p.nDanger ≤ e then .danger else if p.nRelease ≤ rel then .normal else .alert) ∧
            d.release = (if p.nDanger ≤ e ∨ p.nRelease ≤ rel then 0 else rel)) ∧
          (c.state = .danger →
            rel = (if d.sync < p.syncDanger * 7 / 8 ∧ d.resid < p.residDanger * 7 / 8 then min (c.release + 1) 64
                   else 0) →
            d.alert = a ∧ d.danger = e ∧ d.state = (if p.nRelease ≤ rel then .alert else .danger) ∧
            d.release = (if p.nRelease ≤ rel then 0 else rel))) ∧
        d.contribution = (if d.state = .danger then 3 else if d.state = .alert then (s.set.action n).alertLevel
                          else 0) ∧
        d.dangerCond = ((s.set.action n).dangerTrip && decide (d.state = .danger)) ∧
        (c.dangerCond = false → d.state = .danger → (s.set.action n).dangerTrip = true →
          .vibDanger n ∈ u.pru.view ∧ latchedActive (.vibDanger n) u.pru = true) ∧
        (c.dangerCond = true → d.state ≠ .danger → .vibDanger n ∉ u.pru.view) ∧
        (d.state ≠ c.state → .channel ∈ u.links.m.notices))

/-- Tier 2. EXT_TRIP becomes active: the condition holds and, of a class other than W, the cause is latched; with
class B and no episode ACTIVE the TRIP line is asserted and the drive is TRIPPED with CONTACTOR released. It becomes
inactive: the condition is clear and nothing else changes (R154, R130, R144, R147). -/
def Obligations.ExtTripIsTaken : Prop :=
  ∀ (o : Sched) (s : State) (c : Candidate), s.pru.ext.cand = some c →
    (c.level = true → s.set.classInForce .extTrip ≠ .w →
      ∃ u, exec (.extTripQualified o) s = .next u ∧ u.now = c.stamp + 2000#32 ∧ u.pru.ext = ⟨true, none⟩ ∧
        u.pru.extCond = true ∧ .extTrip ∈ u.pru.view ∧ latchedActive .extTrip u.pru = true ∧
        (s.set.classInForce .extTrip = .b → s.pru.active = false →
          u.pru.trip = true ∧ u.pru.cls = some .b ∧ u.pru.firstOut = some .extTrip ∧ u.dsq.drive = .tripped ∧
          u.dsq.contactor = false ∧ u.dsq.wait = .none ∧
          (s.dsq.drive ≠ .tripped → u.dsq.enable = false ∧ u.dsq.auxEn = false)) ∧
        u.msy = s.msy ∧ u.meu = s.meu) ∧
    (c.level = false → exec (.extTripQualified o) s = .next { s with
      now := c.stamp + 2000#32,
      pru := { s.pru with ext := ⟨false, none⟩, extCond := false, view := s.pru.view.filter (· ≠ .extTrip),
                          warnings := s.pru.warnings.filter (· ≠ .extTrip) } })

/-- Tier 2. Two reports of classes other than W that reach the protection unit together are each taken whole, in
either order: the episode is ACTIVE after both, with the same latched set, the same class and the same TRIP line in
both orders. From CLEAR the first taken is the first-out, and the class is the stronger of the two (R144, R145, R148).
-/
def Obligations.ReportsInEitherOrderLatchTheSame : Prop :=
  ∀ (o : Sched) (j k : Cause) (m n : Period) (s u v : State), settingsRight s.set = true → j ≠ k →
    s.set.classInForce j ≠ .w → s.set.classInForce k ≠ .w →
    u = takeReport o k n (takeReport o j m s) → v = takeReport o j m (takeReport o k n s) →
    u.pru.active = true ∧ v.pru.active = true ∧ u.pru.latched = v.pru.latched ∧ u.pru.cls = v.pru.cls ∧
    u.pru.trip = v.pru.trip ∧ latchedActive j u.pru = true ∧ latchedActive k u.pru = true ∧
    (s.pru.active = true → u.pru.firstOut = s.pru.firstOut ∧ v.pru.firstOut = s.pru.firstOut) ∧
    (s.pru.active = false → u.pru.firstOut = some j ∧ v.pru.firstOut = some k ∧
      u.pru.cls = some (if stronger (s.set.classInForce k) (s.set.classInForce j) then s.set.classInForce k
                        else s.set.classInForce j))

/-- Tier 2. The reception table of R193, byte by byte and state by state, up to the check bytes: SYNC starts a frame,
a length outside 2 to 250 discards it, the body is taken byte by byte, the first check byte is kept, and a second that
does not make the check discards the frame; a framing error and the gap timer discard it too. A low stretch gives one
framing error, and so do it and those that follow it before the line has been high for a bit time; the receiver takes
a byte or a further framing error only of a start bit before which the line was high for a bit time, nine to ten bit
times before the stop bit is found, and a further error only of a stretch that began as late; a stretch at release is
free of that (R191). The break timer runs over the stretch that the line is in (`stretchAt`), one that gives no
framing error too, and no longer. At the instant at which it reaches 100,000 ticks the link is reset: HUNT, no request
waiting, no reply, what is being sent of a reply cut at the end of the byte being sent, the notice set {RESTARTED}
with the attention line asserted, and the station's read cursor none; the other links and every other block stay as
they are (R177, R197). A shorter stretch resets nothing, nor does a line at rest or a break that has been served; a
new stretch is a new break. That the gap timer passes at exactly 10,000 ticks is the model's reading (log entry 22,
DEDUCED). How the commands tell the lines is the model's reading (log entries 4, 16 and 18). -/
def Obligations.ReceptionAndBreak : Prop :=
  (∀ (k : Station) (o : Sched) (s : State) (l : Link) (t : Tick) (v : Byte)
    (becomes : Link → Host.Outcome State Fault Refusal), l = s.links.get k →
    (becomes = fun x => .next { s with now := t, links := s.links.put k x }) →
    (heard s.rate t l = true → (∀ g, l.gap = some g → (t - g).toNat ≤ 10000) →
      (l.rx = .hunt → v ≠ 0xE7#8 → exec (.rxByte k v t o) s = becomes { l with low := none }) ∧
      (l.rx = .hunt → v = 0xE7#8 →
        exec (.rxByte k v t o) s = becomes { l with low := none, rx := .length, gap := some t }) ∧
      (l.rx = .length → (v.toNat < 2 ∨ 250 < v.toNat) →
        exec (.rxByte k v t o) s = becomes { l with low := none, rx := .hunt, gap := none }) ∧
      (l.rx = .length → 2 ≤ v.toNat → v.toNat ≤ 250 →
        exec (.rxByte k v t o) s = becomes { l with low := none, rx := .body v.toNat [], gap := some t }) ∧
      (∀ (len : Nat) (got : List Byte), l.rx = .body len got →
        exec (.rxByte k v t o) s = becomes { l with
          low := none, gap := some t,
          rx := if got.length + 1 < len then .body len (got ++ [v]) else .check (got ++ [v]) none }) ∧
      (∀ body : List Byte, l.rx = .check body none →
        exec (.rxByte k v t o) s = becomes { l with low := none, rx := .check body (some v), gap := some t }) ∧
      (∀ (body : List Byte) (hi : Byte), l.rx = .check body (some hi) →
        crc (BitVec.ofNat 8 body.length :: body) ≠ hi ++ v →
        exec (.rxByte k v t o) s = becomes { l with low := none, rx := .hunt, gap := none })) ∧
    (heard s.rate t l = false → exec (.rxByte k v t o) s = .next s) ∧
    (∀ (low : LowRun) (bit : Nat) (fits : Prop), bit = (match s.rate with | .r500k => 20 | .r1M => 10 | .r2M => 5) →
      (fits ↔ (t - low.span.start).toNat < low.span.length ∧ (t - low.span.start).toNat ≤ 10 * bit ∧
        ∀ d ∈ low.dips, 0 < d.high ∧ d.high < bit) →
      (¬ fits → exec (.rxFramingError k low t) s = .next s) ∧
      (fits → l.low = none → exec (.rxFramingError k low t) s =
        becomes { l with low := some { run := low, error := true, served := false }, rx := .hunt, gap := none }) ∧
      ∀ (w : LowLine) (ago all : Nat), fits → l.low = some w → ago = (t - w.run.span.start).toNat →
        all = w.run.span.length + (w.run.dips.map (fun d => d.high + d.low)).sum →
        (ago < w.run.span.length → w.error = false → w.served = false → exec (.rxFramingError k low t) s =
          becomes { l with low := some { w with run := { w.run with dips := low.dips }, error := true },
                           rx := .hunt, gap := none }) ∧
        (ago < w.run.span.length → w.error = true ∨ w.served = true →
          exec (.rxFramingError k low t) s = .next s) ∧
        (w.run.span.length ≤ ago →
          (heard s.rate t l = true → all + (if w.error then bit else 1) + (t - low.span.start).toNat ≤ ago →
            exec (.rxFramingError k low t) s =
              becomes { l with low := some { run := low, error := true, served := false }, rx := .hunt, gap := none }) ∧
          (heard s.rate t l = false ∨ ago < all + (if w.error then bit else 1) + (t - low.span.start).toNat →
            exec (.rxFramingError k low t) s = .next s))) ∧
    (∀ g : Tick, l.gap = some g → t = g + 10000#32 →
      exec (.gapTimeout k) s = becomes { l with rx := .hunt, gap := none })) ∧
  (∀ (rate : LinkRate) (t : Tick) (l : Link) (bit : Nat), bit = (match rate with | .r500k => 20 | .r1M => 10 | .r2M => 5) →
    (heard rate t l = false ↔ ∃ w, l.low = some w ∧ (t - w.run.span.start).toNat <
      w.run.span.length + (w.run.dips.map (fun d => d.high + d.low)).sum +
        (if w.error then 10 else if w.served then 9 else 0) * bit)) ∧
  (∀ (t : Tick) (w : LowLine), (w.run.dips = [] → stretchAt t w = w) ∧
    ∀ (d : Dip) (ds : List Dip), w.run.dips = d :: ds →
      ((t - w.run.span.start).toNat < w.run.span.length + d.high → stretchAt t w = w) ∧
      (w.run.span.length + d.high ≤ (t - w.run.span.start).toNat → stretchAt t w = stretchAt t { w with
        run := { span := { start := w.run.span.start + BitVec.ofNat 32 (w.run.span.length + d.high), length := d.low },
                 dips := ds },
        served := false })) ∧
  ∀ (k : Station) (t : Tick) (s : State) (bt : Nat),
    bt = (match s.rate with | .r500k => 200 | .r1M => 100 | .r2M => 50) →
    (∀ w x : LowLine, (s.links.get k).low = some w → x = stretchAt t w →
      (x.served = false → 100000 ≤ x.run.span.length → t = x.run.span.start + 100000#32 →
        exec (.linkReset k t) s = .next { s with
          now := t
          rcu := { s.rcu with cursors := s.rcu.cursors.put k none }
          links := s.links.put k
                     { rx := .hunt, gap := none, low := some { x with served := true }, waiting := none, reply := none,
                       cut := (s.links.get k).reply.map (fun r => { r with
                         frame := r.frame.take (min ((t - r.started).toNat / bt) r.frame.length + 1) }),
                       notices := [.restarted], attention := true } }) ∧
      (t ≠ x.run.span.start + 100000#32 ∨ x.run.span.length < 100000 ∨ x.served = true →
        exec (.linkReset k t) s = .next s)) ∧
    ((s.links.get k).low = none → exec (.linkReset k t) s = .next s)

/-- Tier 2. A request command on a link that is sending a reply becomes the waiting request where there is none and is
discarded where there is one; a frame whose second check byte makes its check is the request command of its body; the
end of a reply leaves the link free and takes the waiting request as its command (R192, R193, R194). That a request's
row is its arrival on its link, and so waits or is discarded there, is the model's reading (log entry 9, DEDUCED). A
request whose KIND is not allowed on its link, or names none, is answered UNKNOWN, and one of each of the twenty
KINDs, on a link that allows it, whose payload has another length than the KIND fixes (PUT SETTING: fewer than two
bytes) MALFORMED; the reply carries the status alone, and nothing but the link changes (R195, R196). -/
def Obligations.RequestsQueueAndForeignOnes : Prop :=
  ((∀ (c : Instr) (k : Station) (t : Tick) (r : Request) (o : Sched) (s : State) (rp : Reply),
    commandRequest c = some (k, t, r, o) → (s.links.get k).reply = some rp →
    ((s.links.get k).waiting = none →
      exec c s = .next { s with now := t, links := s.links.put k { s.links.get k with waiting := some r } }) ∧
    (∀ w, (s.links.get k).waiting = some w → exec c s = .next { s with now := t })) ∧
  (∀ (c : Instr) (k : Station) (t : Tick) (r : Request) (o : Sched) (s : State) (v hi : Byte),
    commandRequest c = some (k, t, r, o) → heard s.rate t (s.links.get k) = true →
    (∀ g, (s.links.get k).gap = some g → (t - g).toNat ≤ 10000) →
    (s.links.get k).rx = .check (r.kind :: r.tag :: r.payload) (some hi) →
    crc (BitVec.ofNat 8 (r.payload.length + 2) :: r.kind :: r.tag :: r.payload) = hi ++ v →
    exec (.rxByte k v t o) s =
      exec c { s with links := s.links.put k { s.links.get k with rx := .hunt, gap := none, low := none } }) ∧
  ∀ (k : Station) (o : Sched) (s : State) (rp : Reply) (e : Tick), (s.links.get k).reply = some rp →
    e = rp.started + BitVec.ofNat 32
      (rp.frame.length * (match s.rate with | .r500k => 200 | .r1M => 100 | .r2M => 50)) →
    ((s.links.get k).waiting = none → exec (.replySent k o) s =
      .next { s with now := e, links := s.links.put k { s.links.get k with reply := none } }) ∧
    (∀ (c : Instr) (r : Request), commandRequest c = some (k, e, r, o) → (s.links.get k).waiting = some r →
      exec (.replySent k o) s =
        exec c { s with links := s.links.put k { s.links.get k with reply := none, waiting := none } })) ∧
  (∀ (c : Instr) (k : Station) (t : Tick) (r : Request) (o : Sched) (s : State),
    commandRequest c = some (k, t, r, o) → (s.links.get k).reply = none →
    (r.kind = 0x0A#8 ∧ k = .p ∨ 0x10#8 ≤ r.kind ∧ r.kind ≤ 0x14#8 ∧ k ≠ .c ∨
     0x20#8 ≤ r.kind ∧ r.kind ≤ 0x23#8 ∧ k ≠ .p ∨ r.kind = 0x30#8 ∧ k ≠ .m) →
    exec c s = .next (startReply k [r.kind, r.tag, 0x04#8] { s with now := t })) ∧
  ∀ (k : Station) (g : Byte) (pl : List Byte) (kd : Byte) (o : Sched) (s : State) (body : List Byte) (lo hi : Byte)
    (t : Tick) (answer : Byte → Host.Outcome State Fault Refusal),
    body = kd :: g :: pl → (s.links.get k).reply = none → heard s.rate t (s.links.get k) = true → (s.links.get k).rx = .check body (some hi) →
    (∀ x, (s.links.get k).gap = some x → (t - x).toNat ≤ 10000) →
    crc (BitVec.ofNat 8 body.length :: body) = hi ++ lo →
    (answer = fun status => .next (startReply k [kd, g, status] { s with
      now := t, links := s.links.put k { s.links.get k with rx := .hunt, gap := none, low := none } })) →
    (kd ∉ [0x01#8, 0x02#8, 0x03#8, 0x04#8, 0x05#8, 0x06#8, 0x07#8, 0x08#8, 0x09#8, 0x0A#8, 0x10#8, 0x11#8, 0x12#8,
           0x13#8, 0x14#8, 0x20#8, 0x21#8, 0x22#8, 0x23#8, 0x30#8] →
      exec (.rxByte k lo t o) s = answer 0x04#8) ∧
    (∀ n : Nat, (kd, n) ∈ ([(0x01#8, 0), (0x02#8, 0), (0x03#8, 2), (0x05#8, 0), (0x06#8, 2), (0x07#8, 0), (0x08#8, 1),
        (0x09#8, 2)] : List (Byte × Nat)) → pl.length ≠ n → exec (.rxByte k lo t o) s = answer 0x05#8) ∧
    (kd = 0x04#8 → pl.length < 2 → exec (.rxByte k lo t o) s = answer 0x05#8) ∧
    (kd = 0x0A#8 → k ≠ .p → pl ≠ [] → exec (.rxByte k lo t o) s = answer 0x05#8) ∧
    (∀ n : Nat, (kd, n) ∈ ([(0x10#8, 2), (0x11#8, 0), (0x12#8, 0), (0x13#8, 0), (0x14#8, 0)] : List (Byte × Nat)) →
      k = .c → pl.length ≠ n → exec (.rxByte k lo t o) s = answer 0x05#8) ∧
    (0x20#8 ≤ kd → kd ≤ 0x23#8 → k = .p → pl ≠ [] → exec (.rxByte k lo t o) s = answer 0x05#8) ∧
    (kd = 0x30#8 → k = .m → pl.length ≠ 1 → exec (.rxByte k lo t o) s = answer 0x05#8)

/-- Tier 2. The lines of a link (R191, R196, R197). A byte is a low start bit, its eight bits least significant first
and a high stop bit; a receiver reads back bytes sent without a pause, and reads a byte whose stop bit is low as one
framing error, however long the line then stays low; once the line has been high for one bit time it takes the bytes
that follow. A reply in transmission stands on the transmit line bit by bit, byte after byte without a pause, and the
line is high after its last stop bit, and with no reply. A link reset cuts it at the end of the byte being sent: the
line carries that byte to its end, and is high from there; at the boundary of two bytes the byte being sent is the one
that begins, which is the model's reading (log entry 18, DEDUCED). Spans are shorter than 2^32 ticks, as a frame of
254 bytes is. -/
def Obligations.BytesStandOnTheLine : Prop :=
  (∀ v : Byte, lineBits v = [false, v.getLsbD 0, v.getLsbD 1, v.getLsbD 2, v.getLsbD 3, v.getLsbD 4, v.getLsbD 5,
      v.getLsbD 6, v.getLsbD 7, true] ∧
    ∀ n m : Nat, listen .looking (List.replicate m true ++ (lineBits v).take 9 ++ List.replicate (n + 1) false) =
        [.framingError] ∧
      ∀ vs : List Byte, listen .looking ((lineBits v).take 9 ++ List.replicate (n + 1) false ++
        true :: vs.flatMap lineBits) = .framingError :: vs.map .byte) ∧
  (∀ vs : List Byte, listen .looking (vs.flatMap lineBits) = vs.map .byte) ∧
  [LinkRate.r500k, .r1M, .r2M].map (fun k => (bitTicks k, byteTicks k)) = [(20, 200), (10, 100), (5, 50)] ∧
  (∀ (rate : LinkRate) (l : Link) (r : Reply) (k j d : Nat) (v : Byte), l.reply = some r → r.frame.length ≤ 254 →
    r.frame[k]? = some v → j < 10 → d < bitTicks rate →
    txLevel rate (r.started + BitVec.ofNat 32 (k * byteTicks rate + j * bitTicks rate + d)) l = (lineBits v).getD j true) ∧
  (∀ (rate : LinkRate) (t : Tick) (l : Link) (r : Reply), l.reply = some r →
    r.frame.length * byteTicks rate ≤ (t - r.started).toNat → txLevel rate t l = true) ∧
  (∀ (rate : LinkRate) (t : Tick) (l : Link), l.reply = none → l.cut = none → txLevel rate t l = true) ∧
  ∀ (rate : LinkRate) (t u : Tick) (l : Link) (r : Reply), l.reply = some r → r.frame.length ≤ 254 →
    txLevel rate u (linkResetTaken rate t l) =
      (if (u - r.started).toNat / byteTicks rate ≤ (t - r.started).toNat / byteTicks rate
       then txLevel rate u l else true)

/-- Tier 2. The requests that only read answer OK with the payloads whose layouts LayoutsOfChapterEleven pins, and
change nothing but the link: STATUS, LIST RECORDS, CHANNEL, TABLE and GET SETTING; an operand outside its range is
MALFORMED (R114, R115, R174, R189, R201). -/
def Obligations.ReadingRequests : Prop :=
  ∀ (k : Station) (g : Byte) (t : Tick) (o : Sched) (s : State), (s.links.get k).reply = none →
    exec (.status k g t o) s = .next (startReply k (0x01#8 :: g :: 0x00#8 :: statusBytes s) { s with now := t }) ∧
    exec (.listRecords k g t o) s =
      .next (startReply k (0x05#8 :: g :: 0x00#8 :: listBytes k s.rcu) { s with now := t }) ∧
    (∀ n : Byte, exec (.channel k g n t o) s = .next (startReply k (match n.toNat with
      | 0 => 0x08#8 :: g :: 0x00#8 :: channelBytes s.vwa.level s.vwa.chans.c0
      | 1 => 0x08#8 :: g :: 0x00#8 :: channelBytes s.vwa.level s.vwa.chans.c1
      | 2 => 0x08#8 :: g :: 0x00#8 :: channelBytes s.vwa.level s.vwa.chans.c2
      | 3 => 0x08#8 :: g :: 0x00#8 :: channelBytes s.vwa.level s.vwa.chans.c3
      | _ => [0x08#8, g, 0x05#8]) { s with now := t })) ∧
    (∀ (n h : Byte) (q : Chan), (n.toNat = (match q with | .c0 => 0 | .c1 => 1 | .c2 => 2 | .c3 => 3)) → h.toNat ≤ 1 →
      exec (.table k g n h t o) s = .next (startReply k (0x09#8 :: g :: 0x00#8 :: n :: h ::
        (be 2 (s.vwa.chans.get q).serial ++ be 1 (s.vwa.chans.get q).completed ++
         (((s.vwa.chans.get q).table.drop (32 * h.toNat)).take 32).flatMap (beInt 2))) { s with now := t })) ∧
    (∀ n h : Byte, 3 < n.toNat ∨ 1 < h.toNat →
      exec (.table k g n h t o) s = .next (startReply k [0x09#8, g, 0x05#8] { s with now := t })) ∧
    (∀ (id : BitVec 16) (r : SetSpec) (v : SetValue) (w : Option SetValue), id ≠ 0#16 →
      catalogue[id.toNat - 1]? = some r → s.set.active[id.toNat - 1]? = some v →
      s.set.staged[id.toNat - 1]? = some w → exec (.getSetting k g id t o) s =
        .next (startReply k (0x03#8 :: g :: 0x00#8 :: settingBytes id.toNat r v w) { s with now := t })) ∧
    (∀ id : BitVec 16, id = 0#16 ∨ 87 < id.toNat → exec (.getSetting k g id t o) s =
      .next (startReply k (0x03#8 :: g :: 0x05#8 :: be 2 id.toNat) { s with now := t }))

/-- Tier 2. The layouts of chapter 11 (R202, R203): numbers high byte first; sets of causes and notices bit by bit;
and for each payload its length and each field at its offset: STATUS 61 bytes (R201), the history entry 36, the record
header 63 with a fault capture of 10, CHANNEL 19 (R114), TABLE 69 (R115), a setting of its form (R189), LIST RECORDS a
count, of one byte by the model's reading (log entry 26, DEDUCED), and six bytes for each occupied slot in slot order
(R174); and the codes of section 11.1 one by one, those of the fault responses of settings 29 and 30, of the class
settings and of NO and YES by the active value that holds them. That a bit of STATUS' packed bytes and of the flags
bytes is 0 where the layout gives it no meaning is the model's choice (log entry 27, DESIGN CHOICE). A record header is
of its length with at most eight subsequent causes, and TABLE with 64 bins, as every step keeps them. A subsequent cause's offset is its period number less the trigger's (R167), and less 0 while the trigger
is not set, which R180 states of a record sealed so by the reset line and which is the model's reading of one still
FILLING (log entry 19, DEDUCED). -/
def Obligations.LayoutsOfChapterEleven : Prop :=
  (∀ n : Nat, be 2 n = [BitVec.ofNat 8 (n / 256), BitVec.ofNat 8 n] ∧
    be 4 n = [BitVec.ofNat 8 (n / 16777216), BitVec.ofNat 8 (n / 65536), BitVec.ofNat 8 (n / 256), BitVec.ofNat 8 n]) ∧
  (∀ (ks : List Cause) (k : Cause), (causeSetBytes ks).length = 5 ∧
    ((causeSetBytes ks).reverse.getD ((causeCode k - 1) / 8) 0#8).getLsbD ((causeCode k - 1) % 8) = ks.contains k) ∧
  (∀ (ks : List Notice) (k : Notice), (noticeSetBytes ks).length = 2 ∧
    ((noticeSetBytes ks).reverse.getD (noticeCode k / 8) 0#8).getLsbD (noticeCode k % 8) = ks.contains k) ∧
  (∀ s : State, (statusBytes s).length = 61 ∧
    ∀ p ∈ ([(0, be 4 s.msy.period.toNat), (4, be 1 (syncCode s.msy.sync)), (5, be 4 s.msy.pEst),
            (9, be 1 s.msy.missCount), (10, be 1 (driveCode s.dsq.drive)), (11, be 1 (exitCode s.dsq.exit)),
            (13, be 1 (convCode s.cca.state)), (14, be 1 (convCode s.ccb.state)), (15, be 2 s.stu.s),
            (17, be 2 s.stu.motors.a.speed), (19, be 2 s.stu.motors.b.speed), (21, be 2 s.stu.rr),
            (25, be 2 s.stu.tenv), (27, be 2 s.stu.motors.a.iref), (29, be 2 s.stu.motors.b.iref)] ++
           [(31, beInt 2 s.stu.trim), (23, beInt 2 s.stu.td), (33, beInt 4 s.stu.motors.a.q),
            (37, beInt 4 s.stu.motors.b.q), (41, be 1 (thermalCode s.stu.motors.a.thermal)),
            (42, be 1 (thermalCode s.stu.motors.b.thermal)), (43, be 1 s.vwa.level),
            (44, [if s.pru.active then 1#8 else 0#8]), (45, be 1 ((s.pru.cls.map classCode).getD 0)),
            (46, be 1 ((s.pru.firstOut.map causeCode).getD 0)), (47, be 2 (s.pru.record.getD 0)),
            (49, causeSetBytes (s.pru.latched.map Latch.kind)), (54, causeSetBytes s.pru.warnings),
            (59, [if s.pru.permit then 1#8 else 0#8])] : List (Nat × List Byte)),
      ((statusBytes s).drop p.1).take p.2.length = p.2) ∧
  (∀ s : State, ((statusBytes s).getD 12 0#8).toNat =
      (if s.dsq.lossCond then 1 else 0) + (if s.dsq.decayCond then 2 else 0) ∧
    ((statusBytes s).getD 60 0#8).toNat =
      (if s.dsq.contactor then 1 else 0) + (if s.dsq.auxEn then 2 else 0) + (if s.pru.trip then 4 else 0) +
      (if s.rcu.mark then 8 else 0) + (if s.pru.ext.level then 16 else 0) + (if s.cca.fault then 32 else 0) +
      (if s.ccb.fault then 64 else 0)) ∧
  (∀ e : Entry, (entryBytes e).length = 36 ∧
    ∀ p ∈ ([(0, be 4 e.period.toNat), (4, be 2 e.s), (6, be 2 e.rr), (8, beInt 2 e.td), (10, be 2 e.tenv),
            (12, be 2 e.irefA), (14, be 2 e.irefB), (16, be 2 e.meanA), (18, be 2 e.meanB), (20, be 2 e.angleA),
            (22, be 2 e.angleB), (24, beInt 2 e.trim), (26, be 1 (16 * convCode e.convA + convCode e.convB)),
            (27, be 1 (driveCode e.drive)), (28, be 1 (syncCode e.sync)), (29, be 1 e.level)] ++
           [(30, beInt 1 e.coarseA), (31, beInt 1 e.coarseB),
            (32, be 1 (16 * chanCode e.chans.c0 + chanCode e.chans.c1)),
            (33, be 1 (16 * chanCode e.chans.c2 + chanCode e.chans.c3)), (34, be 1 e.warningCount),
            (35, be 1 e.latchedCount)] : List (Nat × List Byte)),
      ((entryBytes e).drop p.1).take p.2.length = p.2) ∧
  (∀ r : Record, r.subs.length ≤ 8 → (headerBytes r).length = 63 ∧
    (∀ p ∈ ([(0, be 2 r.number), (2, be 1 (recordKindCode r.kind)), (3, be 1 ((r.requester.map stationCode).getD 0)),
             (4, be 4 (r.trigger.getD 0#32).toNat), (8, be 1 ((r.firstOut.map causeCode).getD 0)),
             (9, be 1 ((r.cls.map classCode).getD 0)), (10, be 1 r.pre), (11, be 1 r.post),
             (12, be 1 r.entries.length), (13, be 1 (driveCode r.driveAt)), (14, [if r.truncated then 1#8 else 0#8]),
             (15, stationSetByte r.interest), (16, stationSetByte r.marks), (17, be 1 r.subs.length),
             (18, be 1 r.overflow), (43, captureBytes r.capA), (53, captureBytes r.capB)] : List (Nat × List Byte)),
      ((headerBytes r).drop p.1).take p.2.length = p.2) ∧
    (∀ (i : Nat) (c : SubCause), r.subs[i]? = some c → ((headerBytes r).drop (19 + 3 * i)).take 3 =
      be 1 (causeCode c.kind) ++ be 2 (c.period - r.trigger.getD 0#32).toNat) ∧
    (∀ i : Nat, r.subs.length ≤ i → i < 8 → ((headerBytes r).drop (19 + 3 * i)).take 3 = [0#8, 0#8, 0#8])) ∧
  (∀ c : FaultCapture, captureBytes none = List.replicate 10 0#8 ∧
    captureBytes (some c) = 0x01#8 :: (be 4 c.period.toNat ++ be 1 (thyNumber c.thy) ++ be 2 c.angle ++ be 2 c.current)) ∧
  (∀ (level : Nat) (c : VChan), channelBytes level c =
    be 1 (chanCode c.state) ++ be 1 (phaseCode c.phase) ++ be 2 c.sync ++ be 2 c.resid ++ be 1 c.alert ++
    be 1 c.danger ++ be 1 c.release ++ be 1 c.completed ++ be 2 c.serial ++ be 4 (c.trev.getD 0) ++
    be 1 c.contribution ++ be 1 ((c.held.map (fun h => chanCode h.state)).getD 255) ++ be 1 level ∧
    (channelBytes level c).length = 19) ∧
  (∀ (n h : Nat) (c : VChan), chanBinsRight c = true → h ≤ 1 → (tableBytes n h c).length = 69) ∧
  (∀ (id : Nat) (r : SetSpec) (v : SetValue), valueInRange r.form v = true →
    settingBytes id r v none = be 2 id ++ be 1 (stationCode r.owner) ++ be 1 (applyCode r.cls) ++ valueBytes v ++
      [0#8] ++ List.replicate (valueBytes v).length 0#8 ∧
    ∀ w : SetValue, settingBytes id r v (some w) = be 2 id ++ be 1 (stationCode r.owner) ++ be 1 (applyCode r.cls) ++
      valueBytes v ++ [1#8] ++ valueBytes w) ∧
  (∀ (v : Nat) (p : Profile) (a : Action), valueBytes (.num v) = be 4 v ∧ valueBytes (.code v) = be 1 v ∧
    valueBytes (.profile p) = be 1 (markerCode p.marker) ++ be 1 p.w ++ be 2 p.syncAlert ++ be 2 p.syncDanger ++
      be 2 p.residAlert ++ be 2 p.residDanger ++ be 1 p.nAlert ++ be 1 p.nDanger ++ be 1 p.nRelease ∧
    valueBytes (.action a) = be 1 a.alertLevel ++ [if a.dangerTrip then 0#8 else 1#8] ++ be 1 a.faultLevel) ∧
  (∀ z : SetTable,
    (∀ q ∈ [(Side.a, 28), (.b, 29)], ∀ p ∈ [(0, Response.skip), (1, .retardResume), (2, .retardBlock), (3, .block)],
      z.active[q.2]? = some (.code p.1) → z.response q.1 = p.2) ∧
    (∀ q ∈ ([(.overcurrent .a, 77), (.overcurrent .b, 77), (.overvoltage .a, 78), (.overvoltage .b, 78),
             (.pinionMismatch, 79), (.overspeed, 80), (.stall, 81), (.permitLost, 82), (.extTrip, 83)] :
              List (Cause × Nat)),
      ∀ p ∈ [(1, Class.b), (2, .f), (3, .s), (4, .w)],
        z.active[q.2]? = some (.code p.1) → z.classInForce q.1 = p.2) ∧
    (∀ p ∈ [(0, false), (1, true)],
      (z.active[61]? = some (.code p.1) → z.singleDrive = p.2) ∧
      (z.active[86]? = some (.code p.1) → z.takeTrips = p.2))) ∧
  (∀ (st : Station) (u : Rcu) (items : List (List Byte)),
    items = ([(.s0, 0#8), (.s1, 1#8), (.s2, 2#8), (.s3, 3#8), (.s4, 4#8), (.s5, 5#8)] : List (SlotIx × Byte)).filterMap
      (fun p => (u.slots.get p.1).map (fun r => p.2 :: (be 2 r.number ++
        [match r.kind with | .trip => 1#8 | .manual => 2#8, if r.isSealed then 2#8 else 1#8,
         (if r.interest.has st then 1#8 else 0#8) + (if r.marks.has st then 2#8 else 0#8)]))) →
    listBytes st u = BitVec.ofNat 8 items.length :: items.flatten ∧ (listBytes st u).length = 1 + 6 * items.length) ∧
  [.blocked, .closing, .starting, .run, .stopping, .coast, .tripStop, .tripped, .aux].map driveCode =
    [0, 1, 2, 3, 4, 5, 6, 7, 8] ∧
  [.seek, .locking, .locked, .holdover].map syncCode = [0, 1, 2, 3] ∧
  [.off, .firing, .retard, .held].map convCode = [0, 1, 2, 3] ∧
  [.paused, .learning, .normal, .alert, .danger, .unreferenced, .sensorFault].map chanCode = [0, 1, 2, 3, 4, 5, 6] ∧
  [.none, .relocked, .timeout, .stop, .trip].map exitCode = [0, 1, 2, 3, 4] ∧
  [Class.b, .f, .s, .w].map classCode = [1, 2, 3, 4] ∧
  [Notice.restarted, .driveState, .episode, .recordSealed, .recordLost, .warning, .derate, .channel, .applied,
    .holdExpired].map noticeCode = [0, 1, 2, 3, 4, 5, 6, 7, 8, 9] ∧
  [.cool, .warm, .hot].map thermalCode = [0, 1, 2] ∧ [.wait, .timing, .running].map phaseCode = [0, 1, 2] ∧
  [.trip, .manual].map recordKindCode = [1, 2] ∧ [Station.c, .p, .m].map stationCode = [1, 2, 3] ∧
  [.live, .stopped, .revolution].map applyCode = [0, 1, 2] ∧ [Marker.ka, .kb, .ks].map markerCode = [0, 1, 2] ∧
  [.ok, .clamped, .refused, .notOwner, .unknown, .malformed, .stale, .noRecord].map statusCode =
    [0, 1, 2, 3, 4, 5, 6, 7] ∧
  [Reason.wrongState, .releasing, .noPermit, .notLocked, .episodeActive, .notReady, .notStill, .noEpisode,
    .notStopped, .causePresent, .recordUnread, .recording].map reasonCode = [1, 2, 3, 4, 5, 6, 7, 8, 9, 10, 11, 12] ∧
  [Cause.convFault .a, .convFault .b, .convTransient .a, .convTransient .b, .overcurrent .a, .overcurrent .b,
    .overvoltage .a, .overvoltage .b, .currentSensor .a, .currentSensor .b, .mainsSequence, .mainsLoss,
    .pinionMismatch, .speedSensor .a, .speedSensor .b, .overspeed, .stall, .breakawayFailed, .converterLost,
    .thermalHot .a, .thermalHot .b, .vibDanger .c0, .vibDanger .c1, .vibDanger .c2, .vibDanger .c3, .vibSensor .c0,
    .vibSensor .c1, .vibSensor .c2, .vibSensor .c3, .permitLost, .stationTrip, .extTrip, .currentNotDecaying,
    .referenceHold].map causeCode = (List.range 34).map (· + 1)

/-- Tier 2. NOTICES (R200): the reply is OK and carries the station's notice set as it stands when the request is
taken, the set is then emptied and the attention line released; nothing else changes. -/
def Obligations.NoticesAreHandedOver : Prop :=
  ∀ (k : Station) (g : Byte) (t : Tick) (o : Sched) (s : State), (s.links.get k).reply = none →
    exec (.notices k g t o) s = .next (startReply k
      (0x02#8 :: g :: 0x00#8 :: noticeSetBytes (s.links.get k).notices)
      { s with now := t, links := s.links.put k { s.links.get k with notices := [], attention := false } })

/-- Tier 2. PUT SETTING by the owner stages the value and leaves the active values. Of a numeric setting, any 32-bit
number is brought into the setting's range; of a profile and of an action each numeric field is brought into its own
range; the answer is CLAMPED where that changed something, else OK, with the value staged. A code of an enumerated
setting is staged as it is. A profile, one equal to the value it replaces too, ends the watch's note of its channel
(R182, R186; `woken`, the model's own, log entry 25). A code outside an enumeration, alone or in a record (the marker, the danger action), a
value of another length than its form's, and an unknown identifier are MALFORMED, and another station is answered
NOT_OWNER, with nothing changed (R181, R182, R117, R203). -/
def Obligations.SettingsAreStagedInRange : Prop :=
  ∀ (k : Station) (g : Byte) (id : BitVec 16) (t : Tick) (o : Sched) (s : State)
    (stages : Byte → List Byte → SetValue → Host.Outcome State Fault Refusal) (within : Nat → Nat → Nat → Nat)
    (two : Byte → Byte → Nat), (s.links.get k).reply = none →
    (stages = fun status bytes v => .next (startReply k (0x04#8 :: g :: status :: (be 2 id.toNat ++ bytes))
      { s with now := t, set := { s.set with staged := s.set.staged.set (id.toNat - 1) (some v) } })) →
    (within = fun lo hi n => if n < lo then lo else if hi < n then hi else n) →
    (two = fun x y => x.toNat * 256 + y.toNat) →
    (∀ (r : SetSpec) (lo hi d m : Nat) (n : BitVec 32), id ≠ 0#16 → catalogue[id.toNat - 1]? = some r → r.owner = k →
      r.form = .num lo hi d → m = (if n.toNat < lo then lo else if hi < n.toNat then hi else n.toNat) →
      exec (.putSetting k g id (be 4 n.toNat) t o) s = .next (startReply k
        (0x04#8 :: g :: (if m = n.toNat then 0x00#8 else 0x01#8) :: (be 2 id.toNat ++ be 4 m))
        { s with now := t,
                 set := { s.set with staged := s.set.staged.set (id.toNat - 1) (some (.num m)) } }) ∧
      lo ≤ m ∧ m ≤ hi) ∧
    (∀ (r : SetSpec) (codes : List Nat) (d : Nat) (v : Byte), id ≠ 0#16 → catalogue[id.toNat - 1]? = some r →
      r.owner = k → r.form = .code codes d → v.toNat ∈ codes →
      exec (.putSetting k g id [v] t o) s = stages 0x00#8 [v] (.code v.toNat)) ∧
    (∀ (r : SetSpec) (n : Chan) (d p q : Profile) (b0 b1 b2 b3 b4 b5 b6 b7 b8 b9 b10 b11 b12 : Byte), id ≠ 0#16 →
      catalogue[id.toNat - 1]? = some r → r.owner = k → r.form = .profile d → id.toNat = profileId n → b0.toNat ≤ 2 →
      p = { marker := (match b0.toNat with | 0 => .ka | 1 => .kb | _ => .ks), w := b1.toNat, syncAlert := two b2 b3,
            syncDanger := two b4 b5, residAlert := two b6 b7, residDanger := two b8 b9, nAlert := b10.toNat,
            nDanger := b11.toNat, nRelease := b12.toNat } →
      q = { marker := p.marker, w := within 0 6 p.w, syncAlert := within 0 8190 p.syncAlert,
            syncDanger := within 0 8190 p.syncDanger, residAlert := within 0 8190 p.residAlert,
            residDanger := within 0 8190 p.residDanger, nAlert := within 1 16 p.nAlert,
            nDanger := within 1 16 p.nDanger, nRelease := within 1 64 p.nRelease } →
      exec (.putSetting k g id [b0, b1, b2, b3, b4, b5, b6, b7, b8, b9, b10, b11, b12] t o) s =
        .next (startReply k
          (0x04#8 :: g :: (if p = q then 0x00#8 else 0x01#8) :: (be 2 id.toNat ++
            b0 :: (be 1 q.w ++ be 2 q.syncAlert ++ be 2 q.syncDanger ++ be 2 q.residAlert ++ be 2 q.residDanger ++
                   be 1 q.nAlert ++ be 1 q.nDanger ++ be 1 q.nRelease)))
          { s with now := t, set := { s.set with staged := s.set.staged.set (id.toNat - 1) (some (.profile q)) },
                   vwa := { s.vwa with woken := s.vwa.woken.put n none } })) ∧
    (∀ (r : SetSpec) (d : Profile), catalogue[id.toNat - 1]? = some r → r.form = .profile d → id ≠ 0#16 →
      ∃ n : Chan, id.toNat = profileId n) ∧
    (∀ (r : SetSpec) (d a c : Action) (b0 b1 b2 : Byte), id ≠ 0#16 →
      catalogue[id.toNat - 1]? = some r → r.owner = k → r.form = .action d → b1.toNat ≤ 1 →
      a = { alertLevel := b0.toNat, dangerTrip := decide (b1 = 0#8), faultLevel := b2.toNat } →
      c = { alertLevel := within 1 3 a.alertLevel, dangerTrip := a.dangerTrip, faultLevel := within 0 3 a.faultLevel } →
      exec (.putSetting k g id [b0, b1, b2] t o) s =
        stages (if a = c then 0x00#8 else 0x01#8) (be 1 c.alertLevel ++ [b1] ++ be 1 c.faultLevel) (.action c)) ∧
    (∀ (r : SetSpec) (v : List Byte), v.length ≤ 246 → id ≠ 0#16 → catalogue[id.toNat - 1]? = some r → r.owner ≠ k →
      exec (.putSetting k g id v t o) s =
        .next (startReply k (0x04#8 :: g :: 0x03#8 :: be 2 id.toNat) { s with now := t })) ∧
    (∀ v : List Byte, v.length ≤ 246 →
      id = 0#16 ∨ 87 < id.toNat ∨ (∃ r lo hi d, catalogue[id.toNat - 1]? = some r ∧ r.owner = k ∧
        r.form = .num lo hi d ∧ v.length ≠ 4) ∨
       (∃ r codes d, catalogue[id.toNat - 1]? = some r ∧ r.owner = k ∧ r.form = .code codes d ∧
         ∀ x : Byte, x.toNat ∈ codes → v ≠ [x]) ∨
       (∃ r d, catalogue[id.toNat - 1]? = some r ∧ r.owner = k ∧ r.form = .profile d ∧
         (v.length ≠ 13 ∨ ∃ x : Byte, v[0]? = some x ∧ 2 < x.toNat)) ∨
       (∃ r d, catalogue[id.toNat - 1]? = some r ∧ r.owner = k ∧ r.form = .action d ∧
         (v.length ≠ 3 ∨ ∃ x : Byte, v[1]? = some x ∧ 1 < x.toNat)) →
      exec (.putSetting k g id v t o) s =
        .next (startReply k (0x04#8 :: g :: 0x05#8 :: be 2 id.toNat) { s with now := t }))

/-- Tier 2. Staged values become active at their apply points, each with APPLIED to its owner (R184, R185, R186,
R188). At the settings table's taking of a period event: every LIVE one, and every STOPPED one where the table has the
drive in a stopped state; a STOPPED one otherwise stays staged while the drive does not move, and a REVOLUTION one
stays. At an entry into BLOCKED (STOP in CLOSING): every STOPPED one and no other. A profile: at the watch's taking of
a period event in PAUSED, UNREFERENCED or SENSOR_FAULT, and not in an evaluating state but for one that the speeds of
that period event have brought it to from PAUSED with that profile staged and not written again since; so a channel in
PAUSED as the period event comes takes it whether the watch or the speed and torque unit takes the event first, as R190
says of the first event after a reset, and by the model's reading at any other (log entry 25, DEDUCED); and at the completion of a revolution, where a change of the
marker or the weight clears the table (R98, R112, R113). -/
def Obligations.StagedSettingsBecomeActive : Prop :=
  (∀ (o : Sched) (n : Period) (t : Tick) (later : List Taking) (f : Flow) (s u : State) (i : Nat) (r : SetSpec)
    (v : SetValue) (w : Option SetValue),
    s = f.state → settingsRight s.set = true → s.set.periodTaken ≠ n → catalogue[i]? = some r →
    s.set.active[i]? = some v → s.set.staged[i]? = some w → u = (takePeriod o n t .set later f).state →
    (r.cls = .live ∨ (r.cls = .stopped ∧
        (s.set.driveView = .blocked ∨ s.set.driveView = .tripped ∨ s.set.driveView = .aux)) →
      u.set.active[i]? = some (w.getD v) ∧ u.set.staged[i]? = some none ∧
      (w ≠ none → .applied ∈ (u.links.get r.owner).notices)) ∧
    (r.cls = .revolution ∨ (r.cls = .stopped ∧ s.set.driveView ≠ .blocked ∧ s.set.driveView ≠ .tripped ∧
        s.set.driveView ≠ .aux ∧ u.dsq.drive = s.dsq.drive) →
      u.set.active[i]? = some v ∧ u.set.staged[i]? = some w)) ∧
  (∀ (g : Byte) (t : Tick) (o : Sched) (s : State) (i : Nat) (r : SetSpec) (v : SetValue) (w : Option SetValue),
    s.links.c.reply = none → settingsRight s.set = true → s.dsq.drive = .closing → catalogue[i]? = some r →
    s.set.active[i]? = some v → s.set.staged[i]? = some w →
    ∃ u, exec (.stop .c g t o) s = .next u ∧ u.set.driveView = .blocked ∧
      (r.cls = .stopped → u.set.active[i]? = some (w.getD v) ∧ u.set.staged[i]? = some none ∧
        (w ≠ none → .applied ∈ (u.links.get r.owner).notices)) ∧
      (r.cls ≠ .stopped → u.set.active[i]? = some v ∧ u.set.staged[i]? = some w)) ∧
  (∀ (o : Sched) (n : Period) (t : Tick) (later : List Taking) (f : Flow) (s u : State) (i : Chan) (p : Profile),
    s = f.state → settingsRight s.set = true → s.vwa.periodTaken ≠ n → stagedProfile i s.set = some (.profile p) →
    u = (takePeriod o n t .vwa later f).state →
    ((s.vwa.chans.get i).state = .paused ∨ (s.vwa.chans.get i).state = .unreferenced ∨
     (s.vwa.chans.get i).state = .sensorFault ∨ s.vwa.woken.get i = some (.profile p) →
      u.set.profile i = p ∧ stagedProfile i u.set = none ∧ .applied ∈ u.links.m.notices) ∧
    (evaluating (s.vwa.chans.get i).state = true → s.vwa.woken.get i ≠ some (.profile p) →
      u.set.profile i = s.set.profile i ∧ stagedProfile i u.set = some (.profile p)) ∧
    ∀ j : Chan, u.vwa.woken.get j = none) ∧
  (∀ (o : Sched) (n : Period) (t : Tick) (later later' : List Taking) (f : Flow) (s u : State) (i : Chan) (p : Profile),
    s = f.state → settingsRight s.set = true → s.vwa.periodTaken ≠ n → s.stu.periodTaken ≠ n →
    (s.vwa.chans.get i).state = .paused → stagedProfile i s.set = some (.profile p) →
    u = (takePeriod o n t .vwa later' (takePeriod o n t .stu later f)).state ∨
    u = (takePeriod o n t .stu later' (takePeriod o n t .vwa later f)).state →
    u.set.profile i = p ∧ stagedProfile i u.set = none ∧ .applied ∈ u.links.m.notices) ∧
  ∀ (l : PulseLine) (k : Marker) (o : Sched) (s : State) (q : Candidate) (n : Chan) (c : VChan) (m : Tick)
    (p p' : Profile), settingsRight s.set = true → (s.meu.line l).cand = some q → q.level = true →
    l = (match k with | .ka => .ka | .kb => .kb | .ks => .ks) → c = s.vwa.chans.get n →
    p = s.set.profile n → p.marker = k → stagedProfile n s.set = some (.profile p') →
    evaluating c.state = true → c.phase ≠ .wait → c.lastMarker = some m →
    (∀ e, c.trev = some e → e / 2 ≤ (q.stamp - m).toNat) →
    ∃ u, exec (.pulseQualifiedEdge l o) s = .next u ∧ u.set.profile n = p' ∧ stagedProfile n u.set = none ∧
      .applied ∈ u.links.m.notices ∧
      (p'.marker ≠ p.marker ∨ p'.w ≠ p.w →
        (u.vwa.chans.get n).table = List.replicate 64 0 ∧ (u.vwa.chans.get n).completed = 0 ∧
        (u.vwa.chans.get n).state = .learning ∧ (u.vwa.chans.get n).phase = .wait ∧
        (u.vwa.chans.get n).trev =
          (if p'.marker ≠ p.marker then none else some (min (q.stamp - m).toNat 2000000000)))

/-- Tier 2. The hand-over at the settings table's taking of a period event (R187). In a stopped state: an apply of an
angle limit withdraws the pending firings outside the new limits (R65); an apply of Tbreak, Tgear or a derate factor
forms the envelope again (R79, R82), with the derate level before the channel actions of the same hand-over act, for
the manual names no order of the consumers and the model's is fixed (log entry 13, DESIGN CHOICE); an apply of Qmax or
Qwarn brings the accounts down to the new Qmax and takes the thermal states again (R83, R84), HOT down to the lesser
of Qwarn and Qmax by the model's reading (log entry 12, DEDUCED). In every state: an apply of a channel's action takes
its contribution and VIB_DANGER_n again (R108, R109, R113): the condition that comes to hold is in the view and is
latched, unless its report waits for its place in the order of the takings, and one that ends leaves the view; an
apply of the stall class S while STALL is a warning takes it out of the warnings and latches it at the apply, whatever
the order of the takings (R141). Where no VIB_DANGER_n can be reported at the same apply before it, STALL opens an
episode as its first-out, of class S, or is added to the latched set of the ACTIVE one, whose other entries stay, and
to its FILLING record as a subsequent cause with the period number of the apply (R144, R145, R167). -/
def Obligations.HandOverActsAtTheApply : Prop :=
  ∀ (o : Sched) (n : Period) (t : Tick) (later : List Taking) (f : Flow) (s u : State),
    s = f.state → settingsRight s.set = true → s.set.periodTaken ≠ n → s.set.driveView = s.dsq.drive →
    u = (takePeriod o n t .set later f).state →
    (s.dsq.drive = .blocked ∨ s.dsq.drive = .tripped ∨ s.dsq.drive = .aux →
      ((∃ v, s.set.staged[20]? = some (some v) ∨ s.set.staged[21]? = some (some v)) →
        ∀ x : Side, (u.conv x).firings = (s.conv x).firings.filter
          (fun g => decide (u.set.num 21 ≤ g.angle) && decide (g.angle ≤ u.set.num 22))) ∧
      ((∃ (j : Nat) (v : SetValue), 48 ≤ j ∧ j ≤ 52 ∧ s.set.staged[j]? = some (some v)) →
        u.stu.tenv = (match s.stu.window with | none => u.set.num 50 | some _ => u.set.num 49) *
          (match s.vwa.level with | 0 => 256 | 1 => u.set.num 51 | 2 => u.set.num 52 | _ => u.set.num 53) / 256) ∧
      ((∃ v, s.set.staged[57]? = some (some v) ∨ s.set.staged[58]? = some (some v)) →
        ∀ x : Side, (u.stu.motors.get x).q = min (s.stu.motors.get x).q (u.set.num 58) ∧
          (u.stu.motors.get x).thermal = (if (s.stu.motors.get x).thermal = .hot
            then (if (min (u.set.num 59) (u.set.num 58) : Nat) ≤ (u.stu.motors.get x).q then .hot else .cool)
            else if (u.stu.motors.get x).q = u.set.num 58 then .hot
            else if (u.set.num 59 : Int) ≤ (u.stu.motors.get x).q then .warm else .cool) ∧
          (u.stu.motors.get x).hotCond = decide ((u.stu.motors.get x).thermal = .hot))) ∧
    (∀ (i : Chan) (a : Action), s.set.staged[66 + chanNumber i]? = some (some (.action a)) →
      (u.vwa.chans.get i).state = (s.vwa.chans.get i).state ∧
      (u.vwa.chans.get i).contribution = (match (s.vwa.chans.get i).state with
        | .paused | .learning | .normal => 0
        | .alert => a.alertLevel
        | .danger => 3
        | .unreferenced => (match (s.vwa.chans.get i).held with | none => 0 | some h => h.contribution)
        | .sensorFault => a.faultLevel) ∧
      (u.vwa.chans.get i).dangerCond = (a.dangerTrip && inDanger (s.vwa.chans.get i)) ∧
      ((s.vwa.chans.get i).dangerCond = false → a.dangerTrip = true → inDanger (s.vwa.chans.get i) = true →
        .vibDanger i ∈ u.pru.view ∧
        (Taking.report (.vibDanger i) ∉ later → latchedActive (.vibDanger i) u.pru = true)) ∧
      ((s.vwa.chans.get i).dangerCond = true → a.dangerTrip = false → .vibDanger i ∉ u.pru.view)) ∧
    (s.set.staged[81]? = some (some (.code 3)) → .stall ∈ s.pru.warnings →
      .stall ∉ u.pru.warnings ∧ latchedActive .stall u.pru = true ∧
      ((∀ i : Chan, s.set.staged[66 + chanNumber i]? = some none ∨ Taking.report (.vibDanger i) ∈ later) →
        (s.pru.active = false → u.pru.firstOut = some .stall ∧ u.pru.cls = some .s ∧
          u.pru.latched = [{ kind := .stall, cls := .s }]) ∧
        (s.pru.active = true → (∀ e ∈ s.pru.latched, e.kind ≠ .stall) →
          (tripRight s.pru = true →
            ∀ e : Latch, e ∈ u.pru.latched ↔ e ∈ s.pru.latched ∨ e = { kind := .stall, cls := .s }) ∧
          ∀ (i : SlotIx) (r : Record), s.rcu.filling = some i → s.rcu.slots.get i = some r →
            s.rcu.pinned = some r.number → r.subs.length < 8 →
            u.rcu.slots.get i = some { r with subs := r.subs ++ [{ kind := .stall, period := n }] })))

/-- Tier 2. OPEN RECORD of a number held by one slot sets the station's read cursor at its start and answers OK with
the record's state and header; a number that no slot holds is NO_RECORD and 0 is MALFORMED, and the cursor stays
(R175). NEXT CHUNK: without a cursor NO_RECORD; with a cursor whose slot is FREE or holds another record STALE, and
the cursor is none; otherwise at most six entries from the cursor's position, which moves past them, with the flag of
more to come while the record is FILLING. At the end of a SEALED record the chunk carries the end flag, the station's
read mark is added, and a record that is not pinned and that its whole interest set has then read becomes FREE (R172,
R176). That the other bits of the flags byte are 0 is the model's choice (log entry 27, DESIGN CHOICE). -/
def Obligations.RecordsAreOpenedAndRead : Prop :=
  (∀ (k : Station) (g : Byte) (n : BitVec 16) (t : Tick) (o : Sched) (s : State), (s.links.get k).reply = none →
    (∀ (i : SlotIx) (r : Record), n ≠ 0#16 → s.rcu.slots.get i = some r → r.number = n.toNat →
      (∀ (j : SlotIx) (q : Record), s.rcu.slots.get j = some q → q.number = n.toNat → j = i) →
      exec (.openRecord k g n t o) s = .next (startReply k
        (0x06#8 :: g :: 0x00#8 :: (if r.isSealed then 0x02#8 else 0x01#8) :: headerBytes r)
        { s with now := t,
                 rcu := { s.rcu with
                   cursors := s.rcu.cursors.put k (some { number := n.toNat, slot := i, pos := 0 }) } })) ∧
    (n ≠ 0#16 → (∀ (j : SlotIx) (q : Record), s.rcu.slots.get j = some q → q.number ≠ n.toNat) →
      exec (.openRecord k g n t o) s = .next (startReply k [0x06#8, g, 0x07#8] { s with now := t })) ∧
    (n = 0#16 → exec (.openRecord k g n t o) s = .next (startReply k [0x06#8, g, 0x05#8] { s with now := t }))) ∧
  ∀ (k : Station) (g : Byte) (t : Tick) (o : Sched) (s : State), (s.links.get k).reply = none →
    (s.rcu.cursors.get k = none →
      exec (.nextChunk k g t o) s = .next (startReply k [0x07#8, g, 0x07#8] { s with now := t })) ∧
    ∀ q : Cursor, s.rcu.cursors.get k = some q →
      ((∀ r, s.rcu.slots.get q.slot = some r → r.number ≠ q.number) →
        exec (.nextChunk k g t o) s = .next (startReply k [0x07#8, g, 0x06#8]
          { s with now := t, rcu := { s.rcu with cursors := s.rcu.cursors.put k none } })) ∧
      ∀ (r : Record) (d : Nat), s.rcu.slots.get q.slot = some r → r.number = q.number →
        d = min 6 (r.entries.length - q.pos) →
        ((r.isSealed = false ∨ q.pos + d ≠ r.entries.length) →
          exec (.nextChunk k g t o) s = .next (startReply k
            (0x07#8 :: g :: 0x00#8 :: (be 2 r.number ++ be 1 q.pos ++ be 1 d ++ [if r.isSealed then 0x00#8 else 0x01#8] ++
              ((r.entries.drop q.pos).take 6).flatMap entryBytes))
            { s with now := t,
                     rcu := { s.rcu with
                       cursors := s.rcu.cursors.put k (some { q with pos := q.pos + d }) } })) ∧
        (r.isSealed = true → q.pos + d = r.entries.length →
          ∃ u, exec (.nextChunk k g t o) s = .next u ∧
            u.rcu.cursors = s.rcu.cursors.put k (some { q with pos := q.pos + d }) ∧
            u.rcu.slots.get q.slot =
              (if s.rcu.pinned ≠ some r.number ∧ r.interest.within (r.marks.add k) = true then none
               else some { r with marks := r.marks.add k }) ∧
            (∀ j : SlotIx, j ≠ q.slot → u.rcu.slots.get j = s.rcu.slots.get j) ∧
            u.rcu.ring = s.rcu.ring ∧ u.rcu.filling = s.rcu.filling ∧ u.rcu.counter = s.rcu.counter ∧
            u.links = (startReply k (0x07#8 :: g :: 0x00#8 :: (be 2 r.number ++ be 1 q.pos ++ be 1 d ++ [0x02#8] ++
              ((r.entries.drop q.pos).take 6).flatMap entryBytes)) { s with now := t }).links ∧
            { u with rcu := s.rcu, links := s.links } = { s with now := t })

/-- Tier 2. CAPTURE while a record is FILLING is REFUSED with RECORDING. Otherwise, with a slot to be had and entries
in the ring, it starts a MANUAL record of the requesting station in that slot with the counter's number, the newest
entry and up to the pre count before it, and the latest fault capture of each converter within its span; with more to
come the record is FILLING and RECORD_MARK asserted, and with nothing to come it is SEALED at once; the counter moves
to the next number that no record holds, 65535 giving 1 (R161, R164, R165, R166, R168, R169). With the ring empty the
record waits for its trigger entry. The record unit's taking of a period event appends the entry to the FILLING
record, and the first entry of one that waited sets its trigger and its captures (R165, R166, R168). RECORD_SEALED:
the taking of the coming period event, where the record then holds its pre count plus its post count, seals it,
releases RECORD_MARK and notices the interest set; nothing else changes (R159, R166). This command is the block's
taking of the coming period event (the model's reading, log entries 7 and 11); period numbers are compared as plain
numbers (log entry 19, DEDUCED). -/
def Obligations.RecordsAreCapturedAndSealed : Prop :=
  (∀ (k : Station) (g : Byte) (t : Tick) (o : Sched) (s : State), (s.links.get k).reply = none → k ≠ .p →
    (∀ i : SlotIx, s.rcu.filling = some i →
      exec (.capture k g t o) s = .next (startReply k [0x0A#8, g, 0x02#8, 0x0C#8] { s with now := t })) ∧
    (∀ i : SlotIx, s.rcu.filling = none → chooseSlot s.rcu = some i → s.rcu.ring = [] →
      ∃ (u : State) (r : Record), exec (.capture k g t o) s = .next u ∧ u.rcu.slots.get i = some r ∧
        r.number = s.rcu.counter ∧ r.kind = .manual ∧ r.requester = some k ∧ r.pre = 0 ∧
        r.post = min s.set.postCount 192 ∧ r.entries = [] ∧ r.trigger = none ∧ r.capA = none ∧ r.capB = none ∧
        r.isSealed = false ∧ u.rcu.filling = some i ∧ u.rcu.mark = true) ∧
    ∀ (i : SlotIx) (e : Entry) (es : List Entry) (p q : Nat) (after : Nat → Nat),
      (after = fun n => if 65535 ≤ n then 1 else n + 1) → s.rcu.filling = none → chooseSlot s.rcu = some i →
      s.rcu.ring = e :: es → p = min s.set.preCount es.length → q = min s.set.postCount (192 - p) →
      ∃ (u : State) (r : Record), exec (.capture k g t o) s = .next u ∧ u.rcu.slots.get i = some r ∧
        (∀ j : SlotIx, j ≠ i → u.rcu.slots.get j = s.rcu.slots.get j) ∧
        r.number = s.rcu.counter ∧ r.kind = .manual ∧ r.requester = some k ∧ r.driveAt = s.rcu.driveView ∧
        r.pre = p ∧ r.post = q ∧ r.entries = s.rcu.ring.drop (es.length - p) ∧
        r.trigger = ((e :: es).getLast?).map Entry.period ∧ r.marks = StationSet.empty ∧
        r.interest = { c := decide (k = .c), p := false, m := decide (k = .m) } ∧ r.subs = [] ∧
        (∀ f, r.entries.head? = some f →
          r.capA = s.rcu.latest.a.filter (fun c => decide (f.period.toNat ≤ c.period.toNat)) ∧
          r.capB = s.rcu.latest.b.filter (fun c => decide (f.period.toNat ≤ c.period.toNat))) ∧
        (∃ n : Nat, n ≤ 6 ∧ u.rcu.counter = after^[n + 1] s.rcu.counter ∧
          (∀ (h : SlotIx) (v : Record), u.rcu.slots.get h = some v → v.number ≠ u.rcu.counter) ∧
          ∀ d : Nat, d < n → ∃ (h : SlotIx) (v : Record), u.rcu.slots.get h = some v ∧
            v.number = after^[d + 1] s.rcu.counter) ∧
        r.truncated = false ∧ r.isSealed = decide (q ≤ 1) ∧
        u.rcu.filling = (if q ≤ 1 then none else some i) ∧ u.rcu.mark = decide (1 < q) ∧
        u.rcu.ring = s.rcu.ring ∧ u.rcu.pinned = s.rcu.pinned ∧ u.rcu.age.getLast? = some i ∧
        (u.links.get k).reply = some { frame := frameOf (0x0A#8 :: g :: 0x00#8 :: be 2 s.rcu.counter), started := t } ∧
        { u with rcu := s.rcu, links := s.links } = { s with now := t }) ∧
  (∀ (o : Sched) (n : Period) (t : Tick) (later : List Taking) (f : Flow) (s u : State) (i : SlotIx) (r : Record),
    s = f.state → s.rcu.periodTaken ≠ n → s.rcu.filling = some i → s.rcu.slots.get i = some r →
    u = (takePeriod o n t .rcu later f).state →
    (∀ j : SlotIx, j ≠ i → u.rcu.slots.get j = s.rcu.slots.get j) ∧
    u.rcu.filling = (if r.pre + r.post ≤ r.entries.length + 1 then none else some i) ∧
    u.rcu.slots.get i = some { r with
      entries := r.entries ++ [s.entry n], isSealed := decide (r.pre + r.post ≤ r.entries.length + 1),
      trigger := (if r.entries = [] then some n else r.trigger),
      capA := (if r.entries = [] then r.capA.or (s.rcu.latest.a.filter (fun c => decide (n.toNat ≤ c.period.toNat)))
               else r.capA),
      capB := (if r.entries = [] then r.capB.or (s.rcu.latest.b.filter (fun c => decide (n.toNat ≤ c.period.toNat)))
               else r.capB) }) ∧
  ∀ (s : State) (t : Tick) (i : SlotIx) (r : Record), nextPeriodEvent s.msy = some t →
    s.rcu.periodTaken ≠ s.msy.period + 1#32 → s.rcu.filling = some i → s.rcu.slots.get i = some r →
    r.entries ≠ [] → r.pre + r.post ≤ r.entries.length + 1 →
    ∃ u, exec .recordSealed s = .next u ∧
      { u with rcu := s.rcu, links := s.links } = { s with now := t, issued := s.edgeNoted t } ∧
      u.rcu = { s.rcu with
        ring := (s.rcu.ring ++ [s.entry (s.msy.period + 1#32)]).drop (s.rcu.ring.length + 1 - 256),
        slots := s.rcu.slots.put i (some { r with
          entries := r.entries ++ [s.entry (s.msy.period + 1#32)], isSealed := true }),
        filling := none, mark := false, periodTaken := s.msy.period + 1#32 } ∧
      (∀ k : Station, r.interest.has k = true →
        .recordSealed ∈ (u.links.get k).notices ∧ (u.links.get k).attention = true) ∧
      (∀ k : Station, r.interest.has k = false → u.links.get k = s.links.get k)

/-- Tier 2. The slot of a new record (R164): the lowest-numbered FREE slot; with none, the oldest slot with a SEALED
MANUAL record; with neither, the newest with a SEALED TRIP record that is not pinned. A subsequent cause of the ACTIVE
episode, here a station's TRIP, joins the header of its record while that is FILLING, and past the eighth counts as
overflow up to 255 (R167). A TRIP trigger (R161, R163, R165, R166, R168, R170, R171), here that of a station's TRIP
with no episode ACTIVE: a MANUAL record then FILLING is sealed TRUNCATED with the entries it holds and RECORD_SEALED
raised to its interest set; the new record takes the slot, the counter's number, the first-out, the class, the drive
state as last published to the protection unit, the interest set of R163, the newest entry with up to the pre count
before it and the latest fault captures within its span, and is pinned; the counter moves on as for a MANUAL one;
RECORD_LOST goes to each station of the overwritten record's interest set that had not read it. Period numbers are
compared as plain numbers (log entry 19, DEDUCED). -/
def Obligations.SlotsAndTripRecords : Prop :=
  (∀ (u : Rcu) (i : SlotIx),
    (u.slots.get i = none → (∀ j : SlotIx, slotNumber j < slotNumber i → u.slots.get j ≠ none) →
      chooseSlot u = some i) ∧
    ((∀ j : SlotIx, u.slots.get j ≠ none) →
      (∀ old new : List SlotIx, u.age = old ++ i :: new → sealedManual u i = true →
        (∀ j ∈ old, sealedManual u j = false) → chooseSlot u = some i) ∧
      (∀ old new : List SlotIx, u.age = old ++ i :: new → (∀ j ∈ u.age, sealedManual u j = false) →
        sealedTrip u i = true → (∀ j ∈ new, sealedTrip u j = false) → chooseSlot u = some i))) ∧
  (∀ (u : Rcu) (i : SlotIx) (r : Record), u.slots.get i = some r →
    sealedManual u i = (r.isSealed && decide (r.kind = .manual)) ∧
    sealedTrip u i = (r.isSealed && decide (r.kind = .trip) && decide (u.pinned ≠ some r.number))) ∧
  (∀ (g : Byte) (t : Tick) (o : Sched) (s : State) (i : SlotIx) (r : Record), s.links.p.reply = none →
    settingsRight s.set = true → s.pru.active = true → (∀ e ∈ s.pru.latched, e.kind ≠ .stationTrip) →
    s.rcu.filling = some i → s.rcu.slots.get i = some r →
    ∃ u, exec (.trip .p g t o) s = .next u ∧ latchedActive .stationTrip u.pru = true ∧
      (∀ j : SlotIx, j ≠ i → u.rcu.slots.get j = s.rcu.slots.get j) ∧
      (s.rcu.pinned ≠ some r.number → u.rcu.slots.get i = some r) ∧
      (s.rcu.pinned = some r.number → u.rcu.slots.get i = some (if r.subs.length < 8
        then { r with subs := r.subs ++ [{ kind := .stationTrip, period := s.pru.periodTaken }] }
        else { r with overflow := min (r.overflow + 1) 255 }))) ∧
  ∀ (g : Byte) (t : Tick) (o : Sched) (s : State) (w : Rcu) (j : SlotIx) (e : Entry) (es : List Entry) (p q : Nat)
    (after : Nat → Nat), (after = fun n => if 65535 ≤ n then 1 else n + 1) → s.links.p.reply = none → s.pru.active = false →
    ((s.rcu.filling = none ∧ w = s.rcu) ∨
     ∃ i r, s.rcu.filling = some i ∧ s.rcu.slots.get i = some r ∧ r.kind = .manual ∧
       w = { s.rcu with slots := s.rcu.slots.put i (some { r with isSealed := true, truncated := true }),
                        filling := none, mark := false }) →
    chooseSlot w = some j → s.rcu.ring = e :: es → p = min s.set.preCount es.length →
    q = min s.set.postCount (192 - p) →
    ∃ (u : State) (v : Record), exec (.trip .p g t o) s = .next u ∧ u.rcu.slots.get j = some v ∧
      (∀ h : SlotIx, h ≠ j → u.rcu.slots.get h = w.slots.get h) ∧
      v.number = s.rcu.counter ∧ v.kind = .trip ∧ v.requester = none ∧ v.firstOut = some .stationTrip ∧
      v.cls = some .b ∧ v.driveAt = s.pru.driveView ∧
      v.interest = { c := true, p := true, m := decide (s.set.num 87 = 1) } ∧ v.marks = StationSet.empty ∧
      v.pre = p ∧ v.post = q ∧ v.entries = s.rcu.ring.drop (es.length - p) ∧
      v.trigger = ((e :: es).getLast?).map Entry.period ∧ v.subs = [] ∧ v.overflow = 0 ∧ v.truncated = false ∧
      (∀ f, v.entries.head? = some f →
        v.capA = s.rcu.latest.a.filter (fun c => decide (f.period.toNat ≤ c.period.toNat)) ∧
        v.capB = s.rcu.latest.b.filter (fun c => decide (f.period.toNat ≤ c.period.toNat))) ∧
      (∃ n : Nat, n ≤ 6 ∧ u.rcu.counter = after^[n + 1] s.rcu.counter ∧
        (∀ (h : SlotIx) (r : Record), u.rcu.slots.get h = some r → r.number ≠ u.rcu.counter) ∧
        ∀ d : Nat, d < n → ∃ (h : SlotIx) (r : Record), u.rcu.slots.get h = some r ∧
          r.number = after^[d + 1] s.rcu.counter) ∧
      v.isSealed = decide (q ≤ 1) ∧ u.rcu.filling = (if q ≤ 1 then none else some j) ∧ u.rcu.mark = decide (1 < q) ∧
      u.rcu.pinned = some s.rcu.counter ∧ u.pru.record = some s.rcu.counter ∧ u.rcu.age.getLast? = some j ∧
      (∀ (i : SlotIx) (r : Record) (k : Station), s.rcu.filling = some i → s.rcu.slots.get i = some r →
        r.interest.has k = true → .recordSealed ∈ (u.links.get k).notices) ∧
      (∀ (r : Record) (k : Station), w.slots.get j = some r → r.interest.has k = true → r.marks.has k = false →
        .recordLost ∈ (u.links.get k).notices)

/-- Tier 2. START tests its six conditions in order and is REFUSED with the reason of the first that fails, with
nothing changed. With all six met it asserts CONTACTOR, sets the close count to 0 and enters CLOSING with the enable
withdrawn and the share trim 0, answers OK and notices C and P of the drive state; the converters stay as they are
(R88, R119, R121). -/
def Obligations.StartIsTestedAndTaken : Prop :=
  (∀ (g : Byte) (t : Tick) (o : Sched) (s : State) (refused : Byte → Host.Outcome State Fault Refusal)
    (readyA readyB : Prop), s.links.c.reply = none →
    (refused = fun r => .next (startReply .c [0x11#8, g, 0x02#8, r] { s with now := t })) →
    (readyA ↔ s.cca.state = .off ∧ s.cca.fault = false ∧ s.cca.faultCond = false) →
    (readyB ↔ s.ccb.state = .off ∧ s.ccb.fault = false ∧ s.ccb.faultCond = false) →
    (s.dsq.drive ≠ .blocked → exec (.start .c g t o) s = refused 0x01#8) ∧
    (s.dsq.drive = .blocked →
      (s.dsq.wait ≠ .none ∨ s.dsq.contactor = true → exec (.start .c g t o) s = refused 0x02#8) ∧
      (s.dsq.wait = .none → s.dsq.contactor = false →
        (s.pru.permit = false → exec (.start .c g t o) s = refused 0x03#8) ∧
        (s.pru.permit = true →
          (s.msy.sync ≠ .locked → exec (.start .c g t o) s = refused 0x04#8) ∧
          (s.msy.sync = .locked →
            (s.pru.active = true → exec (.start .c g t o) s = refused 0x05#8) ∧
            (s.pru.active = false → ¬ (readyA ∧ readyB) → ¬ (s.set.singleDrive = true ∧ (readyA ∨ readyB)) →
              exec (.start .c g t o) s = refused 0x06#8)))))) ∧
  ∀ (g : Byte) (t : Tick) (o : Sched) (s : State), s.links.c.reply = none → s.dsq.drive = .blocked →
    s.dsq.enable = false → s.dsq.wait = .none → s.dsq.contactor = false → s.pru.permit = true →
    s.msy.sync = .locked → s.pru.active = false →
    (convReady s.cca = true ∧ convReady s.ccb = true ∨
     s.set.singleDrive = true ∧ (convReady s.cca = true ∨ convReady s.ccb = true)) →
    ∃ u, exec (.start .c g t o) s = .next u ∧
      u.dsq = { s.dsq with drive := .closing, contactor := true, closeCount := 0, coast := .stopped } ∧
      u.stu = { s.stu with
        rr := 0, y := 0, td := 0, trim := 0,
        motors := ⟨{ s.stu.motors.a with share := 0, iref := 0 }, { s.stu.motors.b with share := 0, iref := 0 }⟩ } ∧
      u.pru = { s.pru with driveView := .closing } ∧ u.rcu = { s.rcu with driveView := .closing } ∧
      u.set = { s.set with driveView := .closing } ∧
      (u.links.c.reply = some { frame := frameOf [0x11#8, g, 0x00#8], started := t }) ∧
      .driveState ∈ u.links.c.notices ∧ .driveState ∈ u.links.p.notices ∧ u.links.m = s.links.m ∧
      u.msy = s.msy ∧ u.meu = s.meu ∧ u.cca = s.cca ∧ u.ccb = s.ccb ∧ u.vwa = s.vwa ∧ u.now = t

/-- Tier 2. STOP by drive state: CLOSING and COAST enter BLOCKED with a release wait, STARTING and RUN enter STOPPING
with the enable kept, STOPPING and BLOCKED answer OK unchanged, and TRIP_STOP, TRIPPED and AUX are REFUSED with
WRONG_STATE (R124, R128, R135). TO AUX in BLOCKED with CONTACTOR free and the kiln still asserts AUX_EN and enters
AUX; it is REFUSED otherwise, in the order of its tests. FROM AUX in AUX releases AUX_EN and enters BLOCKED, or
TRIPPED with an episode ACTIVE; elsewhere it is REFUSED (R132, R133). -/
def Obligations.StopAndAuxiliaryByDriveState : Prop :=
  (∀ (g : Byte) (t : Tick) (o : Sched) (s : State), s.links.c.reply = none →
    (s.dsq.drive = .stopping ∨ s.dsq.drive = .blocked →
      exec (.stop .c g t o) s = .next (startReply .c [0x12#8, g, 0x00#8] { s with now := t })) ∧
    (s.dsq.drive = .tripStop ∨ s.dsq.drive = .tripped ∨ s.dsq.drive = .aux →
      exec (.stop .c g t o) s = .next (startReply .c [0x12#8, g, 0x02#8, 0x01#8] { s with now := t })) ∧
    (s.dsq.drive = .starting ∨ s.dsq.drive = .run → ∃ u, exec (.stop .c g t o) s = .next u ∧
      u.dsq = { s.dsq with drive := .stopping, enable := true, coast := .stopped } ∧
      (s.dsq.enable = true → u.cca = s.cca ∧ u.ccb = s.ccb) ∧ u.stu.window = (if s.dsq.drive = .starting then none
                                                                              else s.stu.window) ∧
      u.links.c.reply = some { frame := frameOf [0x12#8, g, 0x00#8], started := t } ∧ u.msy = s.msy ∧ u.meu = s.meu) ∧
    (s.dsq.drive = .closing ∨ s.dsq.drive = .coast → s.dsq.contactor = true → s.dsq.wait = .none →
      ∃ u, exec (.stop .c g t o) s = .next u ∧
        u.dsq = { s.dsq with
          drive := .blocked, enable := false, coast := .stopped, wait := .zeroWait 0,
          exit := (if s.dsq.drive = .closing then s.dsq.exit
                   else if s.dsq.coast = .expired then .timeout else .stop) } ∧
        u.links.c.reply = some { frame := frameOf [0x12#8, g, 0x00#8], started := t } ∧ u.msy = s.msy ∧ u.meu = s.meu)) ∧
  ∀ (g : Byte) (t : Tick) (o : Sched) (s : State), s.links.c.reply = none →
    (s.dsq.drive ≠ .blocked →
      exec (.toAux .c g t o) s = .next (startReply .c [0x13#8, g, 0x02#8, 0x01#8] { s with now := t })) ∧
    (s.dsq.drive = .blocked → (s.dsq.wait ≠ .none ∨ s.dsq.contactor = true) →
      exec (.toAux .c g t o) s = .next (startReply .c [0x13#8, g, 0x02#8, 0x02#8] { s with now := t })) ∧
    (s.dsq.drive = .blocked → s.dsq.wait = .none → s.dsq.contactor = false → s.stu.s ≠ 0 →
      exec (.toAux .c g t o) s = .next (startReply .c [0x13#8, g, 0x02#8, 0x07#8] { s with now := t })) ∧
    (s.dsq.drive = .blocked → s.dsq.wait = .none → s.dsq.contactor = false → s.stu.s = 0 →
      ∃ u, exec (.toAux .c g t o) s = .next u ∧
        u.dsq = { s.dsq with drive := .aux, auxEn := true, enable := false, coast := .stopped } ∧
        u.stu.rr = 0 ∧ u.stu.td = 0 ∧ u.msy = s.msy ∧ u.meu = s.meu ∧
        u.links.c.reply = some { frame := frameOf [0x13#8, g, 0x00#8], started := t }) ∧
    (s.dsq.drive ≠ .aux →
      exec (.fromAux .c g t o) s = .next (startReply .c [0x14#8, g, 0x02#8, 0x01#8] { s with now := t })) ∧
    (s.dsq.drive = .aux → s.dsq.contactor = false →
      ∃ u, exec (.fromAux .c g t o) s = .next u ∧
        u.dsq = { s.dsq with drive := (if s.pru.active then .tripped else .blocked), auxEn := false, enable := false,
                             coast := .stopped } ∧
        u.msy = s.msy ∧ u.meu = s.meu ∧
        u.links.c.reply = some { frame := frameOf [0x14#8, g, 0x00#8], started := t })

/-- Tier 2. PERMIT makes the permit present for the permit window and clears PERMIT_LOST. WITHDRAW with the permit
absent changes nothing; with it present the permit is absent, and in a drive state that runs on it PERMIT_LOST, of a
class other than W, is latched; in BLOCKED, TRIPPED and AUX nothing is reported (R149, R151, R152). PERMIT_LAPSE: at
the protection unit's taking of the period event at which the permit timer reaches 0 the permit is absent, with the
same two outcomes (R150, R152). A PERMIT_LOST of class S taken at a WITHDRAW with no episode ACTIVE opens one of class
S, and its demand takes STARTING, RUN and STOPPING to TRIP_STOP and leaves TRIP_STOP, TRIPPED and AUX; with one ACTIVE
it sends none (R145, R146). The answer of each drive state to a demand of class S, F and B is R129's table: TRIP_STOP
keeps the enable, the converters and the ramped reference, TRIPPED withdraws the enable, stops the coast timer and
starts a release wait where CONTACTOR is asserted, and class B releases CONTACTOR and ends any wait (R120, R128, R130,
R133, R135). This command is the block's taking of the coming period event (the model's reading, log entries 7 and
11). -/
def Obligations.PermitIsGivenAndLost : Prop :=
  (∀ (g : Byte) (t : Tick) (o : Sched) (s : State), s.links.p.reply = none →
    (s.pru.lostCond = false → exec (.permit .p g t o) s = .next (startReply .p [0x20#8, g, 0x00#8]
      { s with now := t, pru := { s.pru with permit := true, permitCount := s.set.permitWindow } })) ∧
    (s.pru.lostCond = true → exec (.permit .p g t o) s = .next (startReply .p [0x20#8, g, 0x00#8]
      { s with
        now := t,
        pru := { s.pru with
          permit := true, permitCount := s.set.permitWindow, lostCond := false,
          view := s.pru.view.filter (· ≠ .permitLost), warnings := s.pru.warnings.filter (· ≠ .permitLost) } })) ∧
    (s.pru.permit = false → exec (.withdraw .p g t o) s =
      .next (startReply .p [0x21#8, g, 0x00#8] { s with now := t })) ∧
    (s.pru.permit = true →
      (s.pru.driveView = .blocked ∨ s.pru.driveView = .tripped ∨ s.pru.driveView = .aux ∨ s.pru.lostCond = true) →
      exec (.withdraw .p g t o) s = .next (startReply .p [0x21#8, g, 0x00#8]
        { s with now := t, pru := { s.pru with permit := false, permitCount := 0 } })) ∧
    (s.pru.permit = true → s.pru.driveView ≠ .blocked → s.pru.driveView ≠ .tripped → s.pru.driveView ≠ .aux →
      s.pru.lostCond = false → s.set.classInForce .permitLost ≠ .w →
      ∃ u, exec (.withdraw .p g t o) s = .next u ∧ u.now = t ∧ u.pru.permit = false ∧ u.pru.permitCount = 0 ∧
        u.pru.lostCond = true ∧ .permitLost ∈ u.pru.view ∧ latchedActive .permitLost u.pru = true ∧
        u.links.p.reply = some { frame := frameOf [0x21#8, g, 0x00#8], started := t } ∧ u.msy = s.msy ∧ u.meu = s.meu ∧
        (s.set.classInForce .permitLost = .s → s.pru.active = false →
          u.pru.cls = some .s ∧ u.pru.firstOut = some .permitLost ∧
          (s.dsq.drive = .starting ∨ s.dsq.drive = .run ∨ s.dsq.drive = .stopping → u.dsq =
            { s.dsq with drive := .tripStop, enable := true, coast := .stopped }) ∧
          (s.dsq.drive = .tripStop ∨ s.dsq.drive = .tripped ∨ s.dsq.drive = .aux → u.dsq = s.dsq)) ∧
        (s.set.classInForce .permitLost = .s → s.pru.active = true →
          (s.pru.cls = some .b ∨ s.pru.cls = some .f ∨ s.pru.cls = some .s) → u.dsq = s.dsq))) ∧
  (∀ (o : Sched) (s : State) (d : Dsq),
    d = { s.dsq with
      drive := .tripped, enable := false, coast := .stopped, auxEn := false,
      exit := (if s.dsq.drive = .coast then (if s.dsq.coast = .expired then .timeout else .trip) else s.dsq.exit),
      wait := (if s.dsq.contactor = true ∧ s.dsq.wait = .none then .zeroWait 0 else s.dsq.wait) } →
    (s.dsq.drive = .starting ∨ s.dsq.drive = .run ∨ s.dsq.drive = .stopping →
      (∃ u, demand o .s s = u ∧ u.dsq = { s.dsq with drive := .tripStop, enable := true, coast := .stopped } ∧
        (s.dsq.enable = true → u.cca = s.cca ∧ u.ccb = s.ccb) ∧ u.stu.rr = s.stu.rr ∧ u.set = { s.set with driveView := .tripStop } ∧
        u.pru = { s.pru with driveView := .tripStop } ∧ u.rcu = { s.rcu with driveView := .tripStop } ∧
        .driveState ∈ u.links.c.notices ∧ .driveState ∈ u.links.p.notices) ∧
      (demand o .f s).dsq = d) ∧
    (s.dsq.drive = .blocked ∨ s.dsq.drive = .closing ∨ s.dsq.drive = .coast →
      (demand o .s s).dsq = d ∧ (demand o .f s).dsq = d) ∧
    (s.dsq.drive = .tripStop → demand o .s s = s ∧ (demand o .f s).dsq = d) ∧
    (s.dsq.drive = .tripped ∨ s.dsq.drive = .aux → demand o .s s = s ∧ demand o .f s = s) ∧
    (s.dsq.drive = .tripped →
      demand o .b s = { s with dsq := { s.dsq with contactor := false, wait := .none } }) ∧
    (s.dsq.drive ≠ .tripped → (demand o .b s).dsq = { d with contactor := false, wait := .none })) ∧
  ∀ (o : Sched) (s : State) (t : Tick), nextPeriodEvent s.msy = some t →
    s.pru.periodTaken ≠ s.msy.period + 1#32 → s.pru.permit = true → s.pru.permitCount ≤ 1 →
    ((s.pru.driveView = .blocked ∨ s.pru.driveView = .tripped ∨ s.pru.driveView = .aux ∨ s.pru.lostCond = true) →
      exec (.permitLapse o) s = .next { s with
        now := t, issued := s.edgeNoted t,
        pru := { s.pru with permit := false, permitCount := 0, periodTaken := s.msy.period + 1#32 } }) ∧
    (s.pru.driveView ≠ .blocked → s.pru.driveView ≠ .tripped → s.pru.driveView ≠ .aux → s.pru.lostCond = false →
      s.set.classInForce .permitLost ≠ .w →
      ∃ u, exec (.permitLapse o) s = .next u ∧ u.now = t ∧ u.pru.permit = false ∧ u.pru.permitCount = 0 ∧
        u.pru.lostCond = true ∧ .permitLost ∈ u.pru.view ∧ latchedActive .permitLost u.pru = true ∧ u.msy = s.msy)

/-- Tier 2. TRIP with no episode ACTIVE opens a class B episode: STATION_TRIP is the first-out and its condition is
clear again, TRIP is asserted, CONTACTOR is released, the drive is TRIPPED, and all three stations are noticed (R129,
R130, R144, R147, R153). RESET TRIP is REFUSED by the first of its four tests that fails, with nothing changed;
CAUSE_PRESENT names the latched kind of lowest code whose condition holds, where the latched set is in code order, as
every step keeps it, and the first listed in any. Accepted, it clears the episode and releases TRIP, unpins the
record, and takes the drive from TRIPPED to BLOCKED with the contactor and a release wait in progress as they stand
(R131, R155, R156, R171). -/
def Obligations.TripIsOpenedAndReset : Prop :=
  (∀ (g : Byte) (t : Tick) (o : Sched) (s : State), s.links.p.reply = none → s.pru.active = false →
    ∃ u, exec (.trip .p g t o) s = .next u ∧ u.now = t ∧ u.pru.active = true ∧ u.pru.cls = some .b ∧
      u.pru.firstOut = some .stationTrip ∧ u.pru.latched = [{ kind := .stationTrip, cls := .b }] ∧
      u.pru.trip = true ∧ u.pru.stationCond = false ∧ .stationTrip ∉ u.pru.view ∧ u.pru.record = u.rcu.pinned ∧
      u.pru.permit = s.pru.permit ∧ u.dsq.drive = .tripped ∧ u.dsq.contactor = false ∧ u.dsq.wait = .none ∧
      (∀ k : Station, .episode ∈ (u.links.get k).notices ∧ (u.links.get k).attention = true) ∧
      u.links.p.reply = some { frame := frameOf [0x22#8, g, 0x00#8], started := t } ∧ u.msy = s.msy ∧ u.meu = s.meu) ∧
  ∀ (g : Byte) (t : Tick) (o : Sched) (s : State), s.links.p.reply = none →
    (s.pru.active = false →
      exec (.resetTrip .p g t o) s = .next (startReply .p [0x23#8, g, 0x02#8, 0x08#8] { s with now := t })) ∧
    (s.pru.active = true → s.pru.driveView ≠ .tripped →
      exec (.resetTrip .p g t o) s = .next (startReply .p [0x23#8, g, 0x02#8, 0x09#8] { s with now := t })) ∧
    (∀ (k : Cause) (before after : List Latch) (c : Sys2Proof.Class), s.pru.active = true → s.pru.driveView = .tripped →
      s.pru.latched = before ++ { kind := k, cls := c } :: after → (∀ e ∈ before, e.kind ∉ s.pru.view) →
      k ∈ s.pru.view →
      exec (.resetTrip .p g t o) s =
        .next (startReply .p [0x23#8, g, 0x02#8, 0x0A#8, BitVec.ofNat 8 (causeCode k)] { s with now := t })) ∧
    (∀ e ∈ s.pru.latched, tripRight s.pru = true → s.pru.active = true → s.pru.driveView = .tripped →
      e.kind ∈ s.pru.view → (∀ l ∈ s.pru.latched, l.kind ∈ s.pru.view → causeCode e.kind ≤ causeCode l.kind) →
      exec (.resetTrip .p g t o) s =
        .next (startReply .p [0x23#8, g, 0x02#8, 0x0A#8, BitVec.ofNat 8 (causeCode e.kind)] { s with now := t })) ∧
    (s.pru.active = true → s.pru.driveView = .tripped → (∀ e ∈ s.pru.latched, e.kind ∉ s.pru.view) →
      (∀ (i : SlotIx) (r : Record), s.rcu.slots.get i = some r → s.pru.record = some r.number → r.marks.p = false) →
      exec (.resetTrip .p g t o) s = .next (startReply .p [0x23#8, g, 0x02#8, 0x0B#8] { s with now := t })) ∧
    (∀ (i : SlotIx) (r : Record), s.pru.active = true → s.pru.driveView = .tripped → s.dsq.drive = .tripped →
      s.dsq.enable = false → (s.dsq.contactor = true → s.dsq.wait ≠ .none) →
      (∀ e ∈ s.pru.latched, e.kind ∉ s.pru.view) → s.pru.record = some r.number → s.rcu.slots.get i = some r →
      (∀ (j : SlotIx) (q : Record), s.rcu.slots.get j = some q → q.number = r.number → j = i) → r.marks.p = true →
      ∃ u, exec (.resetTrip .p g t o) s = .next u ∧ u.now = t ∧ u.pru.active = false ∧ u.pru.cls = none ∧
        u.pru.firstOut = none ∧ u.pru.latched = [] ∧ u.pru.record = none ∧ u.pru.trip = false ∧
        u.pru.permit = s.pru.permit ∧ u.dsq = { s.dsq with drive := .blocked, coast := .stopped } ∧
        u.rcu.pinned = none ∧
        (∀ k : Station, .episode ∈ (u.links.get k).notices) ∧
        u.links.p.reply = some { frame := frameOf [0x23#8, g, 0x00#8], started := t } ∧ u.msy = s.msy ∧ u.meu = s.meu)

/-- Tier 2. CLEAR TABLE of a channel sets its table, figures, counts, serial and counters to 0 and its phase to WAIT
with Trev_est kept: a channel in PAUSED or SENSOR_FAULT keeps its state without a deadline, any other is in LEARNING
with a deadline from the instant and contributes 0; the other channels stay. A channel above 3 is MALFORMED (R112,
R116). -/
def Obligations.TableIsCleared : Prop :=
  ∀ (g n : Byte) (t : Tick) (o : Sched) (s : State), s.links.m.reply = none →
    (3 < n.toNat → exec (.clearTable .m g n t o) s =
      .next (startReply .m [0x30#8, g, 0x05#8] { s with now := t })) ∧
    ∀ q : Chan, n.toNat = (match q with | .c0 => 0 | .c1 => 1 | .c2 => 2 | .c3 => 3) →
      ∃ (u : State) (c : VChan), exec (.clearTable .m g n t o) s = .next u ∧ u.now = t ∧ c = u.vwa.chans.get q ∧
        c.table = List.replicate 64 0 ∧ c.acc = revAccClear ∧ c.sync = 0 ∧ c.resid = 0 ∧ c.completed = 0 ∧
        c.serial = 0 ∧ c.alert = 0 ∧ c.danger = 0 ∧ c.release = 0 ∧ c.phase = .wait ∧
        c.trev = (s.vwa.chans.get q).trev ∧
        ((s.vwa.chans.get q).state = .paused ∨ (s.vwa.chans.get q).state = .sensorFault →
          c.state = (s.vwa.chans.get q).state ∧ c.deadline = none) ∧
        ((s.vwa.chans.get q).state ≠ .paused → (s.vwa.chans.get q).state ≠ .sensorFault →
          c.state = .learning ∧ c.held = none ∧ c.contribution = 0 ∧ c.dangerCond = false ∧
          c.deadline = some (match (s.vwa.chans.get q).trev with
            | none => t + 1200000000#32
            | some r => t + BitVec.ofNat 32 (2 * r))) ∧
        (∀ j : Chan, j ≠ q → u.vwa.chans.get j = s.vwa.chans.get j) ∧
        u.links.m.reply = some { frame := frameOf [0x30#8, g, 0x00#8], started := t } ∧
        u.msy = s.msy ∧ u.meu = s.meu ∧ u.stu = s.stu ∧ u.dsq = s.dsq ∧ u.rcu = s.rcu ∧ u.set = s.set

/-- Tier 2. The split of R86, for every demand Td from 0 to the envelope, every share setting and every trim: with TA0
= Td × a / 256 and TA1 = TA0 + b, TB1 = Td − TA1, a negative side gives way to the other, and a side above its limit
takes its limit and hands what it can to the other. So each share lies between 0 and its pinion limit, together they
do not exceed Td, they are Td where neither was lowered, and the flag says whether one was. -/
def Obligations.SplitStaysWithinTheLimits : Prop :=
  ∀ (a la lb : Nat) (b td ta tb tenv : Int), 0 ≤ td → td ≤ tenv →
    ta = (if Int.tdiv (td * a) 256 + b < 0 then 0
          else if td - (Int.tdiv (td * a) 256 + b) < 0 then td else Int.tdiv (td * a) 256 + b) →
    tb = td - ta →
    (splitTorque a b la lb td).a = (if (la : Int) < ta then (la : Int)
      else if (lb : Int) < tb then min (ta + (tb - lb)) la else ta) ∧
    (splitTorque a b la lb td).b = (if (la : Int) < ta then min (tb + (ta - la)) lb
      else if (lb : Int) < tb then (lb : Int) else tb) ∧
    (splitTorque a b la lb td).limited = decide ((la : Int) < ta ∨ (lb : Int) < tb) ∧
    0 ≤ (splitTorque a b la lb td).a ∧ (splitTorque a b la lb td).a ≤ la ∧
    0 ≤ (splitTorque a b la lb td).b ∧ (splitTorque a b la lb td).b ≤ lb ∧
    (splitTorque a b la lb td).a + (splitTorque a b la lb td).b ≤ td ∧
    (splitTorque a b la lb td).a + (splitTorque a b la lb td).b ≤ tenv

/-- Tier 2. The period work of the speed and torque unit, number by number. Each speed is 16384 × Tr over the greater
of the tooth interval and the time since the last tooth, up to 32767, and 0 past the zero-speed timeout (R68). Each
thermal account is charged within 0 and Qmax (R83) and gives COOL, WARM or HOT, with THERMAL_HOT_x exactly while HOT;
that HOT lasts down to the lesser of Qwarn and Qmax is the model's reading (R84; log entry 12, DEDUCED). The envelope
is that of the breakaway window and the derate level (R79). The hold timer counts and the ramped reference moves by
its step toward its target in each drive state (R74, R75). The speed loop gives the demand between 0 and the envelope
and holds its integrator where the demand stands beyond a limit and the error draws it further (R77). Each pinion
limit is that of its converter and thermal state (R85), the shares are those of the split of R86, and each current
reference follows its share within Imax, and within Icont while HOT (R87). Without the speed loop the reference,
integrator, demand, shares and current references are 0 (R75, R78). -/
def Obligations.PeriodWorkBoundsTheTorque : Prop :=
  ∀ (z : SetTable) (v : StuView) (u w : Stu), w = stuWork z v u →
    (∀ x : Side, (w.motors.get x).speed = (match (v.teeth.get x).newest, (v.teeth.get x).previous with
        | some p, some q =>
          if z.zeroSpeedTimeout < (v.instant - p).toNat then 0
          else min (16384 * z.toothInterval / max (p - q).toNat (v.instant - p).toNat) 32767
        | _, _ => 0) ∧
      (w.motors.get x).q = max 0 (min (z.num 58 : Int) ((u.motors.get x).q + Int.tdiv
        (((v.means.get x : Int) * (v.means.get x : Int)) - (z.num 55 : Int) * (z.num 55 : Int)) 16384)) ∧
      (w.motors.get x).thermal = (if (u.motors.get x).thermal = .hot
        then (if (min (z.num 59) (z.num 58) : Nat) ≤ (w.motors.get x).q then .hot else .cool)
        else if (w.motors.get x).q = z.num 58 then .hot
        else if (z.num 59 : Int) ≤ (w.motors.get x).q then .warm else .cool) ∧
      (w.motors.get x).hotCond = decide ((w.motors.get x).thermal = .hot) ∧
      (w.motors.get x).limit = (if v.convs.get x = .firing then
          min (min z.tpin (z.imax * z.kt / 16384))
            (if (w.motors.get x).thermal = .hot then z.num 55 * z.kt / 16384 else z.tpin)
        else 0) ∧
      (w.motors.get x).iref = min (min ((w.motors.get x).share.toNat * 16384 / z.kt) z.imax)
        (if (w.motors.get x).thermal = .hot then z.num 55 else z.imax)) ∧
    w.tenv = (if w.window.isSome then z.num 49 else z.num 50) * (match v.level with
      | 0 => 256
      | 1 => z.num 51
      | 2 => z.num 52
      | _ => z.num 53) / 256 ∧
    w.stationRef = u.stationRef ∧
    (v.drive = .starting ∨ v.drive = .run →
      w.hold = (match u.hold with
        | .running c => if c ≤ 1 then .expired else .running (c - 1)
        | h => h) ∧
      ∀ target : Nat, target = min (match w.hold, u.stationRef with | .running _, some r => r | _, _ => z.fallback)
          z.speedMax →
        w.rr = (if u.rr < target then min target (u.rr + z.accel)
          else if target < u.rr then max target (u.rr - z.decel) else u.rr)) ∧
    (v.drive ≠ .starting → v.drive ≠ .run → w.hold = u.hold) ∧
    (v.drive = .stopping → w.rr = u.rr - z.decel) ∧ (v.drive = .tripStop → w.rr = u.rr - z.tripDecel) ∧
    (v.drive = .starting ∨ v.drive = .run ∨ v.drive = .stopping ∨ v.drive = .tripStop →
      ∀ e y d : Int, e = (w.rr : Int) - w.s → y = max 0 (min ((w.tenv : Int) * 256) (u.y + (z.kiS : Int) * e)) →
        d = Int.tdiv ((z.kpS : Int) * e) 256 + Int.tdiv y 256 →
        w.td = max 0 (min (w.tenv : Int) d) ∧
        w.y = (if ((w.tenv : Int) < d ∧ 0 < e) ∨ (d < 0 ∧ e < 0) then max 0 (min ((w.tenv : Int) * 256) u.y) else y)) ∧
    splitTorque z.share u.trim w.motors.a.limit w.motors.b.limit w.td =
      ⟨w.motors.a.share, w.motors.b.share, w.splitLimited⟩ ∧
    0 ≤ w.td ∧ w.td ≤ w.tenv ∧
    (v.drive = .blocked ∨ v.drive = .closing ∨ v.drive = .coast ∨ v.drive = .tripped ∨ v.drive = .aux →
      w.rr = 0 ∧ w.y = 0 ∧ w.td = 0 ∧ w.motors.a.share = 0 ∧ w.motors.b.share = 0 ∧ w.motors.a.iref = 0 ∧
      w.motors.b.iref = 0)

/-- Tier 2. CHECK (R192): the register starts at 0xFFFF; each bit of each byte, most significant first, shifts it left
by one and combines it with 0x1021 where the bit shifted out differs from the data bit; a frame is SYNC, LENGTH, the
body and CHECK over LENGTH and body, high byte first; nine bytes 0x31 to 0x39 give 0x29B1; and a received frame is a
request exactly where its CHECK is right. -/
def Obligations.CheckIsTheCyclicCheck : Prop :=
  crc [] = 0xFFFF#16 ∧
  (∀ (vs : List Byte) (v : Byte), crc (vs ++ [v]) = (List.range 8).foldl
    (fun (r : BitVec 16) (i : Nat) => if r.getLsbD 15 ≠ v.getLsbD (7 - i) then (r <<< 1) ^^^ 0x1021#16 else r <<< 1) (crc vs)) ∧
  crc [0x31#8, 0x32#8, 0x33#8, 0x34#8, 0x35#8, 0x36#8, 0x37#8, 0x38#8, 0x39#8] = 0x29B1#16 ∧
  (∀ (body : List Byte) (hi lo : Byte), frameOf body = 0xE7#8 :: BitVec.ofNat 8 body.length :: (body ++ [hi, lo]) ↔
    crc (BitVec.ofNat 8 body.length :: body) = hi ++ lo) ∧
  ∀ (k g : Byte) (rest : List Byte) (hi lo : Byte) (t : Tick) (l : Link),
    l.rx = .check (k :: g :: rest) (some hi) →
    (linkByte lo t l).2 = (if crc (BitVec.ofNat 8 (rest.length + 2) :: k :: g :: rest) = hi ++ lo
      then some { kind := k, tag := g, payload := rest } else none)

/-- Tier 2. Sending and receiving agree: a link in HUNT that takes the bytes of the frame of any body of 2 to 250
bytes is back in HUNT with its gap timer stopped and delivers exactly the request of that body, KIND, TAG and payload
(section 10.2, R192, R193). -/
def Obligations.FrameSentIsFrameReceived : Prop :=
  ∀ (k g : Byte) (rest : List Byte) (t : Tick) (l : Link), l.rx = .hunt → rest.length + 2 ≤ 250 →
    linkBytes t l (frameOf (k :: g :: rest)) =
      ({ l with rx := .hunt, gap := none }, some { kind := k, tag := g, payload := rest })

/-- Tier 2. The value field of every setting reads back: for every row of the catalogue and every value in its range,
the bytes a GET SETTING sends for it (R189, section 11.5) are read by PUT SETTING as that same value, with no clamp
(R181, R182, R203). -/
def Obligations.SettingValueReadsBack : Prop :=
  ∀ (r : SetSpec) (v : SetValue), r ∈ catalogue → valueInRange r.form v = true →
    readValue r.form (valueBytes v) = some v ∧ clampValue r.form v = v ∧ (valueBytes v).length = formLength r.form

/-- Tier 3. Every step keeps every active and every staged setting within its range, and the table its 87 rows (R182).
-/
def Obligations.StepKeepsSettingsInRange : Prop :=
  ∀ s t : State, settingsRight s.set = true → step s = .next t → settingsRight t.set = true

/-- Tier 3. Every step keeps each attention line asserted exactly while its notice set holds at least one kind (R199);
the derate level the greatest of the four contributions (R108); each channel's table and accumulators their 64 bins
(R101, R102); and the gate lines those of the burst in progress, with a controller in OFF without burst, pending
firing or asserted line (R42, R55). -/
def Obligations.StepKeepsNoticesLevelAndGates : Prop :=
  (∀ s t : State, attentionsRight s = true → step s = .next t → attentionsRight t = true) ∧
  (∀ s t : State, derateRight s.vwa = true → step s = .next t → derateRight t.vwa = true) ∧
  (∀ s t : State, binsRight s.vwa = true → step s = .next t → binsRight t.vwa = true) ∧
  ∀ s t : State, gatesRight s.cca = true → gatesRight s.ccb = true → step s = .next t →
    gatesRight t.cca = true ∧ gatesRight t.ccb = true

/-- Tier 3. Every step keeps the enable that of the drive state, neither converter in FIRING or HELD while it is
withdrawn (R41, R120), and CONTACTOR, AUX_EN and the release wait as the drive state has them (R134, R135). -/
def Obligations.StepKeepsEnableAndLines : Prop :=
  ∀ s t : State, enableRight s = true → linesRight s.dsq = true → step s = .next t →
    enableRight t = true ∧ linesRight t.dsq = true

/-- Tier 3. Every step keeps the TRIP line asserted exactly while the ACTIVE episode holds a latched class B cause
(R147), each kind latched once and listed in the order of the codes (R155), and a CLEAR episode without class,
first-out, latched cause or record (R156). -/
def Obligations.StepKeepsTheTripLine : Prop :=
  ∀ s t : State, tripRight s.pru = true → step s = .next t → tripRight t.pru = true

/-- Tier 3. Every step keeps the demand within the envelope, each share between 0 and its pinion limit, both together
within the demand, and demand and current references 0 in a drive state without the speed loop (R77, R78, R82, R86).
The settings in range are a premise, kept by every step itself. -/
def Obligations.StepKeepsTheTorqueBounds : Prop :=
  ∀ s t : State, settingsRight s.set = true → torqueRight s = true → step s = .next t → torqueRight t = true

/-- Tier 3. Every step keeps the history ring within 256 entries, every record within 192 entries to come and eight
subsequent causes, and RECORD_MARK asserted exactly while a record is FILLING (R159, R165, R166, R167). The settings
in range are a premise, kept by every step itself. -/
def Obligations.StepKeepsRecordsAndMark : Prop :=
  ∀ s t : State, settingsRight s.set = true → recordsRight s.rcu = true → step s = .next t →
    recordsRight t.rcu = true

/-- Tier 1. All that the steps keep holds of the part right after power-on. The lines and the tick count of that
release are the model's choice (log entries 2 and 3). -/
def Obligations.ResetHasEveryKeptProperty : Prop :=
  settingsRight State.reset.set = true ∧ attentionsRight State.reset = true ∧ enableRight State.reset = true ∧
  linesRight State.reset.dsq = true ∧ tripRight State.reset.pru = true ∧ derateRight State.reset.vwa = true ∧
  binsRight State.reset.vwa = true ∧
  gatesRight State.reset.cca = true ∧ gatesRight State.reset.ccb = true ∧ torqueRight State.reset = true ∧
  recordsRight State.reset.rcu = true
end

