-- ==== Sys2Proof/Laws/State.lean ====
section
/-! SUPPORT. What the accessors and the plain updates of the state give: one lemma for each field and update, so that
no later proof unfolds a record update. -/

namespace Sys2Proof.Machine

/-- Reading what was put. -/
@[simp] theorem Pair.get_put {α : Type} (p : Pair α) (x : Side) (v : α) : (p.put x v).get x = v := by
  cases x <;> rfl

/-- Reading another place than the one put. -/
theorem Pair.get_put_ne {α : Type} (p : Pair α) {x y : Side} (v : α) (h : y ≠ x) : (p.put x v).get y = p.get y := by
  cases x <;> cases y <;> first | rfl | exact absurd rfl h

/-- Putting back what is there. -/
@[simp] theorem Pair.put_get {α : Type} (p : Pair α) (x : Side) : p.put x (p.get x) = p := by
  cases x <;> rfl

/-- Reading what was put. -/
@[simp] theorem Quad.get_put {α : Type} (p : Quad α) (x : Chan) (v : α) : (p.put x v).get x = v := by
  cases x <;> rfl

/-- Reading another place than the one put. -/
theorem Quad.get_put_ne {α : Type} (p : Quad α) {x y : Chan} (v : α) (h : y ≠ x) : (p.put x v).get y = p.get y := by
  cases x <;> cases y <;> first | rfl | exact absurd rfl h

/-- Putting back what is there. -/
@[simp] theorem Quad.put_get {α : Type} (p : Quad α) (x : Chan) : p.put x (p.get x) = p := by
  cases x <;> rfl

/-- Reading what was put. -/
@[simp] theorem Triple.get_put {α : Type} (p : Triple α) (x : Station) (v : α) : (p.put x v).get x = v := by
  cases x <;> rfl

/-- Reading another place than the one put. -/
theorem Triple.get_put_ne {α : Type} (p : Triple α) {x y : Station} (v : α) (h : y ≠ x) : (p.put x v).get y = p.get y := by
  cases x <;> cases y <;> first | rfl | exact absurd rfl h

/-- Putting back what is there. -/
@[simp] theorem Triple.put_get {α : Type} (p : Triple α) (x : Station) : p.put x (p.get x) = p := by
  cases x <;> rfl

/-- Reading what was put. -/
@[simp] theorem Six.get_put {α : Type} (p : Six α) (x : SlotIx) (v : α) : (p.put x v).get x = v := by
  cases x <;> rfl

/-- Reading another place than the one put. -/
theorem Six.get_put_ne {α : Type} (p : Six α) {x y : SlotIx} (v : α) (h : y ≠ x) : (p.put x v).get y = p.get y := by
  cases x <;> cases y <;> first | rfl | exact absurd rfl h

/-- Putting back what is there. -/
@[simp] theorem Six.put_get {α : Type} (p : Six α) (x : SlotIx) : p.put x (p.get x) = p := by
  cases x <;> rfl

@[simp] theorem raise_now (k : Notice) (st : Station) (s : State) : (raise k st s).now = s.now := rfl
@[simp] theorem raise_rate (k : Notice) (st : Station) (s : State) : (raise k st s).rate = s.rate := rfl
@[simp] theorem raise_msy (k : Notice) (st : Station) (s : State) : (raise k st s).msy = s.msy := rfl
@[simp] theorem raise_meu (k : Notice) (st : Station) (s : State) : (raise k st s).meu = s.meu := rfl
@[simp] theorem raise_cca (k : Notice) (st : Station) (s : State) : (raise k st s).cca = s.cca := rfl
@[simp] theorem raise_ccb (k : Notice) (st : Station) (s : State) : (raise k st s).ccb = s.ccb := rfl
@[simp] theorem raise_stu (k : Notice) (st : Station) (s : State) : (raise k st s).stu = s.stu := rfl
@[simp] theorem raise_vwa (k : Notice) (st : Station) (s : State) : (raise k st s).vwa = s.vwa := rfl
@[simp] theorem raise_dsq (k : Notice) (st : Station) (s : State) : (raise k st s).dsq = s.dsq := rfl
@[simp] theorem raise_pru (k : Notice) (st : Station) (s : State) : (raise k st s).pru = s.pru := rfl
@[simp] theorem raise_rcu (k : Notice) (st : Station) (s : State) : (raise k st s).rcu = s.rcu := rfl
@[simp] theorem raise_set (k : Notice) (st : Station) (s : State) : (raise k st s).set = s.set := rfl
@[simp] theorem raise_pending (k : Notice) (st : Station) (s : State) : (raise k st s).pending = s.pending := rfl
@[simp] theorem raise_issued (k : Notice) (st : Station) (s : State) : (raise k st s).issued = s.issued := rfl

@[simp] theorem takeCond_now (k : Cause) (b : Bool) (s : State) : (takeCond k b s).now = s.now := rfl
@[simp] theorem takeCond_rate (k : Cause) (b : Bool) (s : State) : (takeCond k b s).rate = s.rate := rfl
@[simp] theorem takeCond_msy (k : Cause) (b : Bool) (s : State) : (takeCond k b s).msy = s.msy := rfl
@[simp] theorem takeCond_meu (k : Cause) (b : Bool) (s : State) : (takeCond k b s).meu = s.meu := rfl
@[simp] theorem takeCond_cca (k : Cause) (b : Bool) (s : State) : (takeCond k b s).cca = s.cca := rfl
@[simp] theorem takeCond_ccb (k : Cause) (b : Bool) (s : State) : (takeCond k b s).ccb = s.ccb := rfl
@[simp] theorem takeCond_stu (k : Cause) (b : Bool) (s : State) : (takeCond k b s).stu = s.stu := rfl
@[simp] theorem takeCond_vwa (k : Cause) (b : Bool) (s : State) : (takeCond k b s).vwa = s.vwa := rfl
@[simp] theorem takeCond_dsq (k : Cause) (b : Bool) (s : State) : (takeCond k b s).dsq = s.dsq := rfl
@[simp] theorem takeCond_rcu (k : Cause) (b : Bool) (s : State) : (takeCond k b s).rcu = s.rcu := rfl
@[simp] theorem takeCond_set (k : Cause) (b : Bool) (s : State) : (takeCond k b s).set = s.set := rfl
@[simp] theorem takeCond_links (k : Cause) (b : Bool) (s : State) : (takeCond k b s).links = s.links := rfl
@[simp] theorem takeCond_pending (k : Cause) (b : Bool) (s : State) : (takeCond k b s).pending = s.pending := rfl
@[simp] theorem takeCond_issued (k : Cause) (b : Bool) (s : State) : (takeCond k b s).issued = s.issued := rfl

@[simp] theorem State.putLink_now (s : State) (k : Station) (l : Link) : (s.putLink k l).now = s.now := rfl
@[simp] theorem State.putLink_rate (s : State) (k : Station) (l : Link) : (s.putLink k l).rate = s.rate := rfl
@[simp] theorem State.putLink_msy (s : State) (k : Station) (l : Link) : (s.putLink k l).msy = s.msy := rfl
@[simp] theorem State.putLink_meu (s : State) (k : Station) (l : Link) : (s.putLink k l).meu = s.meu := rfl
@[simp] theorem State.putLink_cca (s : State) (k : Station) (l : Link) : (s.putLink k l).cca = s.cca := rfl
@[simp] theorem State.putLink_ccb (s : State) (k : Station) (l : Link) : (s.putLink k l).ccb = s.ccb := rfl
@[simp] theorem State.putLink_stu (s : State) (k : Station) (l : Link) : (s.putLink k l).stu = s.stu := rfl
@[simp] theorem State.putLink_vwa (s : State) (k : Station) (l : Link) : (s.putLink k l).vwa = s.vwa := rfl
@[simp] theorem State.putLink_dsq (s : State) (k : Station) (l : Link) : (s.putLink k l).dsq = s.dsq := rfl
@[simp] theorem State.putLink_pru (s : State) (k : Station) (l : Link) : (s.putLink k l).pru = s.pru := rfl
@[simp] theorem State.putLink_rcu (s : State) (k : Station) (l : Link) : (s.putLink k l).rcu = s.rcu := rfl
@[simp] theorem State.putLink_set (s : State) (k : Station) (l : Link) : (s.putLink k l).set = s.set := rfl
@[simp] theorem State.putLink_pending (s : State) (k : Station) (l : Link) : (s.putLink k l).pending = s.pending := rfl
@[simp] theorem State.putLink_issued (s : State) (k : Station) (l : Link) : (s.putLink k l).issued = s.issued := rfl

@[simp] theorem State.putConv_now (s : State) (x : Side) (c : Conv) : (s.putConv x c).now = s.now := by cases x <;> rfl
@[simp] theorem State.putConv_rate (s : State) (x : Side) (c : Conv) : (s.putConv x c).rate = s.rate := by cases x <;> rfl
@[simp] theorem State.putConv_msy (s : State) (x : Side) (c : Conv) : (s.putConv x c).msy = s.msy := by cases x <;> rfl
@[simp] theorem State.putConv_meu (s : State) (x : Side) (c : Conv) : (s.putConv x c).meu = s.meu := by cases x <;> rfl
@[simp] theorem State.putConv_stu (s : State) (x : Side) (c : Conv) : (s.putConv x c).stu = s.stu := by cases x <;> rfl
@[simp] theorem State.putConv_vwa (s : State) (x : Side) (c : Conv) : (s.putConv x c).vwa = s.vwa := by cases x <;> rfl
@[simp] theorem State.putConv_dsq (s : State) (x : Side) (c : Conv) : (s.putConv x c).dsq = s.dsq := by cases x <;> rfl
@[simp] theorem State.putConv_pru (s : State) (x : Side) (c : Conv) : (s.putConv x c).pru = s.pru := by cases x <;> rfl
@[simp] theorem State.putConv_rcu (s : State) (x : Side) (c : Conv) : (s.putConv x c).rcu = s.rcu := by cases x <;> rfl
@[simp] theorem State.putConv_set (s : State) (x : Side) (c : Conv) : (s.putConv x c).set = s.set := by cases x <;> rfl
@[simp] theorem State.putConv_links (s : State) (x : Side) (c : Conv) : (s.putConv x c).links = s.links := by cases x <;> rfl
@[simp] theorem State.putConv_pending (s : State) (x : Side) (c : Conv) : (s.putConv x c).pending = s.pending := by cases x <;> rfl
@[simp] theorem State.putConv_issued (s : State) (x : Side) (c : Conv) : (s.putConv x c).issued = s.issued := by cases x <;> rfl

@[simp] theorem handAngles_now (s : State) : (handAngles s).now = s.now := rfl
@[simp] theorem handAngles_rate (s : State) : (handAngles s).rate = s.rate := rfl
@[simp] theorem handAngles_msy (s : State) : (handAngles s).msy = s.msy := rfl
@[simp] theorem handAngles_meu (s : State) : (handAngles s).meu = s.meu := rfl
@[simp] theorem handAngles_stu (s : State) : (handAngles s).stu = s.stu := rfl
@[simp] theorem handAngles_vwa (s : State) : (handAngles s).vwa = s.vwa := rfl
@[simp] theorem handAngles_dsq (s : State) : (handAngles s).dsq = s.dsq := rfl
@[simp] theorem handAngles_pru (s : State) : (handAngles s).pru = s.pru := rfl
@[simp] theorem handAngles_rcu (s : State) : (handAngles s).rcu = s.rcu := rfl
@[simp] theorem handAngles_set (s : State) : (handAngles s).set = s.set := rfl
@[simp] theorem handAngles_links (s : State) : (handAngles s).links = s.links := rfl
@[simp] theorem handAngles_pending (s : State) : (handAngles s).pending = s.pending := rfl
@[simp] theorem handAngles_issued (s : State) : (handAngles s).issued = s.issued := rfl

@[simp] theorem idle_rate (s : State) : (idle s).rate = s.rate := rfl
@[simp] theorem idle_msy (s : State) : (idle s).msy = s.msy := rfl
@[simp] theorem idle_meu (s : State) : (idle s).meu = s.meu := rfl
@[simp] theorem idle_cca (s : State) : (idle s).cca = s.cca := rfl
@[simp] theorem idle_ccb (s : State) : (idle s).ccb = s.ccb := rfl
@[simp] theorem idle_stu (s : State) : (idle s).stu = s.stu := rfl
@[simp] theorem idle_vwa (s : State) : (idle s).vwa = s.vwa := rfl
@[simp] theorem idle_dsq (s : State) : (idle s).dsq = s.dsq := rfl
@[simp] theorem idle_pru (s : State) : (idle s).pru = s.pru := rfl
@[simp] theorem idle_rcu (s : State) : (idle s).rcu = s.rcu := rfl
@[simp] theorem idle_set (s : State) : (idle s).set = s.set := rfl
@[simp] theorem idle_links (s : State) : (idle s).links = s.links := rfl
@[simp] theorem idle_pending (s : State) : (idle s).pending = s.pending := rfl
@[simp] theorem idle_issued (s : State) : (idle s).issued = s.issued := rfl

@[simp] theorem driveTold_now (d : Dsq) (s : State) : (driveTold d s).now = s.now := rfl
@[simp] theorem driveTold_rate (d : Dsq) (s : State) : (driveTold d s).rate = s.rate := rfl
@[simp] theorem driveTold_msy (d : Dsq) (s : State) : (driveTold d s).msy = s.msy := rfl
@[simp] theorem driveTold_meu (d : Dsq) (s : State) : (driveTold d s).meu = s.meu := rfl
@[simp] theorem driveTold_vwa (d : Dsq) (s : State) : (driveTold d s).vwa = s.vwa := rfl
@[simp] theorem driveTold_dsq (d : Dsq) (s : State) : (driveTold d s).dsq = s.dsq := rfl
@[simp] theorem driveTold_set (d : Dsq) (s : State) : (driveTold d s).set = s.set := rfl
@[simp] theorem driveTold_pending (d : Dsq) (s : State) : (driveTold d s).pending = s.pending := rfl
@[simp] theorem driveTold_issued (d : Dsq) (s : State) : (driveTold d s).issued = s.issued := rfl

@[simp] theorem handScan_now (n : Chan) (x : Int) (s : State) : (handScan n x s).now = s.now := rfl
@[simp] theorem handScan_rate (n : Chan) (x : Int) (s : State) : (handScan n x s).rate = s.rate := rfl
@[simp] theorem handScan_msy (n : Chan) (x : Int) (s : State) : (handScan n x s).msy = s.msy := rfl
@[simp] theorem handScan_meu (n : Chan) (x : Int) (s : State) : (handScan n x s).meu = s.meu := rfl
@[simp] theorem handScan_cca (n : Chan) (x : Int) (s : State) : (handScan n x s).cca = s.cca := rfl
@[simp] theorem handScan_ccb (n : Chan) (x : Int) (s : State) : (handScan n x s).ccb = s.ccb := rfl
@[simp] theorem handScan_stu (n : Chan) (x : Int) (s : State) : (handScan n x s).stu = s.stu := rfl
@[simp] theorem handScan_dsq (n : Chan) (x : Int) (s : State) : (handScan n x s).dsq = s.dsq := rfl
@[simp] theorem handScan_pru (n : Chan) (x : Int) (s : State) : (handScan n x s).pru = s.pru := rfl
@[simp] theorem handScan_rcu (n : Chan) (x : Int) (s : State) : (handScan n x s).rcu = s.rcu := rfl
@[simp] theorem handScan_set (n : Chan) (x : Int) (s : State) : (handScan n x s).set = s.set := rfl
@[simp] theorem handScan_links (n : Chan) (x : Int) (s : State) : (handScan n x s).links = s.links := rfl
@[simp] theorem handScan_pending (n : Chan) (x : Int) (s : State) : (handScan n x s).pending = s.pending := rfl
@[simp] theorem handScan_issued (n : Chan) (x : Int) (s : State) : (handScan n x s).issued = s.issued := rfl

@[simp] theorem startReply_now (st : Station) (body : List Byte) (s : State) : (startReply st body s).now = s.now := rfl
@[simp] theorem startReply_rate (st : Station) (body : List Byte) (s : State) : (startReply st body s).rate = s.rate := rfl
@[simp] theorem startReply_msy (st : Station) (body : List Byte) (s : State) : (startReply st body s).msy = s.msy := rfl
@[simp] theorem startReply_meu (st : Station) (body : List Byte) (s : State) : (startReply st body s).meu = s.meu := rfl
@[simp] theorem startReply_cca (st : Station) (body : List Byte) (s : State) : (startReply st body s).cca = s.cca := rfl
@[simp] theorem startReply_ccb (st : Station) (body : List Byte) (s : State) : (startReply st body s).ccb = s.ccb := rfl
@[simp] theorem startReply_stu (st : Station) (body : List Byte) (s : State) : (startReply st body s).stu = s.stu := rfl
@[simp] theorem startReply_vwa (st : Station) (body : List Byte) (s : State) : (startReply st body s).vwa = s.vwa := rfl
@[simp] theorem startReply_dsq (st : Station) (body : List Byte) (s : State) : (startReply st body s).dsq = s.dsq := rfl
@[simp] theorem startReply_pru (st : Station) (body : List Byte) (s : State) : (startReply st body s).pru = s.pru := rfl
@[simp] theorem startReply_rcu (st : Station) (body : List Byte) (s : State) : (startReply st body s).rcu = s.rcu := rfl
@[simp] theorem startReply_set (st : Station) (body : List Byte) (s : State) : (startReply st body s).set = s.set := rfl
@[simp] theorem startReply_pending (st : Station) (body : List Byte) (s : State) : (startReply st body s).pending = s.pending := rfl
@[simp] theorem startReply_issued (st : Station) (body : List Byte) (s : State) : (startReply st body s).issued = s.issued := rfl

@[simp] theorem linkResetAt_now (k : Station) (s : State) : (linkResetAt k s).now = s.now := rfl
@[simp] theorem linkResetAt_rate (k : Station) (s : State) : (linkResetAt k s).rate = s.rate := rfl
@[simp] theorem linkResetAt_msy (k : Station) (s : State) : (linkResetAt k s).msy = s.msy := rfl
@[simp] theorem linkResetAt_meu (k : Station) (s : State) : (linkResetAt k s).meu = s.meu := rfl
@[simp] theorem linkResetAt_cca (k : Station) (s : State) : (linkResetAt k s).cca = s.cca := rfl
@[simp] theorem linkResetAt_ccb (k : Station) (s : State) : (linkResetAt k s).ccb = s.ccb := rfl
@[simp] theorem linkResetAt_stu (k : Station) (s : State) : (linkResetAt k s).stu = s.stu := rfl
@[simp] theorem linkResetAt_vwa (k : Station) (s : State) : (linkResetAt k s).vwa = s.vwa := rfl
@[simp] theorem linkResetAt_dsq (k : Station) (s : State) : (linkResetAt k s).dsq = s.dsq := rfl
@[simp] theorem linkResetAt_pru (k : Station) (s : State) : (linkResetAt k s).pru = s.pru := rfl
@[simp] theorem linkResetAt_set (k : Station) (s : State) : (linkResetAt k s).set = s.set := rfl
@[simp] theorem linkResetAt_pending (k : Station) (s : State) : (linkResetAt k s).pending = s.pending := rfl
@[simp] theorem linkResetAt_issued (k : Station) (s : State) : (linkResetAt k s).issued = s.issued := rfl

@[simp] theorem rawCrossing_rate (l : ZLine) (b : Bool) (t : Tick) (s : State) : (rawCrossing l b t s).rate = s.rate := rfl
@[simp] theorem rawCrossing_meu (l : ZLine) (b : Bool) (t : Tick) (s : State) : (rawCrossing l b t s).meu = s.meu := rfl
@[simp] theorem rawCrossing_cca (l : ZLine) (b : Bool) (t : Tick) (s : State) : (rawCrossing l b t s).cca = s.cca := rfl
@[simp] theorem rawCrossing_ccb (l : ZLine) (b : Bool) (t : Tick) (s : State) : (rawCrossing l b t s).ccb = s.ccb := rfl
@[simp] theorem rawCrossing_stu (l : ZLine) (b : Bool) (t : Tick) (s : State) : (rawCrossing l b t s).stu = s.stu := rfl
@[simp] theorem rawCrossing_vwa (l : ZLine) (b : Bool) (t : Tick) (s : State) : (rawCrossing l b t s).vwa = s.vwa := rfl
@[simp] theorem rawCrossing_dsq (l : ZLine) (b : Bool) (t : Tick) (s : State) : (rawCrossing l b t s).dsq = s.dsq := rfl
@[simp] theorem rawCrossing_pru (l : ZLine) (b : Bool) (t : Tick) (s : State) : (rawCrossing l b t s).pru = s.pru := rfl
@[simp] theorem rawCrossing_rcu (l : ZLine) (b : Bool) (t : Tick) (s : State) : (rawCrossing l b t s).rcu = s.rcu := rfl
@[simp] theorem rawCrossing_set (l : ZLine) (b : Bool) (t : Tick) (s : State) : (rawCrossing l b t s).set = s.set := rfl
@[simp] theorem rawCrossing_links (l : ZLine) (b : Bool) (t : Tick) (s : State) : (rawCrossing l b t s).links = s.links := rfl
@[simp] theorem rawCrossing_pending (l : ZLine) (b : Bool) (t : Tick) (s : State) : (rawCrossing l b t s).pending = s.pending := rfl
@[simp] theorem rawCrossing_issued (l : ZLine) (b : Bool) (t : Tick) (s : State) : (rawCrossing l b t s).issued = s.issued := rfl

@[simp] theorem rawPulse_rate (l : PulseLine) (b : Bool) (t : Tick) (s : State) : (rawPulse l b t s).rate = s.rate := rfl
@[simp] theorem rawPulse_msy (l : PulseLine) (b : Bool) (t : Tick) (s : State) : (rawPulse l b t s).msy = s.msy := rfl
@[simp] theorem rawPulse_cca (l : PulseLine) (b : Bool) (t : Tick) (s : State) : (rawPulse l b t s).cca = s.cca := rfl
@[simp] theorem rawPulse_ccb (l : PulseLine) (b : Bool) (t : Tick) (s : State) : (rawPulse l b t s).ccb = s.ccb := rfl
@[simp] theorem rawPulse_stu (l : PulseLine) (b : Bool) (t : Tick) (s : State) : (rawPulse l b t s).stu = s.stu := rfl
@[simp] theorem rawPulse_vwa (l : PulseLine) (b : Bool) (t : Tick) (s : State) : (rawPulse l b t s).vwa = s.vwa := rfl
@[simp] theorem rawPulse_dsq (l : PulseLine) (b : Bool) (t : Tick) (s : State) : (rawPulse l b t s).dsq = s.dsq := rfl
@[simp] theorem rawPulse_pru (l : PulseLine) (b : Bool) (t : Tick) (s : State) : (rawPulse l b t s).pru = s.pru := rfl
@[simp] theorem rawPulse_rcu (l : PulseLine) (b : Bool) (t : Tick) (s : State) : (rawPulse l b t s).rcu = s.rcu := rfl
@[simp] theorem rawPulse_set (l : PulseLine) (b : Bool) (t : Tick) (s : State) : (rawPulse l b t s).set = s.set := rfl
@[simp] theorem rawPulse_links (l : PulseLine) (b : Bool) (t : Tick) (s : State) : (rawPulse l b t s).links = s.links := rfl
@[simp] theorem rawPulse_pending (l : PulseLine) (b : Bool) (t : Tick) (s : State) : (rawPulse l b t s).pending = s.pending := rfl
@[simp] theorem rawPulse_issued (l : PulseLine) (b : Bool) (t : Tick) (s : State) : (rawPulse l b t s).issued = s.issued := rfl

@[simp] theorem rawExt_rate (b : Bool) (t : Tick) (s : State) : (rawExt b t s).rate = s.rate := rfl
@[simp] theorem rawExt_msy (b : Bool) (t : Tick) (s : State) : (rawExt b t s).msy = s.msy := rfl
@[simp] theorem rawExt_meu (b : Bool) (t : Tick) (s : State) : (rawExt b t s).meu = s.meu := rfl
@[simp] theorem rawExt_cca (b : Bool) (t : Tick) (s : State) : (rawExt b t s).cca = s.cca := rfl
@[simp] theorem rawExt_ccb (b : Bool) (t : Tick) (s : State) : (rawExt b t s).ccb = s.ccb := rfl
@[simp] theorem rawExt_stu (b : Bool) (t : Tick) (s : State) : (rawExt b t s).stu = s.stu := rfl
@[simp] theorem rawExt_vwa (b : Bool) (t : Tick) (s : State) : (rawExt b t s).vwa = s.vwa := rfl
@[simp] theorem rawExt_dsq (b : Bool) (t : Tick) (s : State) : (rawExt b t s).dsq = s.dsq := rfl
@[simp] theorem rawExt_rcu (b : Bool) (t : Tick) (s : State) : (rawExt b t s).rcu = s.rcu := rfl
@[simp] theorem rawExt_set (b : Bool) (t : Tick) (s : State) : (rawExt b t s).set = s.set := rfl
@[simp] theorem rawExt_links (b : Bool) (t : Tick) (s : State) : (rawExt b t s).links = s.links := rfl
@[simp] theorem rawExt_pending (b : Bool) (t : Tick) (s : State) : (rawExt b t s).pending = s.pending := rfl
@[simp] theorem rawExt_issued (b : Bool) (t : Tick) (s : State) : (rawExt b t s).issued = s.issued := rfl

@[simp] theorem stuPublish_motors (z : SetTable) (u : Stu) : (stuPublish z u).motors = u.motors := rfl
@[simp] theorem stuPublish_s (z : SetTable) (u : Stu) : (stuPublish z u).s = u.s := rfl
@[simp] theorem stuPublish_mismatch (z : SetTable) (u : Stu) : (stuPublish z u).mismatch = u.mismatch := rfl
@[simp] theorem stuPublish_stationRef (z : SetTable) (u : Stu) : (stuPublish z u).stationRef = u.stationRef := rfl
@[simp] theorem stuPublish_hold (z : SetTable) (u : Stu) : (stuPublish z u).hold = u.hold := rfl
@[simp] theorem stuPublish_rr (z : SetTable) (u : Stu) : (stuPublish z u).rr = u.rr := rfl
@[simp] theorem stuPublish_y (z : SetTable) (u : Stu) : (stuPublish z u).y = u.y := rfl
@[simp] theorem stuPublish_td (z : SetTable) (u : Stu) : (stuPublish z u).td = u.td := rfl
@[simp] theorem stuPublish_window (z : SetTable) (u : Stu) : (stuPublish z u).window = u.window := rfl
@[simp] theorem stuPublish_tenv (z : SetTable) (u : Stu) : (stuPublish z u).tenv = u.tenv := rfl
@[simp] theorem stuPublish_trim (z : SetTable) (u : Stu) : (stuPublish z u).trim = u.trim := rfl
@[simp] theorem stuPublish_splitLimited (z : SetTable) (u : Stu) : (stuPublish z u).splitLimited = u.splitLimited := rfl
@[simp] theorem stuPublish_stall (z : SetTable) (u : Stu) : (stuPublish z u).stall = u.stall := rfl
@[simp] theorem stuPublish_grace (z : SetTable) (u : Stu) : (stuPublish z u).grace = u.grace := rfl
@[simp] theorem stuPublish_mismatchCond (z : SetTable) (u : Stu) : (stuPublish z u).mismatchCond = u.mismatchCond := rfl
@[simp] theorem stuPublish_overspeedCond (z : SetTable) (u : Stu) : (stuPublish z u).overspeedCond = u.overspeedCond := rfl
@[simp] theorem stuPublish_holdCond (z : SetTable) (u : Stu) : (stuPublish z u).holdCond = u.holdCond := rfl
@[simp] theorem stuPublish_breakCond (z : SetTable) (u : Stu) : (stuPublish z u).breakCond = u.breakCond := rfl
@[simp] theorem stuPublish_lostCond (z : SetTable) (u : Stu) : (stuPublish z u).lostCond = u.lostCond := rfl
@[simp] theorem stuPublish_stallCond (z : SetTable) (u : Stu) : (stuPublish z u).stallCond = u.stallCond := rfl
@[simp] theorem stuPublish_periodTaken (z : SetTable) (u : Stu) : (stuPublish z u).periodTaken = u.periodTaken := rfl

@[simp] theorem linkResetTaken_rx (r : LinkRate) (t : Tick) (l : Link) : (linkResetTaken r t l).rx = .hunt := rfl
@[simp] theorem linkResetTaken_gap (r : LinkRate) (t : Tick) (l : Link) : (linkResetTaken r t l).gap = none := rfl
@[simp] theorem linkResetTaken_low (r : LinkRate) (t : Tick) (l : Link) :
    (linkResetTaken r t l).low = l.low.map (fun w => { stretchAt t w with served := true }) := rfl
@[simp] theorem linkResetTaken_waiting (r : LinkRate) (t : Tick) (l : Link) : (linkResetTaken r t l).waiting = none := rfl
@[simp] theorem linkResetTaken_reply (r : LinkRate) (t : Tick) (l : Link) : (linkResetTaken r t l).reply = none := rfl
@[simp] theorem linkResetTaken_notices (r : LinkRate) (t : Tick) (l : Link) :
    (linkResetTaken r t l).notices = [.restarted] := rfl
@[simp] theorem linkResetTaken_attention (r : LinkRate) (t : Tick) (l : Link) : (linkResetTaken r t l).attention = true := rfl

/-- When a link reset is due: the stretch that the line is in is low long enough, and its break has not been served
(R197). -/
theorem breakDue_eq_true {t : Tick} {l : Link} (h : breakDue t l = true) :
    ∃ w, l.low = some w ∧ (stretchAt t w).served = false ∧ breakTicks ≤ (stretchAt t w).run.span.length ∧
      t = plus (stretchAt t w).run.span.start breakTicks := by
  obtain ⟨w, hw, hb⟩ := (Option.any_eq_true ..).mp h
  simp only [breaksAt, Bool.and_eq_true, Bool.not_eq_true', decide_eq_true_eq] at hb
  exact ⟨w, hw, hb.1.1, hb.1.2, hb.2⟩

/-- A stretch that none follows is the one the line is in. -/
@[simp] theorem stretchAt_alone (t : Tick) (span : LowSpan) (e v : Bool) :
    stretchAt t { run := { span := span, dips := [] }, error := e, served := v } =
      { run := { span := span, dips := [] }, error := e, served := v } := rfl

/-- Which stretch a line is in does not bear on the framing error that was found. -/
theorem stretchFrom_error (t : Tick) (e v : Bool) (span : LowSpan) (ds : List Dip) :
    (stretchFrom t e v span ds).error = e := by
  induction ds generalizing v span with
  | nil => rfl
  | cons d ds ih =>
    unfold stretchFrom
    split
    · rfl
    · exact ih ..

/-- What a framing error leaves, where it is found: the frame in reception is discarded and a low stretch is held that
is still to be served (R191, R193). -/
theorem linkFraming_eq_some {rate : LinkRate} {low : LowRun} {t : Tick} {l m : Link}
    (h : linkFraming rate low t l = some m) :
    errorFits rate low t = true ∧
      ∃ w, w.error = true ∧ w.served = false ∧ m = { l with rx := .hunt, gap := none, low := some w } := by
  unfold linkFraming at h
  split at h
  · rename_i hf
    refine ⟨hf, ?_⟩
    obtain ⟨w, hw, rfl⟩ := Option.map_eq_some_iff.mp h
    refine ⟨w, ?_, ?_, rfl⟩ <;>
    · unfold lowAfterError at hw
      split at hw
      · cases hw; rfl
      · split at hw
        · split at hw
          · cases hw
          · rename_i hn; cases hw; simp_all
        · split at hw
          · cases hw; rfl
          · cases hw
  · cases h

@[simp] theorem linkAt_rx (r : LinkRate) (t : Tick) (l : Link) : (linkAt r t l).rx = l.rx := rfl
@[simp] theorem linkAt_gap (r : LinkRate) (t : Tick) (l : Link) : (linkAt r t l).gap = l.gap := rfl
@[simp] theorem linkAt_waiting (r : LinkRate) (t : Tick) (l : Link) : (linkAt r t l).waiting = l.waiting := rfl
@[simp] theorem linkAt_reply (r : LinkRate) (t : Tick) (l : Link) : (linkAt r t l).reply = l.reply := rfl
@[simp] theorem linkAt_notices (r : LinkRate) (t : Tick) (l : Link) : (linkAt r t l).notices = l.notices := rfl
@[simp] theorem linkAt_attention (r : LinkRate) (t : Tick) (l : Link) : (linkAt r t l).attention = l.attention := rfl

/-- Each link at `t` by itself. -/
@[simp] theorem linksAt_get (r : LinkRate) (t : Tick) (ls : Triple Link) (k : Station) :
    (linksAt r t ls).get k = linkAt r t (ls.get k) := by
  cases k <;> rfl

@[simp] theorem periodFalls_now (t : Tick) (m : Msy) (s : State) : (periodFalls t m s).now = t := rfl
@[simp] theorem periodFalls_msy (t : Tick) (m : Msy) (s : State) : (periodFalls t m s).msy = m := rfl
@[simp] theorem periodFalls_rate (t : Tick) (m : Msy) (s : State) : (periodFalls t m s).rate = s.rate := rfl
@[simp] theorem periodFalls_links (t : Tick) (m : Msy) (s : State) :
    (periodFalls t m s).links = linksAt s.rate t s.links := rfl
@[simp] theorem periodFalls_meu (t : Tick) (m : Msy) (s : State) : (periodFalls t m s).meu = s.meu := rfl
@[simp] theorem periodFalls_cca (t : Tick) (m : Msy) (s : State) : (periodFalls t m s).cca = s.cca := rfl
@[simp] theorem periodFalls_ccb (t : Tick) (m : Msy) (s : State) : (periodFalls t m s).ccb = s.ccb := rfl
@[simp] theorem periodFalls_stu (t : Tick) (m : Msy) (s : State) : (periodFalls t m s).stu = s.stu := rfl
@[simp] theorem periodFalls_vwa (t : Tick) (m : Msy) (s : State) : (periodFalls t m s).vwa = s.vwa := rfl
@[simp] theorem periodFalls_dsq (t : Tick) (m : Msy) (s : State) : (periodFalls t m s).dsq = s.dsq := rfl
@[simp] theorem periodFalls_pru (t : Tick) (m : Msy) (s : State) : (periodFalls t m s).pru = s.pru := rfl
@[simp] theorem periodFalls_rcu (t : Tick) (m : Msy) (s : State) : (periodFalls t m s).rcu = s.rcu := rfl
@[simp] theorem periodFalls_set (t : Tick) (m : Msy) (s : State) : (periodFalls t m s).set = s.set := rfl
@[simp] theorem periodFalls_pending (t : Tick) (m : Msy) (s : State) : (periodFalls t m s).pending = s.pending := rfl
@[simp] theorem periodFalls_issued (t : Tick) (m : Msy) (s : State) : (periodFalls t m s).issued = none := rfl

/-- Reading the controller that was put. -/
@[simp] theorem State.conv_putConv (s : State) (x : Side) (c : Conv) : (s.putConv x c).conv x = c := by
  cases x <;> rfl

/-- The other controller is as before. -/
@[simp] theorem State.conv_putConv_other (s : State) (x : Side) (c : Conv) :
    (s.putConv x c).conv (otherSide x) = s.conv (otherSide x) := by
  cases x <;> rfl

/-- The links after a notice is raised. -/
@[simp] theorem raise_links (k : Notice) (st : Station) (s : State) : (raise k st s).links = raiseAt k st s.links := rfl

/-- The protection unit after a published change of a condition. -/
@[simp] theorem takeCond_pru (k : Cause) (b : Bool) (s : State) : (takeCond k b s).pru = pruCond k b s.pru := rfl

@[simp] theorem vwaWake_chans (n : Period) (k : Chan) (old : ChanState) (p : Option SetValue) (v : Vwa) :
    (vwaWake n k old p v).chans = v.chans := rfl
@[simp] theorem vwaWake_level (n : Period) (k : Chan) (old : ChanState) (p : Option SetValue) (v : Vwa) :
    (vwaWake n k old p v).level = v.level := rfl
@[simp] theorem vwaWake_periodTaken (n : Period) (k : Chan) (old : ChanState) (p : Option SetValue) (v : Vwa) :
    (vwaWake n k old p v).periodTaken = v.periodTaken := rfl

/-- The profile noted of a channel that the speeds have brought out of PAUSED ahead of the watch's taking. -/
@[simp] theorem vwaWake_woken (n : Period) (k : Chan) (old : ChanState) (p : Option SetValue) (v : Vwa) :
    (vwaWake n k old p v).woken.get k =
      (if decide (old = .paused) && decide ((v.chans.get k).state ≠ .paused) && decide (v.periodTaken ≠ n)
       then p else none) := by
  simp [vwaWake]

@[simp] theorem vwaRewritten_chans (k : Chan) (v : Vwa) : (vwaRewritten k v).chans = v.chans := rfl
@[simp] theorem vwaRewritten_level (k : Chan) (v : Vwa) : (vwaRewritten k v).level = v.level := rfl
@[simp] theorem vwaRewritten_periodTaken (k : Chan) (v : Vwa) : (vwaRewritten k v).periodTaken = v.periodTaken := rfl

/-- A write of a profile ends the note of its channel. -/
@[simp] theorem vwaRewritten_woken (k : Chan) (v : Vwa) : (vwaRewritten k v).woken.get k = none := by
  simp [vwaRewritten]

/-- The identifier of a channel's profile names that channel. -/
@[simp] theorem profileChan_profileId (n : Chan) : profileChan (profileId n) = some n := by
  cases n <;> rfl

/-- What is noted of the other channels stays. -/
theorem vwaWake_woken_ne (n : Period) {k j : Chan} (old : ChanState) (p : Option SetValue) (v : Vwa) (h : j ≠ k) :
    (vwaWake n k old p v).woken.get j = v.woken.get j := Quad.get_put_ne _ _ h

/-- A channel in an evaluating state takes a staged profile at a period event only where that profile is the one noted as
the speeds of that event brought it out of PAUSED. -/
theorem takesAtPeriod_evaluating (woken staged : Option SetValue) (c : VChan) (h : evaluating c.state = true) :
    takesAtPeriod woken staged c = (woken.isSome && decide (woken = staged)) := by
  unfold takesAtPeriod evaluating at *
  cases hs : c.state <;> simp_all

/-- Reading the qualifier that was put. -/
@[simp] theorem Msy.line_putLine (m : Msy) (l : ZLine) (q : Qualifier) : (m.putLine l q).line l = q := by
  cases l <;> rfl

/-- Reading the qualifier that was put. -/
@[simp] theorem Meu.line_putLine (m : Meu) (l : PulseLine) (q : Qualifier) : (m.putLine l q).line l = q := by
  cases l <;> rfl

/-- What the coming edge is issued with where nothing of it is noted. -/
theorem State.issueAt_none (s : State) (t : Tick) (h : s.issued = none) :
    s.issueAt t = { period := s.msy.period + 1#32, pred := t, offset := s.set.originOffset, pEst := s.msy.pEst } := by
  simp [State.issueAt, h]

/-- What the coming edge is issued with where it is noted. -/
theorem State.issueAt_noted (s : State) (t : Tick) (x : EdgeIssue) (h : s.issued = some x)
    (hn : x.period = s.msy.period + 1#32) (ht : x.pred = t) : s.issueAt t = x := by
  simp [State.issueAt, h, hn, ht, Option.filter]

/-- What the coming edge is issued with is of its number and its instant. -/
theorem State.issueAt_edge (s : State) (t : Tick) :
    (s.issueAt t).period = s.msy.period + 1#32 ∧ (s.issueAt t).pred = t := by
  unfold State.issueAt
  split
  · rename_i x h
    have := Option.filter_eq_some_iff.mp h
    simp at this
    exact this.2
  · exact ⟨rfl, rfl⟩

end Sys2Proof.Machine
end

