-- ==== Sys2Proof/Laws/Wiring.lean ====
section
/-! SUPPORT. What the shared operations of `Machine/Wiring.lean` leave alone: none of them changes the timebase, the
link rate, the synchroniser, the measurement unit, the note of an issued edge or the queue (`SameBase`), and those below a report change no more
than the links, the protection unit and the record unit (`SameDrive`). -/

namespace Sys2Proof.Machine

/-- The timebase, the link rate, the synchroniser, the measurement unit, the note of an issued edge and the queue are the
same. -/
structure SameBase (s t : State) : Prop where
  now : t.now = s.now
  rate : t.rate = s.rate
  msy : t.msy = s.msy
  meu : t.meu = s.meu
  issued : t.issued = s.issued
  pending : t.pending = s.pending

theorem SameBase.refl (s : State) : SameBase s s := ⟨rfl, rfl, rfl, rfl, rfl, rfl⟩

theorem SameBase.trans {s t u : State} (h : SameBase s t) (k : SameBase t u) : SameBase s u :=
  ⟨k.now.trans h.now, k.rate.trans h.rate, k.msy.trans h.msy, k.meu.trans h.meu, k.issued.trans h.issued,
   k.pending.trans h.pending⟩

/-- As `trans`, the later step first. -/
theorem SameBase.after {s t u : State} (k : SameBase t u) (h : SameBase s t) : SameBase s u := h.trans k

/-- A fold of steps that keep the base keeps it. -/
theorem SameBase.foldl {α : Type} {f : State → α → State} (h : ∀ s a, SameBase s (f s a)) (l : List α) (s : State) :
    SameBase s (l.foldl f s) := by
  induction l generalizing s with
  | nil => exact .refl s
  | cons a l ih => exact (h s a).trans (ih (f s a))

/-- The base, and with it the converters, the speed and torque unit, the vibration watch, the sequencer and the
settings table, are the same. -/
structure SameDrive (s t : State) : Prop extends SameBase s t where
  cca : t.cca = s.cca
  ccb : t.ccb = s.ccb
  stu : t.stu = s.stu
  vwa : t.vwa = s.vwa
  dsq : t.dsq = s.dsq
  set : t.set = s.set

theorem SameDrive.refl (s : State) : SameDrive s s := ⟨.refl s, rfl, rfl, rfl, rfl, rfl, rfl⟩

theorem SameDrive.trans {s t u : State} (h : SameDrive s t) (k : SameDrive t u) : SameDrive s u :=
  ⟨h.toSameBase.trans k.toSameBase, k.cca.trans h.cca, k.ccb.trans h.ccb, k.stu.trans h.stu, k.vwa.trans h.vwa,
   k.dsq.trans h.dsq, k.set.trans h.set⟩

/-- As `trans`, the later step first. -/
theorem SameDrive.after {s t u : State} (k : SameDrive t u) (h : SameDrive s t) : SameDrive s u := h.trans k

/-- A fold of steps that keep the drive's blocks keeps them. -/
theorem SameDrive.foldl {α : Type} {f : State → α → State} (h : ∀ s a, SameDrive s (f s a)) (l : List α) (s : State) :
    SameDrive s (l.foldl f s) := by
  induction l generalizing s with
  | nil => exact .refl s
  | cons a l ih => exact (h s a).trans (ih (f s a))

theorem raiseTo_same (k : Notice) (sts : List Station) (s : State) : SameDrive s (raiseTo k sts s) :=
  SameDrive.foldl (f := fun u st => raise k st u) (fun _ _ => ⟨⟨rfl, rfl, rfl, rfl, rfl, rfl⟩, rfl, rfl, rfl, rfl, rfl, rfl⟩) sts s

/-- Raising notices changes only the links. -/
theorem raiseTo_units (k : Notice) (sts : List Station) (s : State) :
    (raiseTo k sts s).pru = s.pru ∧ (raiseTo k sts s).rcu = s.rcu := by
  induction sts generalizing s with
  | nil => exact ⟨rfl, rfl⟩
  | cons a l ih => exact ih (raise k a s)

theorem takeWarning_same (k : Cause) (s : State) : SameDrive s (takeWarning k s) := by
  unfold takeWarning
  split
  · exact .refl s
  · exact SameDrive.after (raiseTo_same ..) ⟨⟨rfl, rfl, rfl, rfl, rfl, rfl⟩, rfl, rfl, rfl, rfl, rfl, rfl⟩

theorem takeMild_same (s : State) (m : Msg) : SameDrive s (takeMild s m) := by
  cases m with
  | cond k b => exact ⟨⟨rfl, rfl, rfl, rfl, rfl, rfl⟩, rfl, rfl, rfl, rfl, rfl, rfl⟩
  | report k n => exact takeWarning_same k s
  | notice k st => exact ⟨⟨rfl, rfl, rfl, rfl, rfl, rfl⟩, rfl, rfl, rfl, rfl, rfl, rfl⟩
  | capture x c => exact ⟨⟨rfl, rfl, rfl, rfl, rfl, rfl⟩, rfl, rfl, rfl, rfl, rfl, rfl⟩

theorem raiseAll_same (ms : List Msg) (s : State) : SameDrive s (raiseAll ms s) := SameDrive.foldl takeMild_same ms s

theorem tellOwners_same (ids : List Nat) (s : State) : SameDrive s (tellOwners ids s) := raiseTo_same ..

theorem handThermal_base (s : State) : SameBase s (handThermal s) := by
  unfold handThermal
  exact SameBase.after (SameDrive.foldl takeMild_same _ _).toSameBase ⟨rfl, rfl, rfl, rfl, rfl, rfl⟩

/-- An apply of STOPPED settings moves neither the drive state, the vibration watch nor the settings table. -/
theorem handStopped_same (drive : Drive) (ids : List Nat) (s : State) :
    SameBase s (handStopped drive ids s) ∧ (handStopped drive ids s).dsq = s.dsq ∧
    (handStopped drive ids s).vwa = s.vwa ∧ (handStopped drive ids s).set = s.set := by
  unfold handStopped
  have h1 : ∀ u : State, SameBase u (handThermal u) ∧ (handThermal u).dsq = u.dsq ∧ (handThermal u).vwa = u.vwa ∧
      (handThermal u).set = u.set := fun u =>
    ⟨handThermal_base u, (SameDrive.foldl takeMild_same _ _).dsq, (SameDrive.foldl takeMild_same _ _).vwa,
     (SameDrive.foldl takeMild_same _ _).set⟩
  dsimp only
  split <;> split <;> split <;>
    first
    | exact ⟨⟨(h1 _).1.now, (h1 _).1.rate, (h1 _).1.msy, (h1 _).1.meu, (h1 _).1.issued, (h1 _).1.pending⟩, (h1 _).2.1, (h1 _).2.2.1, (h1 _).2.2.2⟩
    | exact ⟨⟨rfl, rfl, rfl, rfl, rfl, rfl⟩, rfl, rfl, rfl⟩

theorem setEntry_base (a b : Drive) (s : State) : SameBase s (setEntry a b s) := by
  unfold setEntry
  split
  · refine SameBase.after (handStopped_same ..).1 ?_
    exact SameBase.after (tellOwners_same ..).toSameBase ⟨rfl, rfl, rfl, rfl, rfl, rfl⟩
  · exact ⟨rfl, rfl, rfl, rfl, rfl, rfl⟩

/-- The settings table's entry leaves the sequencer and the vibration watch as they are. -/
theorem setEntry_units (a b : Drive) (s : State) : (setEntry a b s).dsq = s.dsq ∧ (setEntry a b s).vwa = s.vwa := by
  unfold setEntry
  split
  · exact ⟨(handStopped_same ..).2.1.trans (tellOwners_same ..).dsq, (handStopped_same ..).2.2.1.trans (tellOwners_same ..).vwa⟩
  · exact ⟨rfl, rfl⟩

theorem driveTold_base (d : Dsq) (s : State) : SameBase s (driveTold d s) :=
  ⟨rfl, rfl, rfl, rfl, rfl, rfl⟩

theorem moveDrive_base (o : Sched) (d : Dsq) (s : State) : SameBase s (moveDrive o d s) := by
  unfold moveDrive
  split
  · exact ⟨rfl, rfl, rfl, rfl, rfl, rfl⟩
  split
  · exact SameBase.after (driveTold_base _ _) (SameBase.after (setEntry_base _ _ _) ⟨rfl, rfl, rfl, rfl, rfl, rfl⟩)
  · exact SameBase.after (setEntry_base _ _ _) (SameBase.after (driveTold_base _ _) ⟨rfl, rfl, rfl, rfl, rfl, rfl⟩)

/-- After a move of the drive the sequencer is the one given, and the vibration watch is as before. -/
theorem moveDrive_units (o : Sched) (d : Dsq) (s : State) : (moveDrive o d s).dsq = d ∧ (moveDrive o d s).vwa = s.vwa := by
  unfold moveDrive
  split
  · exact ⟨rfl, rfl⟩
  split
  · exact ⟨(setEntry_units ..).1, (setEntry_units ..).2⟩
  · exact ⟨(setEntry_units ..).1, (setEntry_units ..).2⟩

theorem demand_base (o : Sched) (c : Class) (s : State) : SameBase s (demand o c s) := moveDrive_base ..

theorem openEpisode_base (k : Cause) (c : Class) (s : State) : SameBase s (openEpisode k c s) := by
  unfold openEpisode
  exact SameBase.after (raiseTo_same ..).toSameBase (SameBase.after (raiseAll_same ..).toSameBase ⟨rfl, rfl, rfl, rfl, rfl, rfl⟩)

theorem classRise_base (c : Class) (b : Bool) (s : State) : SameBase s (classRise c b s).1 := by
  unfold classRise
  split
  · exact (raiseTo_same ..).toSameBase
  · exact .refl s

theorem latchReport_base (k : Cause) (n : Period) (c : Class) (s : State) : SameBase s (latchReport k n c s).1 := by
  unfold latchReport
  split
  · exact .refl s
  · exact SameBase.after (classRise_base ..) ⟨rfl, rfl, rfl, rfl, rfl, rfl⟩
  · exact SameBase.after (classRise_base ..) ⟨rfl, rfl, rfl, rfl, rfl, rfl⟩

theorem takeCause_base (k : Cause) (n : Period) (c : Class) (s : State) : SameBase s (takeCause k n c s).1 := by
  unfold takeCause
  split
  · exact latchReport_base ..
  · exact openEpisode_base ..

/-- The judgement of a report changes no more than the links, the protection unit and the record unit. -/
theorem judge_base (k : Cause) (n : Period) (s : State) : SameBase s (judge k n s).1 := by
  unfold judge
  split
  · exact (takeWarning_same ..).toSameBase
  all_goals exact takeCause_base ..

theorem takeReport_base (o : Sched) (k : Cause) (n : Period) (s : State) : SameBase s (takeReport o k n s) := by
  unfold takeReport
  split
  · exact judge_base ..
  · exact (judge_base ..).trans (demand_base ..)

theorem takeMsg_base (o : Sched) (s : State) (m : Msg) : SameBase s (takeMsg o s m) := by
  cases m with
  | cond k b => exact ⟨rfl, rfl, rfl, rfl, rfl, rfl⟩
  | report k n => exact takeReport_base ..
  | notice k st => exact ⟨rfl, rfl, rfl, rfl, rfl, rfl⟩
  | capture x c => exact ⟨rfl, rfl, rfl, rfl, rfl, rfl⟩

/-- Messages change no timebase, link rate, synchroniser, measurement unit or queue. -/
theorem deliver_base (o : Sched) (ms : List Msg) (s : State) : SameBase s (deliver o ms s) :=
  SameBase.foldl (takeMsg_base o) _ s

/-- No message, in any order. -/
@[simp] theorem orderMsgs_nil (o : Sched) : orderMsgs o [] = [] := by
  have h : ∀ l : List Cause, l.flatMap (fun _ => ([] : List Msg)) = [] := fun l => by simp
  simp [orderMsgs, h]

/-- No message is nothing. -/
@[simp] theorem deliver_nil (o : Sched) (s : State) : deliver o [] s = s := by simp [deliver]

theorem posted_base (o : Sched) (r : State × List Msg) : SameBase r.1 (posted o r) := deliver_base ..

theorem chanPut_base (n : Chan) (c : VChan) (s : State) : SameBase s (chanPut n c s).1 := ⟨rfl, rfl, rfl, rfl, rfl, rfl⟩

theorem putChan_base (o : Sched) (n : Chan) (c : VChan) (s : State) : SameBase s (putChan o n c s) :=
  (chanPut_base n c s).trans (posted_base ..)

theorem chanStaged_base (n : Chan) (s : State) : SameBase s (chanStaged n s).1 := by
  unfold chanStaged
  split
  · exact .refl s
  · exact SameBase.after (chanPut_base ..) (SameBase.after (tellOwners_same ..).toSameBase ⟨rfl, rfl, rfl, rfl, rfl, rfl⟩)

theorem takeStaged_base (o : Sched) (n : Chan) (s : State) : SameBase s (takeStaged o n s) :=
  (chanStaged_base n s).trans (posted_base ..)

/-! ### A moment at which several blocks act -/

/-- A fold of steps of a flow that keep the base keeps it. -/
theorem Flow.foldl_base {α : Type} {f : Flow → α → Flow} (h : ∀ g a, SameBase g.state (f g a).state) (l : List α)
    (g : Flow) : SameBase g.state (l.foldl f g).state := by
  induction l generalizing g with
  | nil => exact .refl g.state
  | cons a l ih => exact (h g a).trans (ih (f g a))

theorem Flow.send_base (o : Sched) (later : List Taking) (c : Class) (f : Flow) :
    SameBase f.state (Flow.send o later c f).state := by
  unfold Flow.send
  split
  · exact .refl f.state
  · exact demand_base ..

theorem Flow.report_base (o : Sched) (later : List Taking) (k : Cause) (n : Period) (f : Flow) :
    SameBase f.state (Flow.report o later k n f).state := by
  unfold Flow.report
  split
  · exact judge_base ..
  · exact (judge_base k n f.state).trans (Flow.send_base o later _ { f with state := (judge k n f.state).1 })

theorem Flow.take_base (o : Sched) (later : List Taking) (f : Flow) (m : Msg) :
    SameBase f.state (Flow.take o later f m).state := by
  cases m with
  | report k n => exact Flow.report_base ..
  | cond k b => exact ⟨rfl, rfl, rfl, rfl, rfl, rfl⟩
  | notice k st => exact ⟨rfl, rfl, rfl, rfl, rfl, rfl⟩
  | capture x c => exact ⟨rfl, rfl, rfl, rfl, rfl, rfl⟩

theorem Flow.arrive_base (o : Sched) (later : List Taking) (f : Flow) (m : Msg) :
    SameBase f.state (Flow.arrive o later f m).state := by
  unfold Flow.arrive
  split
  · exact .refl f.state
  · exact Flow.take_base ..

theorem Flow.perform_base (o : Sched) (later : List Taking) (r : State × List Msg) (f : Flow) :
    SameBase r.1 (Flow.perform o later r f).state :=
  Flow.foldl_base (Flow.take_base o later) _ { f with state := r.1 }

theorem Flow.post_base (o : Sched) (later : List Taking) (r : State × List Msg) (f : Flow) :
    SameBase r.1 (Flow.post o later r f).state :=
  Flow.foldl_base (Flow.arrive_base o later) _ { f with state := r.1 }

theorem Flow.open_base (o : Sched) (later : List Taking) (f : Flow) (m : Mail) :
    SameBase f.state (Flow.open o later f m).state := by
  cases m with
  | msg m => exact Flow.take_base ..
  | demand c => exact Flow.send_base ..

theorem Flow.collect_base (o : Sched) (later : List Taking) (due : Mail → Bool) (f : Flow) :
    SameBase f.state (Flow.collect o later due f).state :=
  Flow.foldl_base (Flow.open_base o later) _ { f with mail := f.mail.filter (fun m => !due m) }

/-- With no taking to come a message is taken as it is outside a flow. -/
theorem Flow.take_now (o : Sched) (f : Flow) (m : Msg) :
    Flow.take o [] f m = { f with state := takeMsg o f.state m } := by
  cases m with
  | report k n =>
    simp only [Flow.take, Flow.report, takeMsg, takeReport, Flow.send]
    cases (judge k n f.state).2 <;> simp
  | cond k b => rfl
  | notice k st => rfl
  | capture x c => rfl

/-- With no taking to come a message that arrives is taken at once, as it is outside a flow. -/
theorem Flow.arrive_now (o : Sched) (f : Flow) (m : Msg) :
    Flow.arrive o [] f m = { f with state := takeMsg o f.state m } := by
  cases m with
  | report k n => simpa [Flow.arrive, mustWait] using Flow.take_now o f (.report k n)
  | cond k b => rfl
  | notice k st => rfl
  | capture x c => rfl

/-- With no taking to come the messages of a block that are taken at once are taken one by one. -/
theorem Flow.perform_now (o : Sched) (r : State × List Msg) (f : Flow) :
    Flow.perform o [] r f = { f with state := r.2.foldl (takeMsg o) r.1 } := by
  obtain ⟨s, ms⟩ := r
  unfold Flow.perform
  induction ms generalizing s with
  | nil => rfl
  | cons m ms ih => simp only [List.foldl_cons, Flow.take_now]; exact ih _

/-- With no taking to come a block's messages are taken at once, in the order `o` gives. -/
theorem Flow.post_now (o : Sched) (r : State × List Msg) (f : Flow) :
    Flow.post o [] r f = { f with state := deliver o r.2 r.1 } := by
  unfold Flow.post deliver
  generalize orderMsgs o r.2 = ms
  generalize r.1 = s
  induction ms generalizing s with
  | nil => rfl
  | cons m ms ih => simp only [List.foldl_cons, Flow.arrive_now]; exact ih _

/-- After the last taking, with nothing waiting, nothing happens. -/
@[simp] theorem runTakings_end (o : Sched) (n : Period) (t : Tick) (g : Option Origin) (s : State) :
    runTakings o n t g [] { state := s, mail := [] } = { state := s, mail := [] } := rfl

/-- A block's work without messages, taken at once. -/
@[simp] theorem Flow.perform_nil (o : Sched) (later : List Taking) (s : State) (f : Flow) :
    Flow.perform o later (s, []) f = { f with state := s } := rfl

/-- A block's work without messages. -/
@[simp] theorem Flow.post_nil (o : Sched) (later : List Taking) (s : State) (f : Flow) :
    Flow.post o later (s, []) f = { f with state := s } := by simp [Flow.post]

theorem eachChan_base (o : Sched) (later : List Taking) (work : Chan → State → State × List Msg)
    (h : ∀ n s, SameBase s (work n s).1) (f : Flow) : SameBase f.state (eachChan o later work f).state :=
  Flow.foldl_base (fun g n => (h n g.state).trans (Flow.post_base ..)) _ f

theorem chanSpeeds_base (n : Chan) (s : State) : SameBase s (chanSpeeds n s).1 := ⟨rfl, rfl, rfl, rfl, rfl, rfl⟩

theorem stallClass_base (n : Period) (s : State) : SameBase s (stallClass n s).1 := by
  unfold stallClass
  split
  · exact ⟨rfl, rfl, rfl, rfl, rfl, rfl⟩
  · exact .refl s

theorem chanAction_base (ids : List Nat) (n : Chan) (s : State) : SameBase s (chanAction ids n s).1 := by
  unfold chanAction
  split
  · exact chanPut_base ..
  · exact .refl s

theorem handPeriod_base (o : Sched) (n : Period) (ids : List Nat) (later : List Taking) (f : Flow) :
    SameBase f.state (handPeriod o n ids later f).state := by
  unfold handPeriod
  have h := (handStopped_same f.state.dsq.drive ids f.state).1.trans
    (eachChan_base o later (chanAction ids) (chanAction_base ids) { f with state := handStopped f.state.dsq.drive ids f.state })
  dsimp only
  split
  · exact h.trans ((stallClass_base ..).trans (Flow.perform_base ..))
  · exact h

theorem workStu_base (o : Sched) (n : Period) (t : Tick) (later : List Taking) (f : Flow) :
    SameBase f.state (workStu o n t later f).state := by
  unfold workStu
  exact SameBase.after (eachChan_base _ _ _ chanSpeeds_base _)
    (SameBase.after (Flow.post_base _ _ _ _) ⟨rfl, rfl, rfl, rfl, rfl, rfl⟩)

theorem chanPeriod_base (woken : Quad (Option SetValue)) (n : Chan) (s : State) : SameBase s (chanPeriod woken n s).1 := by
  unfold chanPeriod
  split
  · exact chanStaged_base ..
  · exact .refl s

theorem workVwa_base (o : Sched) (n : Period) (later : List Taking) (f : Flow) :
    SameBase f.state (workVwa o n later f).state := by
  unfold workVwa
  exact SameBase.after (eachChan_base _ _ _ (chanPeriod_base _) _) ⟨rfl, rfl, rfl, rfl, rfl, rfl⟩

theorem workDsq_base (o : Sched) (n : Period) (s : State) : SameBase s (workDsq o n s).1 := moveDrive_base ..

theorem lossOf_base (s : State) : SameBase s (lossOf s).1 := by
  unfold lossOf
  split
  · exact ⟨rfl, rfl, rfl, rfl, rfl, rfl⟩
  · exact .refl s

theorem workPru_base (n : Period) (s : State) : SameBase s (workPru n s).1 := by
  unfold workPru
  split
  · exact SameBase.after (lossOf_base _) ⟨rfl, rfl, rfl, rfl, rfl, rfl⟩
  · exact ⟨rfl, rfl, rfl, rfl, rfl, rfl⟩

theorem workSet_base (o : Sched) (n : Period) (later : List Taking) (f : Flow) :
    SameBase f.state (workSet o n later f).state := by
  unfold workSet
  exact SameBase.after (handPeriod_base _ _ _ _ _) (SameBase.after (tellOwners_same _ _).toSameBase ⟨rfl, rfl, rfl, rfl, rfl, rfl⟩)

theorem workRcu_base (n : Period) (s : State) : SameBase s (workRcu n s) := by
  unfold workRcu
  exact SameBase.after (raiseAll_same ..).toSameBase ⟨rfl, rfl, rfl, rfl, rfl, rfl⟩

/-- A block's period work leaves the timebase, the link rate, the synchroniser, the note of an issued edge and the queue
as they are. -/
theorem periodWork_base (o : Sched) (n : Period) (t : Tick) (b : Block) (later : List Taking) (f : Flow) :
    (periodWork o n t b later f).state.now = f.state.now ∧ (periodWork o n t b later f).state.rate = f.state.rate ∧
    (periodWork o n t b later f).state.msy = f.state.msy ∧ (periodWork o n t b later f).state.issued = f.state.issued ∧
    (periodWork o n t b later f).state.pending = f.state.pending := by
  have h : ∀ {u : State}, SameBase f.state u →
      u.now = f.state.now ∧ u.rate = f.state.rate ∧ u.msy = f.state.msy ∧ u.issued = f.state.issued ∧
      u.pending = f.state.pending :=
    fun k => ⟨k.now, k.rate, k.msy, k.issued, k.pending⟩
  cases b with
  | meu => exact ⟨rfl, rfl, rfl, rfl, rfl⟩
  | stu => exact h (workStu_base ..)
  | vwa => exact h (workVwa_base ..)
  | dsq => exact h ((workDsq_base ..).trans (Flow.post_base ..))
  | pru => exact h ((workPru_base ..).trans (Flow.perform_base ..))
  | set => exact h (workSet_base ..)
  | rcu => exact h (workRcu_base ..)

/-- Within a period event that the synchroniser has issued, nothing is noted. -/
@[simp] theorem Flow.issue_issued (n : Period) (t : Tick) (f : Flow) (h : f.state.msy.period = n) :
    Flow.issue n t f = f := by simp [Flow.issue, h]

/-- A taking of a period event ahead of its edge changes only the note before the block's work. -/
theorem Flow.issue_base (n : Period) (t : Tick) (f : Flow) :
    { (Flow.issue n t f).state with issued := f.state.issued } = f.state ∧ (Flow.issue n t f).mail = f.mail := by
  unfold Flow.issue
  split <;> exact ⟨rfl, rfl⟩

end Sys2Proof.Machine
end

