-- ==== Sys2Proof/WellFormed.lean ====
section
/-! DEFINITION. When a command is well formed: its order of takings names nothing twice, and the value field of a
PUT SETTING fits a frame. Ill-formed commands still have a meaning (`Sched` is read without its repeats). -/

namespace Sys2Proof

/-- A list names nothing twice. -/
def namesOnce {α : Type} [DecidableEq α] : List α → Bool
  | [] => true
  | x :: xs => !xs.contains x && namesOnce xs

/-- An order of takings that names nothing twice. -/
def Sched.wf (o : Sched) : Bool := namesOnce o.takings && namesOnce o.reports && namesOnce o.channels

/-- A value field of PUT SETTING that fits a frame: at most 246 bytes (section 10.2). -/
def valueFits (value : List Byte) : Bool := decide (value.length ≤ 246)

/-- A well-formed command. -/
def Instr.wf : Instr → Bool
  | .powerOn _ _ o | .resetLineRelease _ _ o | .zeroCrossRawEdge _ _ _ o | .qualifiedCrossing _ o | .windowClose o
  | .syncLost o | .referenceEdge o | .substitutePeriodEvent o | .holdExpired o | .speedSensorExcluded _ o
  | .pinionMismatch o | .breakawayFailed o | .stall o | .permitLapse o | .closeDelayEnd o | .coastTimeout o
  | .contactorRelease o | .currentNotDecaying o | .origin o | .faultArrival _ _ o | .currentSample _ o
  | .currentSensor _ _ o | .vibrationScan _ o | .sensorFaultSet _ _ o | .sensorFaultClear _ _ o
  | .pulseRawEdge _ _ _ o | .pulseQualifiedEdge _ o | .markerDeadline _ o | .extTripRawEdge _ _ o
  | .extTripQualified o | .rxByte _ _ _ o | .replySent _ o => o.wf
  | .lockingTimeout | .recordSealed | .firingIssue _ | .burstPhaseEnd _ | .escalationDecay _ | .faultClear _ _
  | .rxFramingError _ _ _ | .gapTimeout _ | .linkReset _ _ => true
  | .putSetting _ _ _ value _ o => valueFits value && o.wf
  | .status _ _ _ o | .notices _ _ _ o | .getSetting _ _ _ _ o | .listRecords _ _ _ o | .openRecord _ _ _ _ o
  | .nextChunk _ _ _ o | .channel _ _ _ _ o | .table _ _ _ _ _ o | .capture _ _ _ o | .speedRef _ _ _ _ o
  | .start _ _ _ o | .stop _ _ _ o | .toAux _ _ _ o | .fromAux _ _ _ o | .permit _ _ _ o | .withdraw _ _ _ o
  | .trip _ _ _ o | .resetTrip _ _ _ o | .clearTable _ _ _ _ o => o.wf

end Sys2Proof
end

