-- ==== Sys2Proof/Tests/Slice0.lean ====
section
/-! SUPPORT. Tests: ill-formed commands that WellFormed refuses, the manual's worked examples, and for each statement
of the certificate a state and operands that meet its hypotheses. -/

namespace Sys2Proof.Machine.Tests

open Sys2Proof Sys2Proof.Machine

-- One theorem after the other: the many small kernel evaluations below would each hold a thread of its own.
set_option Elab.async false

/-! ### Well-formedness -/

/-- The order with no preference. -/
def plainOrder : Sched := { takings := [], reports := [], channels := [], applyFirst := false }

theorem test_wf_refuses_a_taking_named_twice :
    Instr.wf (.referenceEdge { plainOrder with takings := [.period .stu, .period .stu] }) = false := by decide

theorem test_wf_refuses_a_report_named_twice :
    Instr.wf (.currentSample ⟨0, 0, 0, 0⟩ { plainOrder with reports := [.stall, .overspeed, .stall] }) = false := by decide

theorem test_wf_refuses_a_channel_named_twice :
    Instr.wf (.vibrationScan ⟨0, 0, 0, 0⟩ { plainOrder with channels := [.c1, .c1] }) = false := by decide

theorem test_wf_refuses_a_long_value :
    Instr.wf (.putSetting .p 1 2 (List.replicate 247 0) 5 plainOrder) = false := by decide +kernel

theorem test_wf_admits_the_longest_value :
    Instr.wf (.putSetting .p 1 2 (List.replicate 246 0) 5 plainOrder) = true := by decide +kernel

/-! ### Worked examples of the manual -/

/-- R192's check value. -/
theorem test_crc_of_nine_bytes :
    crc [0x31, 0x32, 0x33, 0x34, 0x35, 0x36, 0x37, 0x38, 0x39] = 0x29B1#16 := by decide +kernel

/-- Section 2.9: raw 3071 at offset 2048 and gain 16384 is 16,368; gain 15000 gives 14,985; 2047 at gain 1000 gives 0. -/
theorem test_scaling :
    scaleRaw 3071 2048 16384 = 16368 ∧ scaleRaw 3071 2048 15000 = 14985 ∧ scaleRaw 2047 2048 1000 = 0 ∧
    scaleRaw 2000 2048 16384 = 0 := by decide

/-- Section 1.9: the two angles of the phase check and the half-width of the first window. -/
theorem test_phase_angles :
    phaseAngle (some 2266700) 2200000 200040 = some 16388 ∧ phaseAngle (some 2333360) 2200000 200040 = some 32768 ∧
    windowTicks 1024 200005 = 4166 ∧ ringMean [199980, 200020, 199980, 200040] 0 = 200005 := by decide

/-- The table of R79. -/
theorem test_envelopes :
    [0, 1, 2, 3].map (fun l => envelope setRelease l none) = [36045, 30694, 25203, 18022] ∧
    [0, 1, 2, 3].map (fun l => envelope setRelease l (some 0)) = [52429, 44646, 36659, 26214] := by decide

/-- Section 1.10: origin instants at offsets 0, 2048 and 48640. -/
theorem test_origin_instants :
    [Thy.t1, .t2, .t6].map (fun y => (originOf 0 0 200000 1 .real y).stamp.toNat) = [0, 33333, 166666] ∧
    [Thy.t1, .t3, .t6].map (fun y => (originOf 0 2048 200000 1 .real y).stamp.toNat) = [8333, 75000, 175000] ∧
    [Thy.t1, .t2].map (fun y => (originOf 0 48640 200000 1 .real y).stamp.toNat) = [197916, 31250] := by
  decide +kernel

/-- Section 2.11: the bias after raw 2100 and then 1990, and the two sample values. -/
theorem test_bias_tracking :
    scanValue 2100 ⟨2097152, 0, false⟩ = 52 ∧ biasNext 2100 2097152 = 2097204 ∧
    scanValue 1990 ⟨2097204, 0, false⟩ = -58 ∧ biasNext 1990 2097204 = 2097146 := by decide

/-- Section 3.5: one step of the regulator, by its parts. -/
theorem test_regulator_step :
    integCandidate 40 512 1769472 = 1789952 ∧ demandU 600 512 1789952 = 8192 ∧ rawAngle 8192 = 8192 ∧
    ditherDelay 8192 200000 0 = (33333, 16384) ∧ ditherDelay 8192 200000 32768 = (33334, 0) := by decide +kernel

/-- Section 4.2, the table of speed estimates. -/
theorem test_speed_estimates :
    speedEstimate setRelease 9500000 ⟨some 9333333, some 9000000⟩ = 16384 ∧
    speedEstimate setRelease 10100000 ⟨some 9999999, some 9333333⟩ = 8192 ∧
    speedEstimate setRelease 11000000 ⟨some 9999999, some 9333333⟩ = 5461 ∧
    speedEstimate setRelease 50000000 ⟨some 9999999, some 9333333⟩ = 0 ∧
    speedEstimate setRelease 50000000 ⟨some 9999999, none⟩ = 0 := by decide +kernel

/-- Section 4.6, the table of thermal steps. -/
theorem test_thermal_account :
    [0, 16384, 20000, 24576, 28000].map (fun i => accountNext setRelease i 30720000) =
    [30703616, 30720000, 30728030, 30740480, 30751467] := by decide +kernel

/-- Section 4.7: the split at a hot motor, with a negative side, and with one converter carrying the load. -/
theorem test_splits :
    splitTorque 128 300 9000 24576 20000 = ⟨9000, 11000, true⟩ ∧
    splitTorque 64 (-1638) 24576 24576 1000 = ⟨0, 1000, false⟩ ∧
    splitTorque 128 0 0 24576 30000 = ⟨0, 24576, true⟩ := by decide +kernel

/-- Section 5.10: bins, table steps and figures. -/
theorem test_binning :
    binOf 7000000 20000000 = 22 ∧ binOf 19990000 20000000 = 63 ∧ binOf 20080000 20000000 = 63 ∧
    markerRejected 505000000 500000000 (some 20000000) = true ∧ binUpdate 2 80 18720 156 = 90 ∧
    binUpdate 2 80 78 1 = 80 ∧ binUpdate 2 (-60) (-71) 1 = -62 ∧
    residFigure ⟨[], [], 1000000000, 10050⟩ = 315 := by decide +kernel

/-- R49: both ends of the arccos table. -/
theorem test_arccos_ends : rawAngle (-16384) = 24576 ∧ rawAngle 16384 = 0 ∧ rawAngle 0 = 12288 := by decide +kernel

/-- Power-on with the lines and the tick that Config names gives State.reset. -/
theorem test_power_on_gives_reset (o : Sched) :
    exec (.powerOn Config.resetTick Config.resetPins o) State.reset = .next State.reset := rfl

/-- R55: the lines of T1 and of T2. -/
theorem test_gate_pairs : gatePair .t1 = 0b100001#6 ∧ gatePair .t2 = 0b000011#6 := by decide

/-- The table gives no row bits, so no word spells a command. -/
theorem test_decode_spells_no_command : decodeTableWord 8 1 = none := rfl

/-! ### States that meet the hypotheses of the statements -/

/-- Reset, 50 Hz locked, a prediction at 1,000,000 whose edge is pending, and no record yet. -/
def locked : State :=
  { State.reset with
    msy := { State.reset.msy with
      sync := .locked, ring := [200000], pEst := 200000, lastAccepted := some 800000, subst := none,
      prediction := some { pred := 1000000, half := 4166, served := false }, pendingEdge := some 1000000 } }

/-- `locked` in the drive state `d`, with the lines and the enable of that state and the permit present. -/
def driven (d : Drive) : State :=
  { locked with
    dsq := { locked.dsq with
      drive := d, enable := enableOf d,
      contactor := (match d with | .blocked | .tripped | .aux => false | _ => true),
      auxEn := decide (d = .aux) },
    pru := { locked.pru with permit := true, permitCount := 250, driveView := d },
    rcu := { locked.rcu with driveView := d },
    set := { locked.set with driveView := d },
    cca := { locked.cca with state := if enableOf d then .firing else .off },
    ccb := { locked.ccb with state := if enableOf d then .firing else .off } }

/-- A history entry. -/
def someEntry : Entry := State.reset.entry 7

/-- A record of the monitoring station, complete but for one entry. -/
def someRecord : Record :=
  { baseRecord .manual 5 .run { c := false, p := false, m := true } with
    requester := some .m, trigger := some 7, pre := 1, post := 2, entries := [someEntry, someEntry] }

/-- `locked` with `someRecord` FILLING in slot 0. -/
def recording : State :=
  { locked with rcu := { locked.rcu with slots := locked.rcu.slots.put .s0 (some someRecord), age := [.s0],
                                         filling := some .s0, mark := true, counter := 6 } }

/-- A reply in transmission. -/
def someReply : Reply := { frame := frameOf [1, 2, 0], started := 500 }

/-- An ACTIVE class B episode of STATION_TRIP in TRIPPED, with its record 5 sealed and read by P. -/
def tripped : State :=
  { driven .tripped with
    pru := { (driven .tripped).pru with active := true, cls := some .b, firstOut := some .stationTrip,
                                        latched := [⟨.stationTrip, .b⟩], record := some 5, trip := true },
    rcu := { (driven .tripped).rcu with
      slots := locked.rcu.slots.put .s0 (some { someRecord with
        kind := .trip, isSealed := true, truncated := true, marks := { c := false, p := true, m := false } }),
      age := [.s0], pinned := some 5, counter := 6 } }

/-- A pending candidate on ZA with the level and stamp given. -/
def zaCandidate (level : Bool) (stamp : Tick) (s : State) : State :=
  { s with msy := { s.msy with za := { level := !level, cand := some { level := level, stamp := stamp } } } }

theorem witness_queue_has_a_front : ∃ s : State, s.pending = [.lockingTimeout] :=
  ⟨{ State.reset with pending := [.lockingTimeout] }, rfl⟩

theorem witness_a_request_is_a_command : commandRequest (.status .c 1 5 plainOrder) ≠ none := by decide

/-- The release with EXT_TRIP active. -/
def extPins : Pins := { Config.resetPins with extTrip := true }

theorem witness_reset_pins : Config.resetPins.extTrip = false ∧ extPins.extTrip = true := ⟨rfl, rfl⟩

/-- A pinned record in slot 0 and a FILLING one in slot 1, for the reset line. -/
def pinnedAndFilling : State :=
  { tripped with rcu := { tripped.rcu with slots := tripped.rcu.slots.put .s1 (some { someRecord with number := 6 }),
                                           filling := some .s1, mark := true } }

theorem witness_reset_line_store :
    (∃ r, pinnedAndFilling.rcu.slots.get .s0 = some r ∧ pinnedAndFilling.rcu.pinned = some r.number) ∧
    (∃ r, pinnedAndFilling.rcu.slots.get .s1 = some r ∧ pinnedAndFilling.rcu.pinned ≠ some r.number) ∧
    pinnedAndFilling.rcu.slots.get .s2 = none :=
  ⟨⟨_, rfl, rfl⟩, ⟨_, rfl, by decide⟩, rfl⟩

theorem witness_reset_line_pinned_once (j : SlotIx) (q : Record) (h : pinnedAndFilling.rcu.slots.get j = some q)
    (hq : q.number = 5) : j = .s0 := by
  cases j with
  | s0 => rfl
  | s1 => cases h; cases hq
  | _ => cases h

/-- No candidate, and one at the last tick before it persists: 255 ticks of 256, 199 of 200, 1999 of 2000. -/
theorem witness_raw_edges :
    (locked.msy.line .za).cand = none ∧ ((zaCandidate true 100 locked).msy.line .za).cand = some ⟨true, 100⟩ ∧
    since 355 100 < 256 ∧ ¬ since 356 100 < 256 ∧ since 299 100 < 200 ∧ since 2099 100 < 2000 := by decide

theorem witness_crossings :
    ((zaCandidate false 100 locked).msy.line .za).cand = some ⟨false, 100⟩ ∧
    ((zaCandidate true 100 State.reset).msy.line .za).cand = some ⟨true, 100⟩ ∧
    (zaCandidate true 100 State.reset).msy.sync = .seek := by decide

/-- A period one tick short and one tick long in LOCKING, and a crossing one tick past the window of LOCKED. -/
theorem witness_crossings_outside :
    ((151614 : Tick) - 100).toNat < 151515 ∧ 222222 < ((222323 : Tick) - 100).toNat ∧
    locked.msy.prediction = some ⟨1000000, 4166, false⟩ ∧
    2 * 4166 < ((1004167 : Tick) - (1000000 - BitVec.ofNat 32 4166)).toNat := by decide

/-- Section 1.9's crossing c8, in LOCKING with the settle count 4. -/
def settling : State :=
  { zaCandidate true 2400040 State.reset with
    msy := { (zaCandidate true 2400040 State.reset).msy with
      sync := .locking, lockStart := some 2200000, prevValid := some 199980, count := 7,
      ring := [199980, 200020, 199980], lastZb := some 2266700, lastZc := some 2333360 } }

theorem witness_settlement :
    settling.msy.za.cand = some ⟨true, 2400040⟩ ∧ settling.msy.sync = .locking ∧
    settling.msy.lockStart = some 2200000 ∧ 200040 = ((2400040 : Tick) - 2200000).toNat ∧
    settling.msy.prevValid = some 199980 ∧ 200040 ≤ 199980 + 199980 / 16 ∧
    settling.set.settleCount ≤ settling.msy.count + 1 ∧ settling.msy.pendingEdge = none ∧
    16384 ≤ ((2266700 : Tick) - 2200000).toNat * 49152 / 200040 + settling.set.windowHalf ∧
    ((2266700 : Tick) - 2200000).toNat * 49152 / 200040 ≤ 16384 + settling.set.windowHalf ∧
    32768 ≤ ((2333360 : Tick) - 2200000).toNat * 49152 / 200040 + settling.set.windowHalf ∧
    ((2333360 : Tick) - 2200000).toNat * 49152 / 200040 ≤ 32768 + settling.set.windowHalf := by decide +kernel

/-- `settling` with its locking timeout at 2,644,484. -/
def timingOut : State := { settling with msy := { settling.msy with lockTimeout := some 2644484 } }

/-- `locked` with the last miss that holdover allows to come. -/
def missing : State := { locked with msy := { locked.msy with missCount := 2 } }

/-- The crossing at the very end of the window, the timeout, and the miss at the holdover limit. -/
theorem witness_window :
    (zaCandidate true 1004166 locked).msy.za.cand = some ⟨true, 1004166⟩ ∧ locked.msy.sync = .locked ∧
    locked.msy.prediction = some ⟨1000000, 4166, false⟩ ∧ locked.msy.lastAccepted = some 800000 ∧
    locked.msy.ring ≠ [] ∧ ((1004166 : Tick) - (1000000 - BitVec.ofNat 32 4166)).toNat ≤ 2 * 4166 ∧
    timingOut.msy.lockTimeout = some 2644484 ∧
    missing.msy.sync = .locked ∧ missing.msy.prediction = some ⟨1000000, 4166, false⟩ ∧
    missing.msy.missCount + 1 ≤ missing.set.holdover := by decide +kernel

/-- `settling` with the drive coasting. -/
def relocking : State := { settling with dsq := { (driven .coast).dsq with coast := .running 3 } }

theorem witness_relock :
    relocking.msy.za.cand = some ⟨true, 2400040⟩ ∧
    (msyQualify relocking.set.settleCount relocking.set.windowHalf .za ⟨true, 2400040⟩ relocking.msy).2 = [.locked] ∧
    relocking.dsq.drive = .coast ∧ relocking.dsq.coast = .running 3 ∧ relocking.dsq.enable = false := by decide +kernel

/-- RUN with the misses at the holdover setting. -/
def losing : State := { driven .run with msy := { locked.msy with missCount := 3 } }

theorem witness_sync_lost :
    losing.msy.sync = .locked ∧ losing.msy.prediction = some ⟨1000000, 4166, false⟩ ∧
    losing.set.holdover < losing.msy.missCount + 1 ∧ losing.dsq.drive = .run := by decide +kernel

theorem witness_period_event :
    locked.msy.sync = .locked ∧ locked.msy.pendingEdge = some 1000000 ∧ namesOrigin plainOrder = false ∧
    State.reset.msy.subst = some ((200000 : Tick) - 200000#32) ∧
    State.reset.rcu.periodTaken ≠ State.reset.msy.period + 1#32 ∧ locked.rcu.periodTaken ≠ locked.msy.period + 1#32 := by
  decide

/-- RUN with the hold timer at its last count. -/
def holding : State := { driven .run with stu := { stuRelease with hold := .running 1, stationRef := some 9 } }

theorem witness_hold_timer :
    nextPeriodEvent holding.msy = some 1000000 ∧ holding.stu.periodTaken ≠ holding.msy.period + 1#32 ∧
    holding.dsq.drive = .run ∧ holding.stu.hold = .running 1 ∧ holding.stu.holdCond = false := by decide

/-- RUN with pinion A silent for 49 period events and pinion B turning. -/
def silent : State :=
  { driven .run with
    stu := { stuRelease with motors := ⟨{ motorRelease with exclCount := 49 }, motorRelease⟩ },
    meu := { State.reset.meu with teeth := ⟨⟨none, none⟩, ⟨some 990000, some 650000⟩⟩ } }

theorem witness_silent_pinion :
    nextPeriodEvent silent.msy = some 1000000 ∧ silent.stu.periodTaken ≠ silent.msy.period + 1#32 ∧
    silent.stu.motors.a.excluded = false ∧ silent.stu.motors.b.excluded = false ∧
    speedEstimate silent.set 1000000 (silent.meu.teeth.get .a) = 0 ∧
    2048 ≤ speedEstimate silent.set 1000000 (silent.meu.teeth.get (otherSide .a)) ∧
    (silent.stu.motors.get .a).exclCount = 49 ∧ (silent.stu.motors.get .a).sensorCond = false := by decide +kernel

/-- RUN with pinion B at half the speed of pinion A. -/
def mismatched : State :=
  { driven .run with
    stu := { stuRelease with mismatch := 24 },
    meu := { State.reset.meu with teeth := ⟨⟨some 990000, some 656667⟩, ⟨some 990000, some 323334⟩⟩ } }

theorem witness_mismatch :
    settingsRight mismatched.set = true ∧ nextPeriodEvent mismatched.msy = some 1000000 ∧
    mismatched.stu.periodTaken ≠ mismatched.msy.period + 1#32 ∧
    speedEstimate mismatched.set 1000000 mismatched.meu.teeth.a = 16384 ∧
    speedEstimate mismatched.set 1000000 mismatched.meu.teeth.b = 8192 ∧ 8192 + mismatched.set.mismatchTol < 16384 ∧
    mismatched.set.mismatchCount ≤ mismatched.stu.mismatch + 1 ∧ mismatched.stu.mismatchCond = false := by
  decide +kernel

/-- `mismatched`, with an origin offset of half a period staged. -/
def mismatchedStaging : State :=
  { mismatched with set := { mismatched.set with staged := mismatched.set.staged.set 3 (some (.num 24576)) } }

/-- R11, R17, R185: a block takes the reference edge ahead and stops the drive, which applies a staged origin offset; the
edge's origins keep the offset in force as the edge was issued, and REFERENCE_EDGE ends the note. -/
theorem test_origins_of_an_edge_taken_ahead :
    (match exec (.pinionMismatch plainOrder) mismatchedStaging with
     | .next u => (u.dsq.drive, u.set.originOffset, u.issued,
        match exec (.referenceEdge plainOrder) u with
        | .next v => (v.msy.origins.map Origin.stamp, v.issued)
        | .fault _ | .refused _ => ([], none))
     | .fault _ | .refused _ => (.run, 0, none, [], none)) =
      (.tripped, 24576, some { period := 1, pred := 1000000, offset := 0, pEst := 200000 },
        [1000000, 1033333, 1066666, 1100000, 1133333, 1166666], none) := by decide +kernel

/-- The coming edge noted, and with nothing noted of it. -/
theorem witness_edge_noted :
    mismatchedStaging.issued = none ∧ nextPeriodEvent mismatchedStaging.msy = some 1000000 ∧
    mismatchedStaging.msy.pendingEdge = some 1000000 ∧ mismatchedStaging.takenBy .stu ≠ mismatchedStaging.msy.period + 1#32 ∧
    (takeAhead .stu plainOrder (fun _ _ => true) mismatchedStaging).issued =
      some { period := mismatchedStaging.msy.period + 1#32, pred := 1000000, offset := 0, pEst := 200000 } ∧
    (takeAhead .stu plainOrder (fun _ _ => true) mismatchedStaging).takenBy .dsq ≠ mismatchedStaging.msy.period + 1#32 ∧
    (takeAhead .stu plainOrder (fun _ _ => true) mismatchedStaging).msy.sync = .locked := by decide +kernel

/-- STARTING with the breakaway window at its last count and the kiln still. -/
def notTurning : State := { driven .starting with stu := { stuRelease with window := some 149 } }

theorem witness_breakaway :
    nextPeriodEvent notTurning.msy = some 1000000 ∧ notTurning.stu.periodTaken ≠ notTurning.msy.period + 1#32 ∧
    notTurning.stu.motors.a.exclCount < 49 ∧ speedEstimate notTurning.set 1000000 notTurning.meu.teeth.a = 0 ∧
    speedEstimate notTurning.set 1000000 notTurning.meu.teeth.b = 0 ∧ notTurning.stu.window = some 149 ∧
    (0 + 0) / 2 < notTurning.set.breakSpeed ∧ notTurning.set.breakTime ≤ 149 + 1 := by decide +kernel

/-- RUN at the envelope without turning, the stall counter one short of its setting. -/
def stalled : State :=
  { driven .run with
    stu := { stuRelease with y := 36045 * 256, rr := 16384, stationRef := some 16384, hold := .running 50, stall := 99 } }

theorem witness_stall :
    settingsRight stalled.set = true ∧ nextPeriodEvent stalled.msy = some 1000000 ∧
    stalled.stu.periodTaken ≠ stalled.msy.period + 1#32 ∧ stalled.dsq.drive = .run ∧
    (stuTorque stalled.set (stalled.stuView 1 1000000) (stuChecks stalled.set (stalled.stuView 1 1000000) stalled.stu)).td
      = 36045 ∧
    (stuTorque stalled.set (stalled.stuView 1 1000000)
      (stuChecks stalled.set (stalled.stuView 1 1000000) stalled.stu)).tenv = 36045 ∧
    (stuTorque stalled.set (stalled.stuView 1 1000000)
      (stuChecks stalled.set (stalled.stuView 1 1000000) stalled.stu)).s < stalled.set.stallSpeed ∧
    stalled.set.stallCount ≤ stalled.stu.stall + 1 ∧ stalled.stu.stallCond = false ∧
    stalled.set.classInForce .stall = .s := by decide +kernel

theorem witness_full_record :
    nextPeriodEvent recording.msy = some 1000000 ∧ recording.rcu.periodTaken ≠ recording.msy.period + 1#32 ∧
    recording.rcu.filling = some .s0 ∧ recording.rcu.slots.get .s0 = some someRecord ∧ someRecord.entries ≠ [] ∧
    someRecord.pre + someRecord.post ≤ someRecord.entries.length + 1 := by decide +kernel

/-- A drive state with the permit at its last period event. -/
def lapsing (d : Drive) : State := { driven d with pru := { (driven d).pru with permitCount := 1 } }

theorem witness_permit_lapse :
    nextPeriodEvent (lapsing .run).msy = some 1000000 ∧
    (lapsing .run).pru.periodTaken ≠ (lapsing .run).msy.period + 1#32 ∧
    (lapsing .run).pru.permit = true ∧ (lapsing .run).pru.permitCount ≤ 1 ∧
    (lapsing .run).pru.driveView ≠ .blocked ∧ (lapsing .run).pru.driveView ≠ .tripped ∧
    (lapsing .run).pru.driveView ≠ .aux ∧ (lapsing .run).pru.lostCond = false ∧
    (lapsing .run).set.classInForce .permitLost ≠ .w ∧
    nextPeriodEvent (lapsing .blocked).msy = some 1000000 ∧
    (lapsing .blocked).pru.periodTaken ≠ (lapsing .blocked).msy.period + 1#32 ∧
    (lapsing .blocked).pru.permit = true ∧ (lapsing .blocked).pru.permitCount ≤ 1 ∧
    (lapsing .blocked).pru.driveView = .blocked := by decide +kernel

/-- CLOSING at its last period event. -/
def closingNow : State := { driven .closing with dsq := { (driven .closing).dsq with closeCount := 9 } }

theorem witness_close_delay :
    nextPeriodEvent closingNow.msy = some 1000000 ∧ closingNow.dsq.periodTaken ≠ closingNow.msy.period + 1#32 ∧
    closingNow.dsq.drive = .closing ∧ closingNow.dsq.enable = false ∧ closingNow.dsq.wait = .none ∧
    closingNow.set.closeDelay ≤ closingNow.dsq.closeCount + 1 ∧ (closingNow.conv .a).state = .off ∧
    closingNow.stu.motors.a.thermal ≠ .hot := by decide +kernel

/-- COAST at its last period event. -/
def coasting : State := { driven .coast with dsq := { (driven .coast).dsq with coast := .running 249 } }

theorem witness_coast :
    nextPeriodEvent coasting.msy = some 1000000 ∧ coasting.dsq.periodTaken ≠ coasting.msy.period + 1#32 ∧
    coasting.dsq.drive = .coast ∧ coasting.dsq.coast = .running 249 ∧ coasting.set.coastTime ≤ 249 + 1 ∧
    coasting.dsq.lossCond = false ∧ coasting.dsq.wait = .none ∧ coasting.dsq.contactor = true ∧
    coasting.pru.active = false := by decide +kernel

/-- BLOCKED in a release wait, with the means given. -/
def releasing (w : ReleaseWait) (mean : Nat) : State :=
  { driven .blocked with
    dsq := { (driven .blocked).dsq with contactor := true, wait := w },
    meu := { State.reset.meu with sides := ⟨{ meuSideRelease with mean := mean }, meuSideRelease⟩ } }

/-- `releasing` taken through one period event by the sequencer. -/
def afterWait (w : ReleaseWait) (mean : Nat) (conv : ConvState) : ReleaseWait :=
  (takePeriod plainOrder 1 9 .dsq [] { state := { releasing w mean with cca := { (releasing w mean).cca with state := conv } },
                                       mail := [] }).state.dsq.wait

/-- R135, R136: a release wait at the period events that do not end it, with the default release delay 2 and decay time
25: a converter not yet OFF, currents at and above the threshold, and the way back from DELAY. -/
theorem test_wait_goes_on :
    [afterWait (.zeroWait 7) 0 .retard, afterWait (.zeroWait 7) 328 .off, afterWait (.zeroWait 7) 329 .off,
     afterWait (.delay 0 7) 328 .off, afterWait (.delay 1 7) 329 .off] =
      [.zeroWait 0, .delay 0 7, .zeroWait 8, .delay 1 7, .zeroWait 7] := by decide +kernel

/-- TRIPPED with a class F episode ACTIVE, in a release wait whose decay count is at its last with a current above the
threshold. -/
def notDecaying : State :=
  { releasing (.zeroWait 24) 329 with
    dsq := { (releasing (.zeroWait 24) 329).dsq with drive := .tripped },
    pru := { (releasing (.zeroWait 24) 329).pru with
      active := true, cls := some .f, firstOut := some .overspeed, latched := [⟨.overspeed, .f⟩], driveView := .tripped } }

/-- R145, R146, R130: the class rises to B, and the new demand releases CONTACTOR. -/
theorem witness_class_rise :
    nextPeriodEvent notDecaying.msy = some 1000000 ∧ notDecaying.dsq.periodTaken ≠ notDecaying.msy.period + 1#32 ∧
    notDecaying.cca.state = .off ∧ notDecaying.ccb.state = .off ∧ notDecaying.set.zeroThreshold < 329 ∧
    notDecaying.set.decayTime ≤ 24 + 1 ∧ notDecaying.dsq.decayCond = false ∧ tripRight notDecaying.pru = true ∧
    (match exec (.currentNotDecaying plainOrder) notDecaying with
     | .next u => (u.dsq.contactor, u.dsq.wait, u.pru.cls, u.pru.latched, u.pru.trip, u.links.m.notices.contains .episode)
     | .fault _ | .refused _ => (true, .none, none, [], false, false)) =
      (false, .none, some .b, [⟨.overspeed, .f⟩, ⟨.currentNotDecaying, .b⟩], true, true) := by decide +kernel

/-- Each of those cases, one that stays at the decay time, and the coast timer below its setting and EXPIRED. -/
theorem witness_wait_goes_on :
    (releasing (.zeroWait 7) 329).dsq.drive = .blocked ∧ (releasing (.zeroWait 7) 329).cca.state = .off ∧
    (releasing (.zeroWait 7) 329).ccb.state = .off ∧ 0 < (releasing .none 0).set.releaseDelay ∧
    7 + 1 < (releasing .none 0).set.decayTime ∧ (releasing .none 0).set.decayTime ≤ 24 + 1 ∧
    0 + 1 < (releasing .none 0).set.releaseDelay ∧ (releasing .none 0).dsq.periodTaken ≠ 1 ∧
    ({ coasting.dsq with coast := .running 248 } : Dsq).coast = .running 248 ∧ 248 + 1 < coasting.set.coastTime ∧
    ({ coasting.dsq with coast := .expired } : Dsq).wait = .none := by decide +kernel

/-- The delay reached at its setting, with a current at the zero threshold. -/
theorem witness_release :
    nextPeriodEvent (releasing (.delay 1 0) 328).msy = some 1000000 ∧
    (releasing (.delay 1 0) 328).dsq.contactor = true ∧ (releasing (.delay 1 0) 328).dsq.drive = .blocked ∧
    (releasing (.delay 1 0) 328).dsq.periodTaken ≠ (releasing (.delay 1 0) 328).msy.period + 1#32 ∧
    (releasing (.delay 1 0) 328).meu.sides.a.mean ≤ (releasing (.delay 1 0) 328).set.zeroThreshold ∧
    (releasing (.delay 1 0) 328).meu.sides.b.mean ≤ (releasing (.delay 1 0) 328).set.zeroThreshold ∧
    (releasing (.delay 1 0) 328).dsq.wait = .delay 1 0 ∧
    (releasing (.delay 1 0) 328).set.releaseDelay ≤ 1 + 1 := by decide +kernel

/-- The decay count reached, with a current one above the zero threshold. -/
theorem witness_undecayed :
    nextPeriodEvent (releasing (.zeroWait 24) 329).msy = some 1000000 ∧
    (releasing (.zeroWait 24) 329).dsq.periodTaken ≠ (releasing (.zeroWait 24) 329).msy.period + 1#32 ∧
    (releasing (.zeroWait 24) 329).dsq.drive = .blocked ∧ (releasing (.zeroWait 24) 329).dsq.wait = .zeroWait 24 ∧ (releasing (.zeroWait 24) 329).cca.state = .off ∧
    (releasing (.zeroWait 24) 329).ccb.state = .off ∧
    (releasing (.zeroWait 24) 329).set.zeroThreshold < (releasing (.zeroWait 24) 329).meu.sides.a.mean ∧
    (releasing (.zeroWait 24) 329).set.decayTime ≤ 24 + 1 ∧ (releasing (.zeroWait 24) 329).dsq.decayCond = false ∧
    (releasing (.zeroWait 24) 329).pru.active = false := by decide +kernel

/-- A real origin of T2. -/
def someOrigin : Origin := { stamp := 900000, thy := .t2, period := 0, kind := .real, length := 200000 }

/-- RUN with an origin pending, an interval open, and a firing pending in converter A. -/
def firingNow : State :=
  { driven .run with
    msy := { locked.msy with origins := [someOrigin] },
    meu := { State.reset.meu with interval := some { openInterval someOrigin with count := 4, curA := 8, samples := [5] } },
    cca := { (driven .run).cca with
      lastOrigin := some someOrigin, since := 63, esc := 1, transCond := true,
      firings := [{ thy := .t2, originStamp := 900000, period := 0, angle := 8192, stamp := 933333 }] } }

/-- `firingNow` with converter A in a state of its answer to a fault, its fault line active. -/
def answering (c : ConvState) : State :=
  { firingNow with cca := { firingNow.cca with state := c, fault := true, faultCond := decide (c ≠ .held) } }

theorem witness_origin :
    firingNow.msy.origins = [someOrigin] ∧ someOrigin.kind = .real ∧ firingNow.set.alphaMin ≤ firingNow.set.alphaMax ∧
    firingNow.cca.state = .firing ∧ -4194304 ≤ firingNow.cca.integ ∧ firingNow.cca.integ ≤ 4194304 ∧
    (driven .blocked).cca.state = .off ∧ (answering .retard).cca.state = .retard ∧ (answering .held).cca.state = .held ∧
    (328 : Nat) ≤ setRelease.zeroThreshold ∧ setRelease.zeroThreshold < (329 : Nat) ∧
    (answering .retard).cca.retardCount < setRelease.retardLimit ∧
    firingNow.meu.interval.map Interval.count = some 4 := by decide +kernel

/-- `firingNow` at the 63rd firing. -/
def earlyFiring : State := { firingNow with cca := { firingNow.cca with since := 62 } }

/-- `firingNow` in a burst of converter A, in a phase and with a number of pulses to go. -/
def bursting (on : Bool) (remaining : Nat) : State :=
  { firingNow with cca := { firingNow.cca with
      burst := some { thy := .t2, onLen := 50, offLen := 50, remaining := remaining, on := on, phaseEnd := 5 } } }

/-- The 64th firing and the one before it, and the three phase ends of a burst. -/
theorem witness_firing :
    (firingNow.conv .a).firings = [⟨.t2, 900000, 0, 8192, 933333⟩] ∧ 64 ≤ (firingNow.conv .a).since + 1 ∧
    (firingNow.conv .a).transCond = true ∧ (firingNow.conv .a).esc ≤ 1 ∧
    (earlyFiring.conv .a).firings = [⟨.t2, 900000, 0, 8192, 933333⟩] ∧ (earlyFiring.conv .a).since + 1 < 64 ∧
    ((bursting true 8).conv .a).burst = some ⟨.t2, 50, 50, 8, true, 5⟩ ∧
    ((bursting false 1).conv .a).burst = some ⟨.t2, 50, 50, 1, false, 5⟩ ∧
    ((bursting false 2).conv .a).burst = some ⟨.t2, 50, 50, 2, false, 5⟩ := by
  decide +kernel

/-- `firingNow` with SKIP as converter A's response, and neither an escalation nor its warning yet. -/
def skipping : State :=
  { firingNow with
    cca := { firingNow.cca with esc := 0, transCond := false },
    set := { firingNow.set with active := firingNow.set.active.set 28 (.code 0) } }

/-- The default response, the SKIP response below the escalation limit, and a fault line going inactive in HELD and in
RETARD. -/
theorem witness_fault_arrival :
    (firingNow.conv .a).fault = false ∧ (firingNow.conv .a).state = .firing ∧
    (firingNow.conv .a).lastOrigin = some someOrigin ∧ (firingNow.conv .a).faultCond = false ∧
    firingNow.set.response .a = .retardBlock ∧
    (skipping.conv .a).fault = false ∧ (skipping.conv .a).state = .firing ∧
    (skipping.conv .a).lastOrigin = some someOrigin ∧ skipping.set.response .a = .skip ∧
    (skipping.conv .a).esc + 1 < skipping.set.escLimit ∧ (skipping.conv .a).esc < 16 ∧
    (skipping.conv .a).transCond = false ∧
    ((answering .held).conv .a).fault = true ∧ ((answering .held).conv .a).state = .held ∧
    ((answering .retard).conv .a).fault = true ∧ ((answering .off).conv .a).state = .off := by decide +kernel

/-- `firingNow` with current A at a rail for two samples in a row. -/
def railed : State :=
  { firingNow with meu := { firingNow.meu with sides := ⟨{ meuSideRelease with rail := 2 }, meuSideRelease⟩ } }

theorem witness_sample :
    railed.meu.interval.map Interval.samples = some [5] ∧ railed.pru.active = false ∧
    (railed.meu.sides.get .a).rail = 2 ∧ (railed.meu.sides.get .a).sensorCond = false := by decide +kernel

/-- `firingNow` with both conditions of converter A holding, at the close of an interval with a sum of currents. -/
def closingInterval (sum : Nat) : State :=
  { firingNow with meu := { firingNow.meu with
      interval := some { openInterval someOrigin with count := 4, curA := sum },
      sides := ⟨{ meuSideRelease with overCond := true, voltCond := true }, meuSideRelease⟩ } }

/-- The least raw values above Itrip and Uover and the ones before; an average equal to Itrip and one below it. -/
theorem witness_over :
    setRelease.itrip .a < (3892 - 2048) * 16384 / 1024 ∧ (3891 - 2048) * 16384 / 1024 ≤ setRelease.itrip .a ∧
    setRelease.uover .a < (3277 - 2048) * 16384 / 1024 ∧ (3276 - 2048) * 16384 / 1024 ≤ setRelease.uover .a ∧
    setRelease.classInForce (.overcurrent .a) ≠ .w ∧ setRelease.classInForce (.overvoltage .a) ≠ .w ∧
    (firingNow.meu.sides.get .a).overCond = false ∧ latchedActive (.overcurrent .a) firingNow.pru = false ∧
    setRelease.itrip .a ≤ 117964 / 4 ∧ 117963 / 4 < setRelease.itrip .a ∧
    ((closingInterval 117963).meu.sides.get .a).overCond = true ∧
    (closingInterval 117963).meu.interval.map Interval.count = some 4 ∧
    (closingInterval 117963).msy.origins = [someOrigin] := by decide +kernel

/-- Channel 0 in LEARNING with the phase RUNNING and a marker at 400,000. -/
def turning : State :=
  { driven .run with
    vwa := { vwaRelease with chans := vwaRelease.chans.put .c0 { vchanRelease with
      state := .learning, phase := .running, lastMarker := some 400000, trev := some 20000000,
      deadline := some 40400000 } },
    meu := { State.reset.meu with ka := { level := false, cand := some { level := true, stamp := 20400000 } } } }

theorem witness_scan :
    (turning.vwa.chans.get .c0).state = .learning ∧ (turning.vwa.chans.get .c0).phase = .running ∧
    (turning.vwa.chans.get .c0).lastMarker = some 400000 ∧ (turning.vwa.chans.get .c0).trev = some 20000000 := by decide

/-- `turning` with channel 0 one scan before its flag changes, at a bias. -/
def flagging (flag : Bool) (bias : Int) : State :=
  { turning with
    meu := { turning.meu with chans := turning.meu.chans.put .c0 { bias := bias, count := 4999, flag := flag } },
    vwa := { turning.vwa with chans := turning.vwa.chans.put .c0 { vchanRelease with
      state := if flag then .sensorFault else .learning, sensorCond := flag } } }

/-- The bias one count below and at the low edge of its window, at the 5000th scan. -/
theorem witness_sensor_flag :
    Int.tdiv ((1047551 : Int) + Int.tdiv ((1023 : Int) * 1024 - 1047551) 1024 + 512) 1024 < (setRelease.biasLow : Int) ∧
    (setRelease.biasLow : Int) ≤ Int.tdiv ((1048576 : Int) + Int.tdiv ((1024 : Int) * 1024 - 1048576) 1024 + 512) 1024 ∧
    ((flagging false 1047551).meu.chans.get .c0).count = 4999 ∧
    ((flagging false 1047551).meu.chans.get .c0).flag = false ∧
    ((flagging false 1047551).vwa.chans.get .c0).sensorCond = false ∧
    ((flagging true 1048576).meu.chans.get .c0).count = 4999 ∧
    ((flagging true 1048576).meu.chans.get .c0).flag = true ∧
    ((flagging true 1048576).vwa.chans.get .c0).sensorCond = true := by decide +kernel

/-- RUN with motor A excluded and a tooth edge of either level on its pinion's input. -/
def readmitting (level : Bool) : State :=
  { driven .run with
    stu := { stuRelease with motors := ⟨{ motorRelease with excluded := true, sensorCond := true }, motorRelease⟩ },
    meu := { State.reset.meu with pa := { level := !level, cand := some { level := level, stamp := 9 } } } }

theorem witness_tooth :
    ((readmitting true).meu.line .pa).cand = some ⟨true, 9⟩ ∧ ((readmitting true).stu.motors.get .a).excluded = true ∧
    ((readmitting true).stu.motors.get .a).sensorCond = true ∧
    ((readmitting false).meu.line .pa).cand = some ⟨false, 9⟩ := by decide

/-- `turning` with channel 0 in UNREFERENCED from ALERT. -/
def unreferenced : State :=
  { turning with vwa := { turning.vwa with chans := turning.vwa.chans.put .c0 { vchanRelease with
      state := .unreferenced, held := some ⟨.alert, 1⟩ } } }

/-- A marker exactly half a revolution on is not rejected, one a tick sooner is; a channel in UNREFERENCED. -/
theorem witness_marker :
    settingsRight turning.set = true ∧ (turning.meu.line .ka).cand = some ⟨true, 20400000⟩ ∧
    (turning.set.profile .c0).marker = .ka ∧ (turning.set.profile .c1).marker ≠ .ka ∧
    stagedProfile .c0 turning.set = none ∧ 20000000 / 2 ≤ ((10400000 : Tick) - 400000).toNat ∧
    ((10399999 : Tick) - 400000).toNat < 20000000 / 2 ∧
    (unreferenced.meu.line .ka).cand = some ⟨true, 20400000⟩ ∧ settingsRight unreferenced.set = true ∧
    (unreferenced.vwa.chans.get .c0).state = .unreferenced ∧
    (unreferenced.vwa.chans.get .c0).held = some ⟨.alert, 1⟩ ∧
    evaluating (turning.vwa.chans.get .c0).state = true ∧ (turning.vwa.chans.get .c0).phase = .running ∧
    20000000 / 2 ≤ ((20400000 : Tick) - 400000).toNat := by decide +kernel

/-- `turning` with channel 0 in a graded state or a phase, and one sample of 40 in bin 3 of this revolution. -/
def graded (c : ChanState) (h : Phase) : State :=
  { turning with vwa := { turning.vwa with chans := turning.vwa.chans.put .c0 { turning.vwa.chans.get .c0 with
      state := c, phase := h,
      acc := { sums := tableClear.set 3 40, counts := (List.replicate 64 0).set 3 1, sumSq := 1600, total := 1 } } } }

/-- A revolution of exactly half of Trev_est completes; in LEARNING and each grade, from TIMING and from RUNNING. -/
theorem witness_completion :
    [ChanState.learning, .normal, .alert, .danger].map (fun c => ((graded c .running).vwa.chans.get .c0).state) =
      [.learning, .normal, .alert, .danger] ∧
    ((graded .normal .timing).vwa.chans.get .c0).phase = .timing ∧
    binsRight (graded .normal .running).vwa = true ∧
    0 < ((graded .normal .running).vwa.chans.get .c0).acc.total ∧
    ((turning.vwa.chans.get .c0).acc.total = 0) ∧ settingsRight (graded .normal .running).set = true ∧
    ((graded .normal .running).set.profile .c0).marker = .ka ∧
    stagedProfile .c0 (graded .normal .running).set = none ∧
    ((graded .normal .running).vwa.chans.get .c0).lastMarker = some 400000 ∧
    20000000 / 2 ≤ ((10400000 : Tick) - 400000).toNat := by decide +kernel

/-- R102, R103 and R104 on one revolution: 40 in bin 3 with w = 3 moves the bin by 5; SYNC is 5, RESID 40. -/
theorem test_completion_of_a_revolution :
    ((match exec (.pulseQualifiedEdge .ka plainOrder) (graded .normal .running) with
      | .next u => [u.vwa.chans.c0.table.getD 3 0, u.vwa.chans.c0.sync, u.vwa.chans.c0.resid, u.vwa.chans.c0.alert]
      | .fault _ | .refused _ => []) : List Int) = [5, 5, 40, 0] := by decide +kernel

/-- `graded` in ALERT, one revolution at the DANGER threshold short of the DANGER count. -/
def endangered : State :=
  { graded .alert .running with vwa := { (graded .alert .running).vwa with
      chans := (graded .alert .running).vwa.chans.put .c0 { (graded .alert .running).vwa.chans.get .c0 with
        table := tableClear.set 0 800, danger := 1 } } }

/-- R106, R109: the entry into DANGER with the danger action TRIP is reported and latched. -/
theorem witness_danger_is_latched :
    (endangered.vwa.chans.get .c0).dangerCond = false ∧ (endangered.set.action .c0).dangerTrip = true ∧
    (match exec (.pulseQualifiedEdge .ka plainOrder) endangered with
     | .next u => ((u.vwa.chans.get .c0).state, u.pru.view, u.pru.latched)
     | .fault _ | .refused _ => (.paused, [], [])) = (.danger, [.vibDanger .c0], [⟨.vibDanger .c0, .s⟩]) := by
  decide +kernel

theorem witness_deadline :
    (turning.vwa.chans.get .c0).deadline = some 40400000 ∧ (turning.vwa.chans.get .c0).state = .learning ∧
    derateRight turning.vwa = true := by decide

/-- RUN with an edge of EXT_TRIP of a level. -/
def extMoving (level : Bool) : State :=
  { driven .run with pru := { (driven .run).pru with
      ext := { level := !level, cand := some { level := level, stamp := 9 } } } }

theorem witness_ext_trip :
    (extMoving true).pru.ext.cand = some ⟨true, 9⟩ ∧ (extMoving false).pru.ext.cand = some ⟨false, 9⟩ ∧
    (extMoving true).set.classInForce .extTrip = .b ∧ (extMoving true).pru.active = false ∧
    (extMoving true).dsq.drive ≠ .tripped := by decide +kernel

/-- Reset with station C's link in a receive state since 500, and with a low stretch of its line or none. -/
def receiving (rx : RxState) (low : Option LowLine) : State :=
  { State.reset with links := State.reset.links.put .c { State.reset.links.c with rx := rx, gap := some 500, low := low } }

/-- A low stretch from 500 on that gave a framing error, with its break served or not. -/
def lowFrom500 (length : Nat) (served : Bool) : LowLine :=
  { run := { span := ⟨500, length⟩, dips := [] }, error := true, served := served }

/-- A low stretch from 500 to 1500 that gave a framing error, and after 5 ticks one of 100,000 ticks. -/
def dipped : LowLine := { run := { span := ⟨500, 1000⟩, dips := [⟨5, 100000⟩] }, error := true, served := false }

/-- The gap timer at its limit, both edges of LENGTH, and wrong check bytes, with the line at rest. -/
theorem witness_reception :
    ((receiving .length none).links.get .c).gap = some 500 ∧ ((10500 : Tick) - 500).toNat ≤ 10000 ∧
    ((receiving .length none).links.get .c).rx = .length ∧ heard .r500k 10500 ((receiving .length none).links.get .c) = true ∧
    (1 : Byte).toNat < 2 ∧ 250 < (251 : Byte).toNat ∧ 2 ≤ (2 : Byte).toNat ∧ (250 : Byte).toNat ≤ 250 ∧
    ((receiving (.body 2 [1]) none).links.get .c).rx = .body 2 [1] ∧
    ((receiving (.check [1, 2] (some 0)) none).links.get .c).rx = .check [1, 2] (some 0) ∧
    crc [2, 1, 2] ≠ (0 : Byte) ++ (0 : Byte) ∧ State.reset.rate = .r500k := by decide +kernel

/-- The break timer at its limit with the line low as long as that, and one tick short of it; a break that is served. -/
theorem witness_break :
    ((receiving .hunt (some (lowFrom500 100000 false))).links.get .c).low = some (lowFrom500 100000 false) ∧
    stretchAt 100500 (lowFrom500 100000 false) = lowFrom500 100000 false ∧
    (100500 : Tick) = (lowFrom500 100000 false).run.span.start + 100000#32 ∧
    100000 ≤ (lowFrom500 100000 false).run.span.length ∧ (lowFrom500 99999 false).run.span.length < 100000 ∧
    (lowFrom500 100000 true).served = true ∧
    ((receiving .hunt (some dipped)).links.get .c).low = some dipped ∧ stretchAt 1504 dipped = dipped ∧
    (stretchAt 101505 dipped).run = { span := ⟨1505, 100000⟩, dips := [] } := by decide +kernel

/-- A framing error in a low stretch; a byte and a framing error one tick too early after it, and at the earliest; a
stretch at release, which leaves the receiver free. -/
theorem witness_low_stretch :
    ((700 : Tick) - 500).toNat ≤ 10 * 20 ∧ ((700 : Tick) - 500).toNat < 1000 ∧ 0 < 5 ∧ 5 < 20 ∧
    1000 + 20 + ((1700 : Tick) - 1520).toNat ≤ ((1700 : Tick) - 500).toNat ∧
    ((1700 : Tick) - 500).toNat < 1000 + 20 + ((1700 : Tick) - 1519).toNat ∧
    heard .r500k 1699 ((receiving .hunt (some (lowFrom500 1000 false))).links.get .c) = false ∧
    heard .r500k 1700 ((receiving .hunt (some (lowFrom500 1000 false))).links.get .c) = true ∧
    heard .r500k 1500 (linkRelease 500 1000) = true ∧ heard .r500k 1499 (linkRelease 500 1000) = false := by decide +kernel

/-- A substitute period event at 200000 on a link whose line is low: long past, served and still low, and in a stretch
that follows one with a framing error. -/
theorem witness_lines_at_a_period_event :
    [some (lowFrom500 1000 false), some (lowFrom500 300000 true), some dipped].map
      (fun w => (receiving .hunt w).msy.subst) = List.replicate 3 (some ((200000 : Tick) - 200000#32)) ∧
    1000 + (0 + 200 + 20) ≤ ((200000 : Tick) - 500).toNat ∧ ((200000 : Tick) - 500).toNat < 300000 ∧
    stretchAt 200000 (lowFrom500 300000 true) = lowFrom500 300000 true ∧
    ((50000 : Tick) - 500).toNat < 1000 + (100005 + 200 + 20) ∧ (stretchAt 50000 dipped).served = false := by
  decide +kernel

/-- R191: a second framing error in one low stretch has no effect, and neither has a byte in it. -/
theorem test_one_framing_error :
    linkFraming .r500k ⟨⟨500, 100000⟩, []⟩ 700 (linkRelease 0 0) =
      some { linkRelease 0 0 with low := some (lowFrom500 100000 false) } ∧
    linkFraming .r500k ⟨⟨500, 100000⟩, []⟩ 700 { linkRelease 0 0 with low := some (lowFrom500 100000 false) } = none ∧
    (match execRxByte .c 0xE7 900 plainOrder (receiving .hunt (some (lowFrom500 100000 false))) with
     | .next t => t.links.c.rx
     | .fault _ | .refused _ => .length) = .hunt := by decide +kernel

/-- R197, R198: a line low at release that goes high before 10 ms resets nothing, one held longer does. -/
theorem test_break_at_release :
    breakDue 100000 (linkRelease 0 99999) = false ∧ breakDue 100000 (linkRelease 0 100000) = true := by decide +kernel

/-- R191: after a framing error a stretch that begins 5 ticks later gives none, one that begins a bit time later does. -/
theorem test_no_start_bit_within_a_bit_time :
    (linkFraming .r500k ⟨⟨1505, 300⟩, []⟩ 1700 { linkRelease 0 0 with low := some (lowFrom500 1000 false) }).isSome = false ∧
    (linkFraming .r500k ⟨⟨1520, 300⟩, []⟩ 1700 { linkRelease 0 0 with low := some (lowFrom500 1000 false) }).isSome = true ∧
    (linkFraming .r500k ⟨⟨500, 1000⟩, [⟨20, 9⟩]⟩ 700 (linkRelease 0 0)).isSome = false := by decide +kernel

/-- R197: the break timer runs over a stretch that gives no framing error, and each break resets the link once. -/
theorem test_break_without_a_framing_error :
    (match execLinkReset .c 101505 (receiving .hunt (some dipped)) with
     | .next u => (u.links.c.notices, u.links.c.low, breakDue 101505 u.links.c)
     | .fault _ | .refused _ => ([], none, true)) =
      ([.restarted], some { run := { span := ⟨1505, 100000⟩, dips := [] }, error := true, served := true }, false) ∧
    breakDue 100500 { linkRelease 0 0 with low := some dipped } = false := by decide +kernel

/-- R191, R197: at a period event the lines have come to rest; a break that is served lasts as long as the line is
low. -/
theorem test_lines_at_rest :
    linkAt .r500k 700 { linkRelease 0 0 with cut := some someReply } = { linkRelease 0 0 with cut := some someReply } ∧
    linkAt .r500k 200000 { linkRelease 0 0 with cut := some someReply, low := some (lowFrom500 100000 true) } =
      linkRelease 0 0 ∧
    (linkAt .r500k 200000 { linkRelease 0 0 with low := some (lowFrom500 300000 true) }).low =
      some { run := { span := ⟨200000, 100500⟩, dips := [] }, error := true, served := true } := by decide +kernel

/-- Reset with station C's link sending `someReply`, with a request waiting or none. -/
def replying (w : Option Request) : State :=
  { State.reset with
    links := State.reset.links.put .c { State.reset.links.c with reply := some someReply, waiting := w } }

/-- A STATUS request with TAG 2 at the end of a reply, behind it, and as the frame whose check bytes arrive. -/
theorem witness_request_queue :
    commandRequest (.status .c 2 1900 plainOrder) = some (.c, 1900, ⟨1, 2, []⟩, plainOrder) ∧
    ((replying none).links.get .c).reply = some someReply ∧ ((replying none).links.get .c).waiting = none ∧
    ((replying (some ⟨1, 2, []⟩)).links.get .c).reply = some someReply ∧
    ((replying (some ⟨1, 2, []⟩)).links.get .c).waiting = some ⟨1, 2, []⟩ ∧
    ((receiving (.check [1, 2] (some 0xB1)) none).links.get .c).rx = .check [1, 2] (some 0xB1) ∧
    ((receiving (.check [1, 2] (some 0xB1)) none).links.get .c).gap = some 500 ∧
    ((1900 : Tick) - 500).toNat ≤ 10000 ∧ crc [2, 1, 2] = (0xB1 : Byte) ++ (0x8F : Byte) ∧
    (replying none).rate = .r500k ∧
    someReply.started + BitVec.ofNat 32 (someReply.frame.length * 200) = 1900 := by decide +kernel

theorem witness_foreign_requests :
    commandRequest (.capture .p 2 9 plainOrder) = some (.p, 9, ⟨0x0A, 2, []⟩, plainOrder) ∧
    commandRequest (.start .m 2 9 plainOrder) = some (.m, 9, ⟨0x11, 2, []⟩, plainOrder) ∧
    State.reset.links.p.reply = none ∧ State.reset.links.m.reply = none ∧
    (0x7F : Byte) ∉ allKinds.map kindCode := by decide

/-- A frame whose check bytes arrive: its KIND none of the twenty, GET SETTING with a byte missing, PUT SETTING with one
byte, START with one too many, CLEAR TABLE with none. -/
theorem witness_wrong_lengths :
    ((receiving (.check [0x7F, 2] (some 0)) none).links.get .c).rx = .check [0x7F, 2] (some 0) ∧
    crc [2, 0x7F, 2] = (0x9A : Byte) ++ (0xD9 : Byte) ∧ crc [3, 3, 2, 1] = (0x30 : Byte) ++ (0x0F : Byte) ∧
    crc [3, 4, 2, 1] = (0xB5 : Byte) ++ (0x9F : Byte) ∧ crc [3, 0x11, 2, 1] = (0x1D : Byte) ++ (0x0C : Byte) ∧
    crc [2, 0x30, 2] = (0x87 : Byte) ++ (0x2B : Byte) ∧ (receiving .hunt none).links.c.reply = none := by
  decide +kernel

theorem witness_reading_requests :
    State.reset.links.c.reply = none ∧ (catalogue[(1#16).toNat - 1]?).isSome = true ∧
    (State.reset.set.active[(87#16).toNat - 1]?).isSome = true ∧
    (State.reset.set.staged[(87#16).toNat - 1]?).isSome = true ∧ 87 < (88#16).toNat ∧ 3 < (4 : Byte).toNat := by
  decide +kernel

/-- Setting 1 of station P, below, at the edges of and above its range; and the identifier after the last. -/
theorem witness_put_setting :
    catalogue[(1#16).toNat - 1]? = some ⟨.p, .live, .num 4 64 8⟩ ∧ (3#32).toNat < 4 ∧ ¬ (4#32).toNat < 4 ∧
    ¬ 64 < (64#32).toNat ∧ 64 < (65#32).toNat ∧ 87 < (88#16).toNat ∧ ([1, 2, 3] : List Byte).length ≠ 4 := by
  decide +kernel

/-- `recording` with the record SEALED, and station M's cursor on its slot (0) or on a free one (1). -/
def reading (slot : Nat) : State :=
  { recording with rcu := { recording.rcu with
      slots := recording.rcu.slots.put .s0 (some { someRecord with isSealed := true }), filling := none, mark := false,
      cursors := recording.rcu.cursors.put .m (some ⟨5, if slot = 0 then .s0 else .s1, 0⟩) } }

/-- A record that fills and no cursor; a sealed record read to its end; a cursor whose slot is FREE. -/
theorem witness_record_reading :
    recording.rcu.slots.get .s0 = some someRecord ∧ someRecord.number = (5#16).toNat ∧
    recording.rcu.cursors.get .c = none ∧ someRecord.isSealed = false ∧
    (reading 0).rcu.cursors.get .m = some ⟨5, .s0, 0⟩ ∧
    ((reading 0).rcu.slots.get .s0).map (fun r => (r.number, r.isSealed, r.entries.length)) = some (5, true, 2) ∧
    min 6 (2 - 0) = 2 ∧ (reading 0).rcu.pinned = none ∧
    (reading 1).rcu.cursors.get .m = some ⟨5, .s1, 0⟩ ∧ (reading 1).rcu.slots.get .s1 = none := by decide +kernel

theorem witness_open_record_once (j : SlotIx) (q : Record) (h : recording.rcu.slots.get j = some q)
    (_ : q.number = 5) : j = .s0 := by
  cases j <;> simp_all [recording, Six.get, Six.put, locked, State.reset, rcuRelease]

/-- `locked` with two entries of history. -/
def remembering : State := { locked with rcu := { locked.rcu with ring := [someEntry, someEntry] } }

theorem witness_capture :
    recording.rcu.filling = some .s0 ∧ recording.links.c.reply = none ∧ remembering.rcu.filling = none ∧
    chooseSlot remembering.rcu = some .s0 ∧ remembering.rcu.ring = [someEntry, someEntry] ∧
    remembering.links.m.reply = none := by decide +kernel

/-- RUN with the hold timer expired. -/
def held : State := { driven .run with stu := { stuRelease with hold := .expired, holdCond := true } }

theorem witness_speed_ref :
    State.reset.links.c.reply = none ∧ State.reset.stu.holdCond = false ∧ held.links.c.reply = none ∧
    held.stu.holdCond = true := by decide

theorem witness_start :
    (driven .blocked).dsq.drive = .blocked ∧ (driven .blocked).dsq.enable = false ∧
    (driven .blocked).dsq.wait = .none ∧ (driven .blocked).dsq.contactor = false ∧
    (driven .blocked).pru.permit = true ∧ (driven .blocked).msy.sync = .locked ∧ (driven .blocked).pru.active = false ∧
    convReady (driven .blocked).cca = true ∧ convReady (driven .blocked).ccb = true ∧
    (driven .blocked).links.c.reply = none ∧ (driven .run).dsq.drive ≠ .blocked := by decide

theorem witness_stop :
    (driven .stopping).dsq.drive = .stopping ∧ (driven .tripStop).dsq.drive = .tripStop ∧
    (driven .run).dsq.drive = .run ∧ (driven .run).dsq.enable = true ∧ (driven .closing).dsq.drive = .closing ∧
    (driven .closing).dsq.contactor = true ∧ (driven .closing).dsq.wait = .none ∧
    (driven .run).links.c.reply = none := by decide

/-- BLOCKED with the kiln at the least speed there is. -/
def rolling : State := { driven .blocked with stu := { stuRelease with s := 1 } }

theorem witness_aux :
    (driven .blocked).dsq.drive = .blocked ∧ (driven .blocked).dsq.wait = .none ∧
    (driven .blocked).dsq.contactor = false ∧ (driven .blocked).stu.s = 0 ∧ (driven .blocked).links.c.reply = none ∧
    (driven .aux).dsq.drive = .aux ∧ (driven .aux).dsq.contactor = false ∧ (driven .aux).links.c.reply = none ∧
    rolling.dsq.drive = .blocked ∧ rolling.dsq.wait = .none ∧ rolling.dsq.contactor = false ∧ rolling.stu.s ≠ 0 ∧
    (releasing (.delay 1 0) 0).dsq.wait ≠ .none := by decide

/-- STOPPING with the permit lost. -/
def permitLost : State :=
  { driven .stopping with pru := { (driven .stopping).pru with
      permit := false, permitCount := 0, lostCond := true, view := [.permitLost] } }

theorem witness_permit_requests :
    (driven .run).links.p.reply = none ∧ (driven .run).pru.permit = true ∧ (driven .run).pru.lostCond = false ∧
    (driven .run).pru.driveView ≠ .blocked ∧ (driven .run).pru.driveView ≠ .tripped ∧
    (driven .run).pru.driveView ≠ .aux ∧ (driven .run).set.classInForce .permitLost ≠ .w ∧
    (driven .blocked).pru.permit = true ∧ (driven .blocked).pru.driveView = .blocked ∧
    State.reset.pru.permit = false ∧ permitLost.links.p.reply = none ∧ permitLost.pru.lostCond = true := by
  decide +kernel

/-- `tripped` while the latched condition still holds. -/
def stillTripped : State := { tripped with pru := { tripped.pru with view := [.stationTrip] } }

theorem witness_trip_and_reset :
    (driven .run).links.p.reply = none ∧ (driven .run).pru.active = false ∧ tripped.pru.active = true ∧
    tripped.pru.driveView = .tripped ∧ tripped.dsq.drive = .tripped ∧ tripped.dsq.enable = false ∧
    tripped.dsq.contactor = false ∧ (∀ e ∈ tripped.pru.latched, e.kind ∉ tripped.pru.view) ∧
    tripped.pru.record = some 5 ∧ (tripped.rcu.slots.get .s0).map Record.number = some 5 ∧
    (tripped.rcu.slots.get .s0).map (fun r => r.marks.p) = some true ∧
    tripped.pru.latched = [] ++ ⟨.stationTrip, .b⟩ :: [] ∧
    tripped.links.p.reply = none ∧ .stationTrip ∈ stillTripped.pru.view ∧ stillTripped.pru.active = true ∧
    stillTripped.pru.driveView = .tripped ∧ stillTripped.pru.latched = [] ++ ⟨.stationTrip, .b⟩ :: [] := by decide

/-- `tripped` with three causes latched, of which the second and third still hold. -/
def twoPresent : State :=
  { tripped with pru := { tripped.pru with
      latched := [⟨.overspeed, .f⟩, ⟨.vibDanger .c1, .s⟩, ⟨.stationTrip, .b⟩], view := [.stationTrip, .vibDanger .c1] } }

/-- R155: of the latched kinds that hold the one of lowest code is named, 23. -/
theorem witness_lowest_code :
    tripRight twoPresent.pru = true ∧ ⟨.vibDanger .c1, .s⟩ ∈ twoPresent.pru.latched ∧ twoPresent.pru.active = true ∧
    twoPresent.pru.driveView = .tripped ∧ .vibDanger .c1 ∈ twoPresent.pru.view ∧
    (twoPresent.pru.latched.all (fun l => !twoPresent.pru.view.contains l.kind ||
      decide (causeCode (.vibDanger .c1) ≤ causeCode l.kind))) = true ∧ causeCode (.vibDanger .c1) = 23 ∧
    twoPresent.links.p.reply = none := by decide +kernel

theorem witness_clear_table :
    State.reset.links.m.reply = none ∧ (3 : Byte).toNat = 3 ∧ 3 < (4 : Byte).toNat ∧
    (State.reset.vwa.chans.get .c3).state = .paused ∧ (turning.vwa.chans.get .c0).state ≠ .paused := by decide

theorem witness_split : (0 : Int) ≤ 0 ∧ (0 : Int) ≤ 36045 ∧ (20000 : Int) - 10300 = 9700 := by decide

theorem witness_frame : linkRelease 0 0 = { linkRelease 0 0 with rx := .hunt } ∧ 248 + 2 ≤ 250 := by decide

theorem witness_setting_value :
    (⟨.p, .live, .num 4 64 8⟩ : SetSpec) ∈ catalogue ∧ valueInRange (.num 4 64 8) (.num 64) = true := by decide +kernel

/-! ### Locking, the regulator and the answers to a fault -/

/-- `settling` with another count, last valid period and pair of stamps. -/
def locking (count prev : Nat) (zb zc : Option Tick) : State :=
  { settling with msy := { settling.msy with count := count, prevValid := some prev, lastZb := zb, lastZc := zc } }

/-- One short of the settle count; one tick past a sixteenth; the sequence reversed; ZB missing, and one angle unit of
200,040 ticks past the tolerance. -/
theorem witness_locking_goes_on :
    (locking 6 199980 none none).msy.count + 1 < (locking 6 199980 none none).set.settleCount ∧
    188272 + 188272 / 16 < 200040 ∧ ¬ 188273 + 188273 / 16 < 200040 ∧
    (locking 7 199980 (some 2333360) (some 2266700)).set.settleCount ≤ 7 + 1 ∧
    16384 + setRelease.windowHalf < ((2333360 : Tick) - 2200000).toNat * 49152 / 200040 ∧
    32768 ≤ ((2333360 : Tick) - 2200000).toNat * 49152 / 200040 + setRelease.windowHalf ∧
    ((2266700 : Tick) - 2200000).toNat * 49152 / 200040 ≤ 16384 + setRelease.windowHalf ∧
    (locking 7 199980 none (some 2333360)).msy.lastZb = none ∧
    16384 + setRelease.windowHalf < ((2270852 : Tick) - 2200000).toNat * 49152 / 200040 ∧
    ¬ 16384 + setRelease.windowHalf < ((2270851 : Tick) - 2200000).toNat * 49152 / 200040 ∧
    (locking 7 199980 none none).msy.sync = .locking ∧ (locking 7 199980 none none).msy.lockStart = some 2200000 ∧
    (locking 7 199980 none none).msy.za.cand = some ⟨true, 2400040⟩ := by decide +kernel

/-- HOLDOVER with MAINS_SEQUENCE still a warning, and no coast. -/
def holdingOver : State :=
  { zaCandidate true 1004166 locked with
    msy := { (zaCandidate true 1004166 locked).msy with sync := .holdover, missCount := 3, gap := true } }

theorem witness_holdover :
    holdingOver.msy.sync = .holdover ∧ holdingOver.msy.za.cand = some ⟨true, 1004166⟩ ∧
    holdingOver.msy.prediction = some ⟨1000000, 4166, false⟩ ∧ holdingOver.msy.ring ≠ [] ∧
    holdingOver.msy.lastAccepted = some 800000 ∧ holdingOver.dsq.drive ≠ .coast ∧ holdingOver.dsq.lossCond = false := by
  decide +kernel

/-- The step of section 3.5 at a real origin, and one with the demand at each end of its range. -/
theorem witness_regulator :
    someOrigin.kind = .real ∧ setRelease.alphaMin ≤ setRelease.alphaMax ∧ firingNow.cca.state = .firing ∧
    (16384 + 16384 : Int).toNat / 128 = 256 ∧ (-16384 + 16384 : Int).toNat / 128 = 0 ∧
    (answering .held).cca.state = .held ∧ (answering .retard).cca.state = .retard := by decide

/-- `firingNow` with a response of converter A, a state, and escalations below or at the limit. -/
def responding (code : Nat) (c : ConvState) (esc : Nat) : State :=
  { firingNow with
    cca := { firingNow.cca with state := c, esc := esc, transCond := false, faultCond := false },
    set := { firingNow.set with active := firingNow.set.active.set 28 (.code code) } }

theorem witness_other_answers :
    [0, 1, 2, 3].map (fun c => (responding c .firing 2).set.response .a) = [.skip, .retardResume, .retardBlock, .block] ∧
    [0, 1, 2, 3].all (fun c => settingsRight (responding c .firing 2).set) = true ∧
    settingsRight (responding 2 .retard 2).set = true ∧
    min (2 + 1) 16 < setRelease.escLimit ∧ setRelease.escLimit ≤ min (3 + 1) 16 ∧
    ((responding 1 .firing 2).conv .a).fault = false ∧ ((responding 1 .firing 2).conv .a).transCond = false ∧
    ((responding 2 .retard 2).conv .a).state = .retard ∧ ((responding 2 .retard 2).conv .a).faultCond = false ∧
    ((responding 1 .firing 2).conv .a).lastOrigin = some someOrigin ∧
    nextPeriodEvent (responding 1 .firing 2).msy ≠ some 999999 ∧
    nextPeriodEvent (responding 1 .firing 2).msy = some 1000000 ∧ plainOrder.takings = [] := by decide +kernel

/-- `responding` with both conditions of converter A holding. -/
def answeredBefore (code : Nat) (c : ConvState) (esc : Nat) : State :=
  { responding code c esc with
    cca := { (responding code c esc).cca with transCond := true, faultCond := decide (c = .retard) } }

/-- A second SKIP or RETARD_RESUME below the limit; arrivals in RETARD with CONV_A_FAULT holding, also at the limit. -/
theorem witness_repeated_arrivals :
    ((answeredBefore 0 .firing 1).conv .a).transCond = true ∧ min (1 + 1) 16 < setRelease.escLimit ∧
    ((answeredBefore 0 .retard 3).conv .a).faultCond = true ∧ setRelease.escLimit ≤ min (3 + 1) 16 ∧
    ((answeredBefore 3 .retard 3).conv .a).fault = false ∧ settingsRight (answeredBefore 0 .retard 3).set = true ∧
    [0, 1, 2, 3].map (fun c => match exec (.faultArrival .a 999999 plainOrder) (answeredBefore c .retard 3) with
      | .next u => (u.cca.state, u.cca.esc, decide (u.pru = (answeredBefore c .retard 3).pru))
      | .fault _ | .refused _ => (.held, 0, false)) =
      [(.retard, 4, true), (.retard, 4, true), (.retard, 3, true), (.off, 3, true)] := by decide +kernel

/-- A pending firing at 20480 with a least angle of 20481 staged. -/
def limiting : State :=
  { responding 2 .retard 2 with
    cca := { (responding 2 .retard 2).cca with
      firings := [{ thy := .t1, originStamp := 0, period := 0, angle := 20480, stamp := 20480 }] },
    set := { (responding 2 .retard 2).set with
      staged := (responding 2 .retard 2).set.staged.set 20 (some (.num 20481)) } }

theorem witness_staged_limits :
    limiting.set.staged[20]?.join.isSome = true ∧ limiting.set.response .a = .retardBlock ∧
    (limiting.conv .a).state = .retard ∧ (limiting.conv .a).faultCond = false ∧
    (limiting.conv .a).lastOrigin = some someOrigin ∧ nextPeriodEvent limiting.msy ≠ some 999999 := by decide +kernel

/-- R65, R185: the class F report trips the drive, the staged limit applies and the firing below it is withdrawn. -/
theorem test_staged_limits_at_a_fault :
    (match exec (.faultArrival .a 999999 plainOrder) limiting with
     | .next u => (u.dsq.drive, u.set.num 21, u.cca.firings.length)
     | .fault _ | .refused _ => (.run, 0, 9)) = (.tripped, 20481, 0) := by decide +kernel

/-- The fault arrival of `responding 3` at the instant of the period event, single-drive NO. -/
theorem witness_fault_at_period :
    settingsRight (responding 3 .firing 0).set = true ∧ nextPeriodEvent (responding 3 .firing 0).msy = some 1000000 ∧
    (responding 3 .firing 0).stu.periodTaken ≠ (responding 3 .firing 0).msy.period + 1#32 ∧
    (responding 3 .firing 0).dsq.drive = .run ∧ (responding 3 .firing 0).stu.grace = false ∧
    (responding 3 .firing 0).set.singleDrive = false ∧ (responding 3 .firing 0).stu.lostCond = false ∧
    (responding 3 .firing 0).pru.active = false := by decide +kernel

/-- R90: the period event taken first latches CONVERTER_LOST after CONV_A_FAULT; the demand taken first does not. -/
theorem test_fault_and_period_event :
    [[], [Taking.period .stu, .demand]].map (fun k =>
      match exec (.faultArrival .a 1000000 { plainOrder with takings := k }) (responding 3 .firing 0) with
      | .next u => u.pru.latched.map Latch.kind
      | .fault _ | .refused _ => []) = [[.convFault .a], [.convFault .a, .converterLost]] := by decide +kernel

theorem witness_two_reports :
    setRelease.classInForce (.currentSensor .a) = .f ∧ setRelease.classInForce .pinionMismatch ≠ .w ∧
    settingsRight setRelease = true := by decide +kernel

/-- R148: of two reports of one block the first taken is the first-out, in the order of the command. -/
theorem test_report_order :
    [[], [Cause.currentSensor .b]].map (fun k =>
      match exec (.currentSample ⟨0, 0, 2048, 2048⟩ { plainOrder with reports := k })
        { railed with meu := { railed.meu with sides := ⟨{ meuSideRelease with rail := 2 },
                                                         { meuSideRelease with rail := 2 }⟩ } } with
      | .next u => u.pru.firstOut
      | .fault _ | .refused _ => none) = [some (.currentSensor .a), some (.currentSensor .b)] := by decide +kernel

/-! ### Period work -/

/-- A drive state with the kiln at a speed. -/
def atSpeed (d : Drive) (v : Nat) : State := { driven d with stu := { stuRelease with s := v } }

/-- The breakaway speed and one below it, the stop speed and one above it. -/
theorem witness_drive_moves :
    (atSpeed .starting 820).set.breakSpeed ≤ (atSpeed .starting 820).stu.s ∧
    (atSpeed .starting 819).stu.s < (atSpeed .starting 819).set.breakSpeed ∧
    (atSpeed .stopping 164).stu.s ≤ (atSpeed .stopping 164).set.stopSpeed ∧
    (atSpeed .tripStop 165).set.stopSpeed < (atSpeed .tripStop 165).stu.s ∧
    (atSpeed .stopping 164).dsq.contactor = true ∧ (atSpeed .stopping 164).dsq.enable = true ∧
    (atSpeed .starting 820).dsq.enable = true ∧ (atSpeed .starting 820).dsq.wait = .none ∧
    (atSpeed .starting 820).dsq.periodTaken ≠ 1 ∧ (atSpeed .starting 820).meu.periodTaken ≠ 1 := by decide +kernel

/-- The sequencer's taking of a period event with a demand on its way, a demand of its own still to be taken. -/
def dsqFlow (s : State) : Flow := takePeriod plainOrder 1 1000000 .dsq [.demand] { state := s, mail := [.demand .f] }

/-- R123, R125, R127: in STARTING, STOPPING and TRIP_STOP nothing joins the mail; in COAST at the last count of the coast
timer the demand of MAINS_LOSS waits in it. -/
theorem witness_mail :
    [atSpeed .starting 820, atSpeed .stopping 164, atSpeed .tripStop 165, coasting].map (fun s => (dsqFlow s).mail) =
      [[.demand .f], [.demand .f], [.demand .f], [.demand .f, .demand .s]] ∧
    coasting.dsq.wait = .none ∧ coasting.dsq.periodTaken ≠ 1 := by decide +kernel

/-- R129, R146: the answer of each drive state to a demand of class S, and to the PERMIT_LOST of a WITHDRAW. -/
theorem test_class_s_demand :
    [Drive.blocked, .closing, .starting, .run, .stopping, .coast, .tripStop, .tripped, .aux].map
      (fun d => (demand plainOrder .s (driven d)).dsq.drive) =
      [.tripped, .tripped, .tripStop, .tripStop, .tripStop, .tripped, .tripStop, .tripped, .aux] ∧
    (match exec (.withdraw .p 7 9 plainOrder) (driven .run) with
     | .next u => (u.dsq.drive, u.dsq.enable, u.pru.cls)
     | .fault _ | .refused _ => (.blocked, false, none)) = (.tripStop, true, some .s) := by decide +kernel

theorem witness_class_s_demand :
    [Drive.starting, .run, .stopping].map (fun d => (driven d).dsq.enable) = [true, true, true] ∧
    (driven .run).set.classInForce .permitLost = .s ∧ (driven .run).pru.active = false := by decide +kernel

/-- RUN with both pinions turning at a tooth interval, and channel 0 of the watch in a state. -/
def publishing (interval : Nat) (c : VChan) : State :=
  { driven .run with
    meu := { State.reset.meu with teeth := ⟨⟨some 990000, some (990000 - BitVec.ofNat 32 interval)⟩,
                                            ⟨some 990000, some (990000 - BitVec.ofNat 32 interval)⟩⟩ },
    vwa := { vwaRelease with chans := vwaRelease.chans.put .c0 c } }

/-- The speed on both sides of the overspeed setting, and of the watch minimum; a converter lost; the trim free. -/
theorem witness_speed_checks :
    settingsRight (publishing 303000 vchanRelease).set = true ∧ (publishing 303000 vchanRelease).stu.periodTaken ≠ 1 ∧
    (stuWork setRelease ((publishing 303000 vchanRelease).stuView 1 1000000) stuRelease).overspeedCond = true ∧
    (stuWork setRelease ((publishing 304000 vchanRelease).stuView 1 1000000) stuRelease).overspeedCond = false ∧
    setRelease.classInForce .overspeed ≠ .w ∧
    (stuWork setRelease ((publishing 1333332 vchanRelease).stuView 1 1000000) stuRelease).motors.a.speed = 4096 ∧
    setRelease.watchMin = 4096 ∧
    (stuWork setRelease ((publishing 1334000 vchanRelease).stuView 1 1000000) stuRelease).motors.a.speed < 4096 ∧
    ((publishing 1333332 vchanRelease).vwa.chans.get .c0).state = .paused ∧
    ((publishing 1334000 { vchanRelease with state := .learning }).vwa.chans.get .c0).state = .learning ∧
    (setRelease.profile .c0).marker = .ka ∧
    (stuWork setRelease { (publishing 303000 vchanRelease).stuView 1 1000000 with convs := ⟨.off, .firing⟩ }
      stuRelease).lostCond = true ∧
    (publishing 303000 vchanRelease).rcu.periodTaken ≠ 1 := by decide +kernel

/-- Motor A at Qmax less one, charged past it. -/
def heating : State :=
  { publishing 303000 vchanRelease with
    meu := { (publishing 303000 vchanRelease).meu with sides := ⟨{ meuSideRelease with mean := 32767 }, meuSideRelease⟩ },
    stu := { stuRelease with motors := ⟨{ motorRelease with q := 61439999 }, { motorRelease with thermal := .hot, hotCond := true }⟩ } }

/-- R84: motor A enters HOT and motor B leaves it. -/
theorem witness_thermal_hot :
    settingsRight heating.set = true ∧ heating.set.staged[57]? = some none ∧ heating.set.staged[58]? = some none ∧
    (stuWork heating.set (heating.stuView 1 1000000) heating.stu).motors.a.hotCond = true ∧
    heating.stu.motors.a.hotCond = false ∧
    (stuWork heating.set (heating.stuView 1 1000000) heating.stu).motors.b.hotCond = false ∧
    heating.stu.motors.b.hotCond = true ∧
    (takePeriod plainOrder 1 1000000 .stu [] { state := heating, mail := [] }).state.pru.warnings = [.thermalHot .a] := by
  decide +kernel

/-- `heating` at overspeed, whose trip applies a Qmax and a Qwarn above the account. -/
def cooledByAnApply : State :=
  { heating with set := { heating.set with
      staged := (heating.set.staged.set 57 (some (.num 61440001))).set 58 (some (.num 61440001)) } }

/-- R84, R143: the motor that enters HOT and leaves it at the apply of the same work is neither in the view nor in the
set, whichever report is taken first; WARNING has been raised. -/
theorem test_apply_after_hot :
    [[], [Cause.overspeed], [Cause.thermalHot .a]].map (fun ks =>
      let u := (takePeriod { plainOrder with reports := ks } 1 1000000 .stu [] { state := cooledByAnApply, mail := [] }).state
      (u.dsq.drive, u.stu.motors.a.hotCond, u.pru.view.contains (.thermalHot .a),
       u.pru.warnings.contains (.thermalHot .a), u.links.c.notices.contains .warning)) =
      List.replicate 3 (.tripped, false, false, false, true) := by decide +kernel

/-- R159 after R67: what the record unit enters is what was published, also after the drive has withdrawn the enable. -/
theorem test_entry_holds_the_published_values :
    (let s := { atSpeed .stopping 0 with stu := { stuRelease with
        rr := 500, td := 700, trim := 5, pub := { rr := 500, td := 700, tenv := 36045, trim := 5, coarseA := 1, coarseB := 2 } } }
     let u := (takePeriod plainOrder 1 9 .rcu [] (takePeriod plainOrder 1 9 .dsq [] { state := s, mail := [] })).state
     ((u.rcu.ring.map (fun e => (e.rr, e.td, e.trim, e.coarseB))), u.stu.rr)) = ([(500, 700, 5, 2)], 0) := by
  decide +kernel

/-! ### Settings at their apply points -/

/-- A drive state with a value staged at a position of the table, and the stall class W with STALL a warning. -/
def staging (d : Drive) (i : Nat) (v : SetValue) : State :=
  { driven d with
    set := { (driven d).set with active := (driven d).set.active.set 81 (.code 4),
                                 staged := (driven d).set.staged.set i (some v) },
    pru := { (driven d).pru with warnings := [.stall], view := [.stall] } }

/-- A LIVE value, a STOPPED one in BLOCKED and in RUN, a profile, an action, the stall class, and each range of the
hand-over. -/
theorem witness_staged :
    (catalogue[0]?).map SetSpec.cls = some .live ∧ (catalogue[20]?).map SetSpec.cls = some .stopped ∧
    (catalogue[62]?).map SetSpec.cls = some .revolution ∧ settingsRight (staging .run 0 (.num 9)).set = true ∧
    settingsRight (staging .blocked 20 (.num 8192)).set = true ∧ (staging .blocked 20 (.num 8192)).set.driveView = .blocked ∧
    (staging .blocked 20 (.num 8192)).set.driveView = (staging .blocked 20 (.num 8192)).dsq.drive ∧
    (staging .run 20 (.num 0)).set.driveView = .run ∧ (staging .closing 20 (.num 0)).dsq.drive = .closing ∧
    (staging .closing 20 (.num 0)).links.c.reply = none ∧
    stagedProfile .c0 (staging .run 62 (.profile { profileDefault .kb with w := 2 })).set ≠ none ∧
    settingsRight (staging .run 62 (.profile { profileDefault .kb with w := 2 })).set = true ∧
    (staging .run 62 (.profile (profileDefault .kb))).vwa.chans.c0.state = .paused ∧
    settingsRight (staging .blocked 48 (.num 16384)).set = true ∧ settingsRight (staging .blocked 52 (.num 256)).set = true ∧
    settingsRight (staging .blocked 57 (.num 1000000)).set = true ∧ settingsRight (staging .blocked 58 (.num 0)).set = true ∧
    (staging .run 66 (.action ⟨2, false, 0⟩)).set.staged[66 + chanNumber .c0]? = some (some (.action ⟨2, false, 0⟩)) ∧
    settingsRight (staging .run 66 (.action ⟨2, false, 0⟩)).set = true ∧
    (staging .run 81 (.code 3)).set.staged[81]? = some (some (.code 3)) ∧ .stall ∈ (staging .run 81 (.code 3)).pru.warnings ∧
    (staging .run 0 (.num 9)).set.periodTaken ≠ 1 ∧ (staging .run 0 (.num 9)).vwa.periodTaken ≠ 1 := by decide +kernel

/-- R141: STALL is latched at the apply of its class, though the order names a later place for its report. -/
theorem test_stall_is_taken_at_the_apply :
    (let f := takePeriod plainOrder 1 9 .set [.report .stall, .period .rcu] { state := staging .run 81 (.code 3), mail := [] }
     (f.state.pru.warnings, f.state.pru.latched, f.mail)) = ([], [⟨.stall, .s⟩], []) := by decide +kernel

/-- R19: the six origins of a substitute period event. -/
theorem test_substitute_origins :
    (match exec (.substitutePeriodEvent plainOrder) { State.reset with msy := { State.reset.msy with subst := some 7 } } with
     | .next u => u.msy.origins.map (fun g => (g.stamp, g.length))
     | .fault _ | .refused _ => []) =
      [200007, 233340, 266673, 300007, 333340, 366673].map (fun n => (BitVec.ofNat 32 n, 200000)) := by decide +kernel

/-- `turning` with a profile of another weight staged for channel 0. -/
def reprofiling : State :=
  { turning with set := { turning.set with
      staged := turning.set.staged.set 62 (some (.profile { profileDefault .ka with w := 2 })) } }

theorem witness_profile_at_a_revolution :
    settingsRight reprofiling.set = true ∧ (reprofiling.meu.line .ka).cand = some ⟨true, 20400000⟩ ∧
    stagedProfile .c0 reprofiling.set = some (.profile { profileDefault .ka with w := 2 }) ∧
    (reprofiling.set.profile .c0).marker = .ka ∧ evaluating (reprofiling.vwa.chans.get .c0).state = true ∧
    (reprofiling.vwa.chans.get .c0).phase = .running ∧
    ({ profileDefault .ka with w := 2 } : Profile).w ≠ (reprofiling.set.profile .c0).w := by decide +kernel

/-- The state before the first period event after a reset: two teeth of each pinion since the release, a profile with
another marker staged for channel 0. -/
def firstEvent : State :=
  { State.reset with
    meu := { State.reset.meu with teeth := ⟨⟨some 190000, some 20000⟩, ⟨some 190000, some 20000⟩⟩ },
    set := { State.reset.set with staged := State.reset.set.staged.set 62 (some (.profile (profileDefault .kb))) } }

/-- R190: the profile is taken at the first period event, whether the speeds are taken first or the watch takes it. -/
theorem test_profile_at_the_first_event :
    (firstEvent.vwa.chans.get .c0).state = .paused ∧ settingsRight firstEvent.set = true ∧
    firstEvent.vwa.periodTaken ≠ 1 ∧ firstEvent.stu.periodTaken ≠ 1 ∧
    stagedProfile .c0 firstEvent.set = some (.profile (profileDefault .kb)) ∧
    [[Taking.period .stu, .period .vwa], [.period .vwa, .period .stu]].map (fun ts =>
      match exec (.substitutePeriodEvent { plainOrder with takings := ts }) firstEvent with
      | .next u => ((u.vwa.chans.get .c0).state, (u.set.profile .c0).marker, stagedProfile .c0 u.set, u.vwa.woken.c0)
      | .fault _ | .refused _ => (.danger, .ks, none, none)) =
      [(.learning, .kb, none, none), (.learning, .kb, none, none)] := by decide +kernel

/-- R182, R186: also a write of the very profile that was staged is held, once the speeds have brought the channel to
LEARNING. -/
theorem test_profile_written_again_in_learning_is_held :
    (let u := (takePeriod plainOrder 1 200000 .stu [] { state := firstEvent, mail := [] }).state
     match exec (.putSetting .m 1 63 (profileBytes (profileDefault .kb)) 200000 plainOrder) u with
     | .next v =>
       let w := (takePeriod plainOrder 1 200000 .vwa [] { state := v, mail := [] }).state
       ((w.vwa.chans.get .c0).state, (w.set.profile .c0).marker, stagedProfile .c0 w.set)
     | .fault _ | .refused _ => (.danger, .ks, none)) =
      (.learning, .ka, some (.profile (profileDefault .kb))) := by decide +kernel

/-- R186: a profile staged only once the speeds have brought the channel to LEARNING is held at that period event. -/
theorem test_profile_staged_in_learning_is_held :
    (let u := (takePeriod plainOrder 1 200000 .stu [] { state := { firstEvent with set := State.reset.set }, mail := [] }).state
     let w := (takePeriod plainOrder 1 200000 .vwa [] { state := { u with set := firstEvent.set }, mail := [] }).state
     ((w.vwa.chans.get .c0).state, (w.set.profile .c0).marker, stagedProfile .c0 w.set)) =
      (.learning, .ka, some (.profile (profileDefault .kb))) := by decide +kernel

/-- The speeds taken first bring channel 0 to LEARNING under the profile in force, and the watch notes it. -/
theorem witness_woken :
    (let u := (takePeriod plainOrder 1 200000 .stu [] { state := firstEvent, mail := [] }).state
     ((u.vwa.chans.get .c0).state, u.vwa.woken.c0, (u.set.profile .c0).marker, u.vwa.periodTaken,
      stagedProfile .c0 u.set, settingsRight u.set)) =
      (.learning, some (.profile (profileDefault .kb)), .ka, 0, some (.profile (profileDefault .kb)), true) ∧
    evaluating (reprofiling.vwa.chans.get .c0).state = true ∧ reprofiling.vwa.woken.c0 = none ∧
    reprofiling.vwa.periodTaken ≠ 1 := by decide +kernel

/-- A code in and out of an enumeration; a profile and an action at and above the ends of their ranges. -/
theorem witness_put_records :
    catalogue[(29#16).toNat - 1]? = some ⟨.p, .live, .code [0, 1, 2, 3] 2⟩ ∧ 3 ∈ [0, 1, 2, 3] ∧ ¬ 4 ∈ [0, 1, 2, 3] ∧
    catalogue[(63#16).toNat - 1]? = some ⟨.m, .revolution, .profile (profileDefault .ka)⟩ ∧ (2 : Byte).toNat ≤ 2 ∧
    2 < (3 : Byte).toNat ∧ catalogue[(67#16).toNat - 1]? = some ⟨.p, .live, .action actionDefault⟩ ∧
    (63#16).toNat = profileId .c0 ∧ (1 : Byte).toNat ≤ 1 ∧ 1 < (2 : Byte).toNat ∧ State.reset.links.m.reply = none ∧ State.reset.links.p.reply = none := by
  decide +kernel

/-! ### Slots, layouts and lines -/

/-- Every slot holding a record: slot 0 the oldest, slots of the kinds given, slot 1 FILLING a MANUAL record. -/
def storing (kind : RecordKind) : State :=
  { remembering with rcu := { remembering.rcu with
      slots := ⟨some { someRecord with kind := kind, isSealed := true }, some { someRecord with number := 7 },
                some { someRecord with kind := .trip, isSealed := true, number := 8 },
                some { someRecord with kind := .trip, isSealed := true, number := 9 },
                some { someRecord with kind := .trip, isSealed := true, number := 10 },
                some { someRecord with kind := .trip, isSealed := true, number := 11 }⟩,
      age := [.s0, .s1, .s2, .s3, .s4, .s5], filling := some .s1, mark := true, counter := 12 } }

/-- The oldest SEALED MANUAL; the newest SEALED TRIP; a FREE slot; and a TRIP over a FILLING MANUAL record. -/
theorem witness_slots :
    chooseSlot (storing .manual).rcu = some .s0 ∧ (storing .manual).rcu.age = [] ++ .s0 :: [.s1, .s2, .s3, .s4, .s5] ∧
    sealedManual (storing .manual).rcu .s0 = true ∧ chooseSlot (storing .trip).rcu = some .s5 ∧
    (storing .trip).rcu.age = [.s0, .s1, .s2, .s3, .s4] ++ .s5 :: [] ∧ sealedTrip (storing .trip).rcu .s5 = true ∧
    allSlots.all (fun j => ((storing .trip).rcu.slots.get j).isSome) = true ∧
    allSlots.all (fun j => !sealedManual (storing .trip).rcu j) = true ∧
    remembering.rcu.slots.get .s0 = none ∧ remembering.rcu.filling = none ∧
    (storing .trip).rcu.filling = some .s1 ∧ (storing .trip).links.p.reply = none ∧ (storing .trip).pru.active = false ∧
    (storing .trip).rcu.ring = [someEntry, someEntry] := by decide +kernel

/-- R163, R164, R170: the TRIP record takes the slot of the MANUAL record it truncates, and its reader is told. -/
theorem test_trip_over_a_filling_record :
    (match exec (.trip .p 3 9 plainOrder) (storing .trip) with
     | .next u => (u.rcu.slots.s1.map Record.kind, u.rcu.pinned, u.links.m.notices.contains .recordLost,
                   u.links.m.notices.contains .recordSealed)
     | .fault _ | .refused _ => (none, none, false, false)) = (some .trip, some 12, true, true) := by decide +kernel

/-- An ACTIVE class F episode in TRIPPED whose record 5 is FILLING with `n` subsequent causes. -/
def listing (n : Nat) : State :=
  { driven .tripped with
    pru := { (driven .tripped).pru with active := true, cls := some .f, firstOut := some .overspeed,
                                        latched := [⟨.overspeed, .f⟩], record := some 5, periodTaken := 3 },
    rcu := { recording.rcu with
      slots := recording.rcu.slots.put .s0 (some { someRecord with subs := List.replicate n ⟨.stall, 2⟩ }),
      pinned := some 5 } }

/-- A subsequent cause before and past the eighth; an empty ring; a record that waits for its trigger entry. -/
theorem witness_record_edges :
    (listing 7).links.p.reply = none ∧ settingsRight (listing 7).set = true ∧ (listing 7).pru.active = true ∧
    ((listing 7).pru.latched.all (fun e => decide (e.kind ≠ .stationTrip))) = true ∧
    (listing 7).rcu.filling = some .s0 ∧
    ((listing 8).rcu.slots.get .s0).map (fun r => (r.number, r.subs.length)) = some (5, 8) ∧
    (listing 8).rcu.pinned = some 5 ∧ locked.rcu.ring = [] ∧ chooseSlot locked.rcu = some .s0 ∧
    locked.rcu.filling = none ∧ locked.links.c.reply = none ∧
    ({ someRecord with entries := [] } : Record).pre + someRecord.post ≠ 0 := by decide +kernel

/-- R167: the eighth subsequent cause is listed with the number its report carries, the ninth counts as overflow. -/
theorem test_subsequent_causes :
    [7, 8].map (fun n => match exec (.trip .p 3 9 plainOrder) (listing n) with
      | .next u => (u.rcu.slots.get .s0).map (fun r => (r.subs.getLast?, r.overflow))
      | .fault _ | .refused _ => none) =
      [some (some ⟨.stationTrip, 3⟩, 0), some (some ⟨.stall, 2⟩, 1)] := by decide +kernel

/-- `listing` with STALL a warning and its class S staged. -/
def stallWarned (n : Nat) : State :=
  { listing n with set := (staging .tripped 81 (.code 3)).set, pru := { (listing n).pru with warnings := [.stall] } }

theorem witness_stall_in_an_episode :
    settingsRight (stallWarned 7).set = true ∧ (stallWarned 7).set.periodTaken ≠ 1 ∧
    (stallWarned 7).set.driveView = (stallWarned 7).dsq.drive ∧ (stallWarned 7).pru.active = true ∧
    ((stallWarned 7).pru.latched.all (fun e => decide (e.kind ≠ .stall))) = true ∧
    allChans.all (fun i => decide ((stallWarned 7).set.staged[66 + chanNumber i]? = some none)) = true ∧
    (stallWarned 7).rcu.filling = some .s0 ∧ (stallWarned 7).rcu.pinned = some 5 ∧
    ((stallWarned 7).rcu.slots.get .s0).map (fun r => (r.number, r.subs.length)) = some (5, 7) ∧
    (staging .run 81 (.code 3)).pru.active = false := by decide +kernel

/-- `stallWarned` with PERMIT_LOST latched, a kind of a higher code. -/
def stallAfterPermitLost : State :=
  { stallWarned 7 with pru := { (stallWarned 7).pru with
      cls := some .s, firstOut := some .permitLost, latched := [⟨.permitLost, .s⟩] } }

/-- R141, R145: STALL joins the latched set beside PERMIT_LOST, before it in the order of the codes. -/
theorem witness_stall_below_a_latched_code :
    tripRight stallAfterPermitLost.pru = true ∧ tripRight (stallWarned 7).pru = true ∧
    settingsRight stallAfterPermitLost.set = true ∧ stallAfterPermitLost.set.periodTaken ≠ 1 ∧
    (takePeriod plainOrder 1 9 .set [] { state := stallAfterPermitLost, mail := [] }).state.pru.latched =
      [⟨.stall, .s⟩, ⟨.permitLost, .s⟩] := by decide +kernel

/-- R161: after 65535 the counter passes over 1 and 2, which records hold. -/
theorem test_record_number_wraps :
    (match exec (.capture .m 3 9 plainOrder) { remembering with rcu := { remembering.rcu with
        counter := 65535,
        slots := ⟨some { someRecord with number := 2 }, some { someRecord with number := 1 }, none, none, none, none⟩ } } with
     | .next u => ((u.rcu.slots.get .s2).map Record.number, u.rcu.counter)
     | .fault _ | .refused _ => (none, 0)) = (some 65535, 3) := by decide +kernel

theorem witness_layouts :
    someRecord.subs.length ≤ 8 ∧ someRecord.subs[0]? = none ∧ chanBinsRight vchanRelease = true ∧
    valueInRange (.num 4 64 8) (.num 4) = true ∧
    [28, 29, 61, 77, 81, 86].map (fun i => setRelease.active[i]?) =
      [some (.code 2), some (.code 2), some (.code 0), some (.code 2), some (.code 3), some (.code 0)] := by decide +kernel

/-- A reply of three bytes at a rate of 2 Mbit/s: the last tick of its last bit, and the tick after. -/
theorem witness_lines :
    someReply.frame.length ≤ 254 ∧ someReply.frame[6]? = some 0x4E ∧ 9 < 10 ∧ 4 < bitTicks .r2M ∧
    someReply.frame.length * byteTicks .r2M = 350 := by decide +kernel

/-- R191: the reply's first byte 0xE7 on the line, bit by bit, and the line after a reset that cuts it there. -/
theorem test_line_levels :
    (List.range 11).map (fun i => txLevel .r500k (500 + BitVec.ofNat 32 (20 * i))
      { linkRelease 0 0 with reply := some someReply }) =
      [false, true, true, true, false, false, true, true, true, true, false] ∧
    txLevel .r500k 700 (linkResetTaken .r500k 699 { linkRelease 0 0 with reply := some someReply }) = true ∧
    txLevel .r500k 600 (linkResetTaken .r500k 599 { linkRelease 0 0 with reply := some someReply }) = false := by
  decide +kernel

/-! ### What every step keeps -/

/-- The invariants of the steps, all at once. -/
def kept (s : State) : Bool :=
  [settingsRight s.set, attentionsRight s, enableRight s, linesRight s.dsq, tripRight s.pru, derateRight s.vwa,
   binsRight s.vwa, gatesRight s.cca, gatesRight s.ccb, torqueRight s, recordsRight s.rcu].all id

theorem witness_kept_in_run : kept (driven .run) = true := by decide +kernel

theorem witness_step_in_run : ∃ t, step (driven .run) = .next t := ⟨_, rfl⟩

end Sys2Proof.Machine.Tests
end

section
/-! The split of the torque demand (R86): what step 3 leaves, what step 4 answers, and the bounds on the two shares. -/

namespace Sys2Proof.Machine

/-! ### Step 3: a negative side gives way to the other -/

/-- Side A's torque after step 3 of the split of `td`, from its torque after step 2 (R86). -/
def liftedA (td ta : Int) : Int := if ta < 0 then 0 else if td - ta < 0 then td else ta

/-- Step 3 keeps the sum of two torques that make up `td`. -/
theorem liftNegative_eq_liftedA (td ta : Int) :
    liftNegative ta (td - ta) = (liftedA td ta, td - liftedA td ta) := by
  unfold liftNegative liftedA
  split_ifs with hA hB
  · exact Prod.ext rfl (by dsimp only; omega)
  · exact Prod.ext (by dsimp only; omega) (by dsimp only; omega)
  · rfl

theorem liftedA_nonneg {td : Int} (htd : 0 ≤ td) (ta : Int) : 0 ≤ liftedA td ta := by
  unfold liftedA
  split_ifs <;> omega

theorem liftedA_le {td : Int} (htd : 0 ≤ td) (ta : Int) : liftedA td ta ≤ td := by
  unfold liftedA
  split_ifs <;> omega

/-- The split limits what step 3 leaves of the demand, A's part and the rest of it. -/
theorem splitTorque_eq_limitShares (a : Nat) (b : Int) (la lb : Nat) (td : Int) :
    splitTorque a b la lb td = limitShares la lb (liftedA td (tdiv (td * a) 256 + b))
      (td - liftedA td (tdiv (td * a) 256 + b)) := by
  rw [splitTorque, Int.sub_sub, liftNegative_eq_liftedA]

/-! ### Step 4: a side above its limit hands what it can to the other -/

section
variable {la lb : Nat} {ta tb : Int}

theorem limitShares_of_a_above (hA : (la : Int) < ta) :
    limitShares la lb ta tb = ⟨la, min (tb + (ta - la)) lb, true⟩ := if_pos hA

theorem limitShares_of_b_above (hA : ¬ (la : Int) < ta) (hB : (lb : Int) < tb) :
    limitShares la lb ta tb = ⟨min (ta + (tb - lb)) la, lb, true⟩ := by
  rw [limitShares, if_neg hA, if_pos hB]

theorem limitShares_of_within (hA : ¬ (la : Int) < ta) (hB : ¬ (lb : Int) < tb) :
    limitShares la lb ta tb = ⟨ta, tb, false⟩ := by
  rw [limitShares, if_neg hA, if_neg hB]

end

/-- The three fields of the answer of step 4, each in one equation. -/
theorem limitShares_eq (la lb : Nat) (ta tb : Int) : limitShares la lb ta tb =
    { a := if (la : Int) < ta then (la : Int) else if (lb : Int) < tb then min (ta + (tb - lb)) la else ta
      b := if (la : Int) < ta then min (tb + (ta - la)) lb else if (lb : Int) < tb then (lb : Int) else tb
      limited := decide ((la : Int) < ta ∨ (lb : Int) < tb) } := by
  by_cases hA : (la : Int) < ta
  · simp [limitShares_of_a_above, hA]
  · by_cases hB : (lb : Int) < tb
    · simp [limitShares_of_b_above, hA, hB]
    · simp [limitShares_of_within, hA, hB]

/-- Each share lies between 0 and its pinion limit, and together they stay within what was to be split. -/
structure Shares.Within (w : Shares) (la lb : Nat) (td : Int) : Prop where
  a_nonneg : 0 ≤ w.a
  a_le : w.a ≤ la
  b_nonneg : 0 ≤ w.b
  b_le : w.b ≤ lb
  sum_le : w.a + w.b ≤ td

/-- Step 4 keeps two torques that are not negative within the limits, and never adds to their sum: the lesser of the
handed torque and the room left under the other limit is all that is handed over. -/
theorem limitShares_within (la lb : Nat) {ta tb : Int} (hta : 0 ≤ ta) (htb : 0 ≤ tb) :
    (limitShares la lb ta tb).Within la lb (ta + tb) := by
  by_cases hA : (la : Int) < ta
  · rw [limitShares_of_a_above hA]
    constructor <;> dsimp only <;> omega
  · by_cases hB : (lb : Int) < tb
    · rw [limitShares_of_b_above hA hB]
      constructor <;> dsimp only <;> omega
    · rw [limitShares_of_within hA hB]
      constructor <;> dsimp only <;> omega

/-- The split of a demand that is not negative stays within the pinion limits and the demand (R86). -/
theorem splitTorque_within (a : Nat) (b : Int) (la lb : Nat) {td : Int} (htd : 0 ≤ td) :
    (splitTorque a b la lb td).Within la lb td := by
  have h := limitShares_within la lb (liftedA_nonneg htd (tdiv (td * a) 256 + b))
    (Int.sub_nonneg_of_le (liftedA_le htd (tdiv (td * a) 256 + b)))
  rwa [add_sub_cancel, ← splitTorque_eq_limitShares] at h

/-- Settles O49: the shares are those of steps 3 and 4 by their equations, and the bounds are those of
`splitTorque_within`. -/
theorem splitStaysWithinTheLimits : Obligations.SplitStaysWithinTheLimits := by
  intro a la lb b td ta tb tenv htd htenv hta htb
  have heq : splitTorque a b la lb td = limitShares la lb ta tb := by
    rw [htb, hta]
    exact splitTorque_eq_limitShares a b la lb td
  have hfields := heq.trans (limitShares_eq la lb ta tb)
  obtain ⟨a_nonneg, a_le, b_nonneg, b_le, sum_le⟩ := splitTorque_within a b la lb htd
  exact ⟨congrArg Shares.a hfields, congrArg Shares.b hfields, congrArg Shares.limited hfields,
    a_nonneg, a_le, b_nonneg, b_le, sum_le, sum_le.trans htenv⟩

end Sys2Proof.Machine
end

section
/-! The check of frames (R192): the register bit by bit, the two bytes it is sent in, and the test of a received frame. -/

namespace Sys2Proof.Machine

/-! ### The register -/

/-- The generator is combined in exactly where the bit shifted out differs from the data bit (R192). -/
theorem crcBit_eq (r : BitVec 16) (bit : Bool) :
    crcBit r bit = if r.getLsbD 15 ≠ bit then (r <<< 1) ^^^ 0x1021#16 else r <<< 1 := by
  simp [crcBit, BitVec.msb_eq_getLsbD_last]

/-- One byte is its eight bits, bit 7 first. -/
theorem crcByte_eq (r : BitVec 16) (v : Byte) :
    crcByte r v = (List.range 8).foldl (fun r i => crcBit r (v.getLsbD (7 - i))) r := rfl

@[simp] theorem crc_nil : crc [] = 0xFFFF#16 := rfl

/-- The register after one more byte. -/
theorem crc_concat (vs : List Byte) (v : Byte) : crc (vs ++ [v]) = crcByte (crc vs) v :=
  List.foldl_concat ..

/-! ### The two bytes of the register -/

/-- A word in two bytes is the word put together from them, high byte first. -/
theorem be_two_eq_iff (r : BitVec 16) (hi lo : Byte) : be 2 r.toNat = [hi, lo] ↔ r = hi ++ lo := by
  have hhi := hi.isLt
  have hlo := lo.isLt
  have hr := r.isLt
  have happ : (hi ++ lo).toNat = hi.toNat * 256 + lo.toNat := by
    rw [BitVec.toNat_append, ← Nat.shiftLeft_add_eq_or_of_lt hlo, Nat.shiftLeft_eq]
  simp only [be, List.cons.injEq, and_true, ← BitVec.toNat_inj, BitVec.toNat_ofNat, happ]
  omega

theorem checkBytes_eq_iff (body : List Byte) (hi lo : Byte) :
    checkBytes body = [hi, lo] ↔ crc (BitVec.ofNat 8 body.length :: body) = hi ++ lo := be_two_eq_iff ..

/-! ### The frame sent and the frame received -/

/-- What a frame's last two bytes are (section 10.2). -/
theorem frameOf_eq_iff (body : List Byte) (hi lo : Byte) :
    frameOf body = 0xE7#8 :: BitVec.ofNat 8 body.length :: (body ++ [hi, lo]) ↔ checkBytes body = [hi, lo] := by
  simp [frameOf, syncByte]

/-- The last byte of a frame ends its reception, and delivers its request where the check is right (R193). -/
theorem linkByte_check {l : Link} {body : List Byte} {hi : Byte} (h : l.rx = .check body (some hi)) (lo : Byte)
    (t : Tick) : linkByte lo t l =
      (linkHunt l, if crc (BitVec.ofNat 8 body.length :: body) = hi ++ lo then requestOf body else none) := by
  simp [linkByte, h, checkPasses, checkBytes_eq_iff]

/-- Settles O51: the register by `crcBit_eq` bit by bit, the two CHECK bytes by `checkBytes_eq_iff` in the frame sent
and in the frame received. -/
theorem checkIsTheCyclicCheck : Obligations.CheckIsTheCyclicCheck := by
  refine ⟨crc_nil, fun vs v => ?register, by decide +kernel, fun body hi lo => ?sent,
    fun k g rest hi lo t l h => ?received⟩
  case register => simp only [crc_concat, crcByte_eq, crcBit_eq]
  case sent => exact (frameOf_eq_iff body hi lo).trans (checkBytes_eq_iff body hi lo)
  case received => exact congrArg Prod.snd (linkByte_check h lo t)

end Sys2Proof.Machine
end

section
/-! A request that arrives on a link with no reply under way, and NOTICES (R194, R195, R200). -/

namespace Sys2Proof.Machine

/-! ### From the arrival of a request to its effect -/

/-- The KIND code of a request names that request (section 11.1). -/
@[simp] theorem kindOf_kindCode (k : ReqKind) : kindOf (kindCode k) = some k := by
  cases k <;> rfl

/-- A request that passes the link's tests is handed to its block (R195). -/
theorem actRequest_of_fits {st : Station} {k : ReqKind} {payload : List Byte} (hallowed : allowedOn k st = true)
    (hfits : lengthFits k payload.length = true) (g : Byte) (o : Sched) (s : State) :
    actRequest st { kind := kindCode k, tag := g, payload := payload } o s = handRequest st k payload o s := by
  simp [actRequest, hallowed, hfits]

/-- On a link with no reply under way a complete request is taken at once (R194). -/
theorem completeRequest_of_free {st : Station} {s : State} (hfree : (s.links.get st).reply = none) (r : Request)
    (o : Sched) : completeRequest st r o s = takeRequest st r o s := by
  simp [completeRequest, hfree]

/-- What the arrival of a request leaves on a link with no reply under way, where it passes the link's tests: the
effect of the request and its reply (R194, R195, R196). -/
theorem requestArrives_of_free {st : Station} {k : ReqKind} {payload : List Byte} {s : State}
    (hfree : (s.links.get st).reply = none) (hallowed : allowedOn k st = true)
    (hfits : lengthFits k payload.length = true) (g : Byte) (t : Tick) (o : Sched) :
    requestArrives st k g payload t o s = startReply st
      (replyBody { kind := kindCode k, tag := g, payload := payload } (handRequest st k payload o { s with now := t }))
      (handRequest st k payload o { s with now := t }).state := by
  rw [requestArrives, completeRequest_of_free (s := { s with now := t }) hfree, takeRequest, actRequest_of_fits hallowed hfits]

/-- The body of a reply of OK: KIND, TAG, the status 0 and the payload (R196). -/
@[simp] theorem replyBody_okWith (r : Request) (s : State) (payload : List Byte) :
    replyBody r (okWith s payload) = r.kind :: r.tag :: 0x00#8 :: payload := rfl

/-! ### NOTICES -/

/-- The arm of `exec` for NOTICES. -/
theorem exec_notices (k : Station) (g : Byte) (t : Tick) (o : Sched) (s : State) :
    exec (.notices k g t o) s = .next (requestArrives k .notices g [] t o s) := rfl

/-- NOTICES is allowed on every link (section 10.7). -/
@[simp] theorem allowedOn_notices (k : Station) : allowedOn .notices k = true := rfl

/-- The effect of NOTICES: it answers the notice set and collects it (R200). -/
theorem handRequest_notices (k : Station) (payload : List Byte) (o : Sched) (s : State) :
    handRequest k .notices payload o s =
      okWith { s with links := s.links.put k { s.links.get k with notices := [], attention := false } }
        (noticeSetBytes (s.links.get k).notices) := rfl

/-- Settles O37: on a free link NOTICES passes the link's tests, and its reply carries what `handRequest_notices`
answers. -/
theorem noticesAreHandedOver : Obligations.NoticesAreHandedOver := by
  intro k g t o s hfree
  rw [exec_notices, requestArrives_of_free hfree (allowedOn_notices k) rfl, handRequest_notices, replyBody_okWith]
  rfl

end Sys2Proof.Machine
end

section
/-! What a command can do: each is a sequence of acts of the blocks (`Act`), proved once for every shared operation and
every command, so that a property kept by the acts is kept by every step. A move of the drive is one act, and, for a
property of one block alone, a sequence of smaller ones (`PartAct`). -/

namespace Sys2Proof.Machine

/-! ### The acts -/

/-- The protection unit holds the same episode: only views, warnings, the permit and the EXT_TRIP line may differ. -/
structure SameEpisode (p q : Pru) : Prop where
  active : q.active = p.active
  cls : q.cls = p.cls
  firstOut : q.firstOut = p.firstOut
  latched : q.latched = p.latched
  record : q.record = p.record
  trip : q.trip = p.trip

/-- What a converter controller does by itself, the enable apart. -/
inductive ConvAct : Conv → Conv → Prop
  | off (c : Conv) : ConvAct c (convOff c)
  | origin (z : SetTable) (iref imeas : Nat) (g : Origin) (c : Conv) : ConvAct c (convOrigin z iref imeas g c)
  | issue (z : SetTable) (f : Firing) (c : Conv) (h : c.firings ≠ []) : ConvAct c (convIssue z f c)
  | phaseEnd (b : Burst) (c : Conv) (h : c.burst = some b) : ConvAct c (convPhaseEnd b c)
  | arrival (z : SetTable) (x : Side) (t : Tick) (i : Nat) (c : Conv) : ConvAct c (convArrival z x t i c).1
  | clear (c : Conv) : ConvAct c (convClear c)
  | angles (z : SetTable) (c : Conv) : ConvAct c (convAngleApply z c)

/-- A channel keeps its 64 bins. -/
structure BinsKept (c d : VChan) : Prop where
  kept : chanBinsRight c = true → chanBinsRight d = true

/-- What the record unit does, with the settings `z`. -/
inductive RcuAct (z : SetTable) (u : Rcu) : Rcu → Prop
  | trigger (k : Cause) (c : Class) (d : Drive) : RcuAct z u (rcuTrigger z k c d u).1
  | take (st : Station) (h : u.filling = none) : RcuAct z u (rcuCapture z st u).1
  | period (e : Entry) : RcuAct z u (rcuPeriod e u).1
  | sub (k : Cause) (n : Period) : RcuAct z u (rcuSub k n u)
  | capture (x : Side) (c : FaultCapture) : RcuAct z u (rcuTakeCapture x c u)
  | unpin : RcuAct z u (rcuUnpin u)
  | next (st : Station) : RcuAct z u (rcuNext st u)
  | cursors (cs : Triple (Option Cursor)) : RcuAct z u { u with cursors := cs }
  | told (d : Drive) : RcuAct z u { u with driveView := d }

/-- What the settings table does. -/
inductive SetAct (z : SetTable) : SetTable → Prop
  | stage (st : Station) (id : Nat) (bs : List Byte) (b : Bool) (v : SetValue) (h : putTest st id bs = .staged b v) :
      SetAct z (stageValue id v z)
  | apply (choose : ApplyClass → Bool) : SetAct z (applyClasses choose z)
  | profile (n : Chan) (v : SetValue) (h : stagedProfile n z = some v) : SetAct z (profileTaken n v z)
  | note (d : Drive) (n : Period) : SetAct z { z with driveView := d, periodTaken := n }

/-- An act of the blocks other than the speed and torque unit and the drive sequencer. -/
inductive BlockAct (s : State) : State → Prop
  | base (t : Tick) (m : Msy) (u : Meu) (x : Option EdgeIssue) :
      BlockAct s { s with now := t, msy := m, meu := u, issued := x }
  | link (k : Station) (l : Link) (h : attentionRight l = true) : BlockAct s { s with links := s.links.put k l }
  | links (ls : Triple Link) (h : ∀ k, (ls.get k).notices = (s.links.get k).notices ∧
      (ls.get k).attention = (s.links.get k).attention) : BlockAct s { s with links := ls }
  | convA (c : Conv) (h : ConvAct s.cca c) : BlockAct s { s with cca := c }
  | convB (c : Conv) (h : ConvAct s.ccb c) : BlockAct s { s with ccb := c }
  | chan (a : Action) (n : Chan) (c : VChan) (h : BinsKept (s.vwa.chans.get n) c) :
      BlockAct s { s with vwa := (vwaPut a n c s.vwa).1 }
  | scan (x : Int) (t : Tick) (n : Chan) :
      BlockAct s { s with vwa := { s.vwa with chans := s.vwa.chans.put n (takeScan x t (s.vwa.chans.get n)) } }
  | noted (w : Quad (Option SetValue)) (n : Period) : BlockAct s { s with vwa := { s.vwa with woken := w, periodTaken := n } }
  | pru (p : Pru) (h : SameEpisode s.pru p) : BlockAct s { s with pru := p }
  | opened (k : Cause) (c : Class) (n : Option Nat) (h : s.pru.active = false) :
      BlockAct s { s with pru := { pruOpen k c s.pru with record := n } }
  | latched (k : Cause) (c : Class) (h : s.pru.active = true) (hl : latchingOf k c s.pru ≠ .same) :
      BlockAct s { s with pru := pruLatch k c s.pru }
  | ended : BlockAct s { s with pru := pruReset s.pru }
  | rcu (u : Rcu) (h : RcuAct s.set s.rcu u) : BlockAct s { s with rcu := u }
  | set (z : SetTable) (h : SetAct s.set z) : BlockAct s { s with set := z }

/-- What the speed and torque unit does by itself, with the settings `z` and the drive state as it has it. -/
inductive StuAct (z : SetTable) (drive : Drive) (u : Stu) : Stu → Prop
  | period (v : StuView) (h : v.drive = drive) : StuAct z drive u (stuPeriod z v u).1
  | reform (level : Nat) : StuAct z drive u (stuReform z level drive u)
  | thermal : StuAct z drive u (stuThermalApply z u).1
  | speedRef (value : Nat) : StuAct z drive u (stuSpeedRef z value u).1
  | tooth (x : Side) : StuAct z drive u (stuTooth x u).1

/-- What the drive sequencer does. -/
inductive DsqAct (d : Dsq) : Dsq → Prop
  | demand (c : Class) : DsqAct d (dsqDemand c d)
  | locked (z : SetTable) (s : Nat) : DsqAct d (dsqLocked z s d).1
  | lost : DsqAct d (dsqSyncLost d)
  | work (z : SetTable) (v : DsqView) : DsqAct d (dsqWork z v d)
  | start (h : d.drive = .blocked) (hf : contactorFree d = true) : DsqAct d (dsqStart d)
  | stop : DsqAct d (dsqStop d)
  | toAux (h : d.drive = .blocked) (hf : contactorFree d = true) : DsqAct d (dsqToAux d)
  | fromAux (a : Bool) (h : d.drive = .aux) : DsqAct d (dsqFromAux a d)
  | ended : DsqAct d (dsqEpisodeEnd d)

/-- One act of the part; a move of the drive is one act of all the blocks that take it. -/
inductive Act (s : State) : State → Prop
  | block {t : State} (h : BlockAct s t) : Act s t
  | stu (u : Stu) (h : StuAct s.set s.dsq.drive s.stu u) : Act s { s with stu := u }
  | move (o : Sched) (d : Dsq) (h : DsqAct s.dsq d) : Act s (moveDrive o d s)

/-- An act of one block of the part, of which a move of the drive is made up. -/
inductive PartAct (s : State) : State → Prop
  | block {t : State} (h : BlockAct s t) : PartAct s t
  | stu (u : Stu) : PartAct s { s with stu := u }
  | dsq (d : Dsq) : PartAct s { s with dsq := d }
  | enable (old new : Bool) (sync : SyncState) : PartAct s
      { s with cca := convTakeEnable old new sync s.cca, ccb := convTakeEnable old new sync s.ccb }

/-- Acts one after the other. -/
abbrev BlockActs : State → State → Prop := Relation.ReflTransGen BlockAct

/-- Acts one after the other. -/
abbrev Acts : State → State → Prop := Relation.ReflTransGen Act

/-- Acts one after the other. -/
abbrev PartActs : State → State → Prop := Relation.ReflTransGen PartAct

/-- A sequence of acts of one sort is one of another sort that has those acts. -/
theorem acts_mono {r q : State → State → Prop} (h : ∀ s t, r s t → q s t) {s t : State}
    (hst : Relation.ReflTransGen r s t) : Relation.ReflTransGen q s t := hst.lift id h

theorem BlockActs.acts {s t : State} (h : BlockActs s t) : Acts s t := acts_mono (fun _ _ => .block) h

theorem BlockActs.partActs {s t : State} (h : BlockActs s t) : PartActs s t := acts_mono (fun _ _ => .block) h

/-- What a fold does is a sequence of acts where each of its steps is. -/
theorem foldl_rel {r : State → State → Prop} {α : Type} {f : State → α → State}
    (h : ∀ s a, Relation.ReflTransGen r s (f s a)) (l : List α) (s : State) :
    Relation.ReflTransGen r s (l.foldl f s) := by
  induction l generalizing s with
  | nil => exact .refl
  | cons a l ih => exact (h s a).trans (ih (f s a))

/-- A property that every act keeps is kept by a sequence of acts. -/
theorem kept_of_acts {r : State → State → Prop} {P : State → Prop} (h : ∀ s t, r s t → P s → P t) {s t : State}
    (hst : Relation.ReflTransGen r s t) (hs : P s) : P t := by
  induction hst with
  | refl => exact hs
  | tail _ hbc ih => exact h _ _ hbc ih

/-! ### Notices, conditions and warnings -/

theorem addNotice_ne_nil (k : Notice) (ks : List Notice) : addNotice k ks ≠ [] := by
  have hk : k ∈ allNotices := by cases k <;> simp [allNotices]
  exact List.ne_nil_of_mem (List.mem_filter.mpr ⟨hk, by simp⟩)

theorem attentionRight_linkRaise (k : Notice) (l : Link) : attentionRight (linkRaise k l) = true := by
  simp [attentionRight, linkRaise, addNotice_ne_nil]

theorem raise_acts (k : Notice) (st : Station) (s : State) : BlockActs s (raise k st s) :=
  .single (.link _ _ (attentionRight_linkRaise ..))

theorem raiseTo_acts (k : Notice) (sts : List Station) (s : State) : BlockActs s (raiseTo k sts s) :=
  foldl_rel (fun u st => raise_acts k st u) sts s

theorem SameEpisode.refl (p : Pru) : SameEpisode p p := ⟨rfl, rfl, rfl, rfl, rfl, rfl⟩

theorem pruCond_episode (k : Cause) (b : Bool) (p : Pru) : SameEpisode p (pruCond k b p) := by
  cases b <;> exact ⟨rfl, rfl, rfl, rfl, rfl, rfl⟩

theorem pruWarn_episode (k : Cause) (p : Pru) : SameEpisode p (pruWarn k p) := by
  unfold pruWarn
  split
  · exact ⟨rfl, rfl, rfl, rfl, rfl, rfl⟩
  · exact .refl p

theorem takeCond_acts (k : Cause) (b : Bool) (s : State) : BlockActs s (takeCond k b s) :=
  .single (.pru _ (pruCond_episode ..))

theorem takeWarning_acts (k : Cause) (s : State) : BlockActs s (takeWarning k s) := by
  unfold takeWarning
  split
  · exact .refl
  · exact .head (.pru _ (pruWarn_episode ..)) (raiseTo_acts ..)

theorem takeCapture_acts (x : Side) (c : FaultCapture) (s : State) :
    BlockActs s { s with rcu := rcuTakeCapture x c s.rcu } := .single (.rcu _ (.capture x c))

theorem takeMild_acts (s : State) (m : Msg) : BlockActs s (takeMild s m) := by
  cases m with
  | cond k b => exact takeCond_acts k b s
  | report k n => exact takeWarning_acts k s
  | notice k st => exact raise_acts k st s
  | capture x c => exact takeCapture_acts x c s

theorem raiseAll_acts (ms : List Msg) (s : State) : BlockActs s (raiseAll ms s) := foldl_rel takeMild_acts ms s

theorem tellOwners_acts (ids : List Nat) (s : State) : BlockActs s (tellOwners ids s) := raiseTo_acts ..

/-! ### The hand-over of applied settings and a move of the drive -/

theorem handAngles_acts (s : State) : BlockActs s (handAngles s) :=
  .tail (.single (.convA _ (.angles s.set s.cca))) (.convB _ (.angles s.set s.ccb))

/-- What is done only under a condition is a sequence of acts where what is done is. -/
theorem ite_rel {r : State → State → Prop} {f : State → State} (h : ∀ s, Relation.ReflTransGen r s (f s)) (c : Prop)
    [Decidable c] (s : State) : Relation.ReflTransGen r s (if c then f s else s) := by
  split
  · exact h s
  · exact .refl

/-- The hand-over of STOPPED settings, where the envelope formed again and the thermal settings are acts. -/
theorem handStopped_rel {r : State → State → Prop} (hb : ∀ s t, BlockAct s t → r s t) {drive old : Drive}
    (hr : ∀ s : State, s.dsq.drive = old → r s { s with stu := stuReform s.set s.vwa.level drive s.stu })
    (ht : ∀ s : State, r s { s with stu := (stuThermalApply s.set s.stu).1 }) (ids : List Nat) (s : State)
    (hd : s.dsq.drive = old) : Relation.ReflTransGen r s (handStopped drive ids s) := by
  have hthermal : ∀ s, Relation.ReflTransGen r s (handThermal s) := fun s =>
    .head (ht s) (foldl_rel (fun s m => acts_mono hb (takeMild_acts s m)) _ _)
  have hangles : ∀ s, Relation.ReflTransGen r s (handAngles s) := fun s =>
    acts_mono hb (handAngles_acts s)
  have henvelope : ∀ (c : Prop) [Decidable c] (u : State), u.dsq.drive = old → Relation.ReflTransGen r u
      (if c then { u with stu := stuReform u.set u.vwa.level drive u.stu } else u) := fun c _ u hu => by
    split
    · exact .single (hr u hu)
    · exact .refl
  unfold handStopped
  exact ((ite_rel hangles _ s).trans (henvelope _ _ (by split <;> exact hd))).trans (ite_rel hthermal _ _)

theorem handStopped_acts (ids : List Nat) (s : State) : Acts s (handStopped s.dsq.drive ids s) :=
  handStopped_rel (fun _ _ => .block) (fun u hu => .stu _ (hu ▸ .reform u.vwa.level)) (fun _ => .stu _ .thermal) ids s rfl

theorem handStopped_partActs (drive : Drive) (ids : List Nat) (s : State) : PartActs s (handStopped drive ids s) :=
  handStopped_rel (fun _ _ => .block) (fun _ _ => .stu _) (fun _ => .stu _) ids s rfl

theorem setEntry_partActs (stuDrive new : Drive) (s : State) : PartActs s (setEntry stuDrive new s) := by
  unfold setEntry
  split
  · refine .trans ?_ (handStopped_partActs _ _ _)
    refine .trans ?_ (tellOwners_acts _ _).partActs
    exact .tail (.single (.block (.set _ (.apply atEntry)))) (.block (.set _ (.note new s.set.periodTaken)))
  · exact .single (.block (.set _ (.note new s.set.periodTaken)))

theorem driveTold_partActs (old : Dsq) (s : State) : PartActs s (driveTold old s) := by
  refine .trans ?_ (raiseTo_acts _ _ _).partActs
  have h := Relation.ReflTransGen.single (PartAct.enable (s := s) old.enable s.dsq.enable s.msy.sync)
  refine (((h.tail (.stu _)).tail (.block (.pru { s.pru with driveView := s.dsq.drive } ?_))).tail
    (.block (.rcu _ (.told s.dsq.drive))))
  exact ⟨rfl, rfl, rfl, rfl, rfl, rfl⟩

/-- A move of the drive, part by part. -/
theorem moveDrive_partActs (o : Sched) (d : Dsq) (s : State) : PartActs s (moveDrive o d s) := by
  have hd : PartActs s { s with dsq := d } := .single (.dsq d)
  unfold moveDrive
  split
  · exact hd
  split
  · exact (hd.trans (setEntry_partActs ..)).trans (driveTold_partActs ..)
  · exact (hd.trans (driveTold_partActs ..)).trans (setEntry_partActs ..)

/-- An act of the part, part by part. -/
theorem Act.partActs {s t : State} (h : Act s t) : PartActs s t := by
  cases h with
  | block h => exact .single (.block h)
  | stu u h => exact .single (.stu u)
  | move o d h => exact moveDrive_partActs o d s

theorem Acts.partActs {s t : State} (h : Acts s t) : PartActs s t := by
  induction h with
  | refl => exact .refl
  | tail _ hbc ih => exact ih.trans hbc.partActs

/-! ### Reports and messages -/

theorem move_acts (o : Sched) {d : Dsq} {s : State} (h : DsqAct s.dsq d) : Acts s (moveDrive o d s) :=
  .single (.move o d h)

theorem openEpisode_acts (k : Cause) (c : Class) (s : State) (h : s.pru.active = false) :
    BlockActs s (openEpisode k c s) := by
  refine .trans ?_ (raiseTo_acts ..)
  refine .trans ?_ (raiseAll_acts ..)
  exact .tail (.single (.rcu _ (.trigger k c s.pru.driveView))) (.opened k c _ h)

theorem classRise_acts (c : Class) (b : Bool) (s : State) : BlockActs s (classRise c b s).1 := by
  unfold classRise
  split
  · exact raiseTo_acts ..
  · exact .refl

theorem latchReport_acts (k : Cause) (n : Period) (c : Class) (s : State) (h : s.pru.active = true) :
    BlockActs s (latchReport k n c s).1 := by
  unfold latchReport
  split
  · exact .refl
  · exact .trans (.single (.latched k c h (by simp [*]))) (classRise_acts ..)
  · exact .trans (.tail (.single (.latched k c h (by simp [*]))) (.rcu _ (.sub k n))) (classRise_acts ..)

theorem takeCause_acts (k : Cause) (n : Period) (c : Class) (s : State) : BlockActs s (takeCause k n c s).1 := by
  unfold takeCause
  split
  · exact latchReport_acts _ _ _ _ ‹_›
  · exact openEpisode_acts _ _ _ (Bool.eq_false_iff.mpr ‹_›)

theorem judge_acts (k : Cause) (n : Period) (s : State) : BlockActs s (judge k n s).1 := by
  unfold judge
  split
  · exact takeWarning_acts ..
  all_goals exact takeCause_acts ..

theorem demand_acts (o : Sched) (c : Class) (s : State) : Acts s (demand o c s) := move_acts o (.demand c)

theorem takeReport_acts (o : Sched) (k : Cause) (n : Period) (s : State) : Acts s (takeReport o k n s) := by
  unfold takeReport
  split
  · exact (judge_acts ..).acts
  · exact (judge_acts ..).acts.trans (demand_acts ..)

theorem takeMsg_acts (o : Sched) (s : State) (m : Msg) : Acts s (takeMsg o s m) := by
  cases m with
  | cond k b => exact (takeCond_acts k b s).acts
  | report k n => exact takeReport_acts o k n s
  | notice k st => exact (raise_acts k st s).acts
  | capture x c => exact (takeCapture_acts x c s).acts

theorem deliver_acts (o : Sched) (ms : List Msg) (s : State) : Acts s (deliver o ms s) := foldl_rel (takeMsg_acts o) _ s

/-- A block's work is a sequence of acts, and so is what its messages bring about. -/
theorem posted_acts (o : Sched) {r : State × List Msg} {s : State} (h : Acts s r.1) : Acts s (posted o r) :=
  h.trans (deliver_acts ..)

/-! ### A moment at which several blocks act -/

theorem Flow.foldl_acts {α : Type} {f : Flow → α → Flow} (h : ∀ g a, Acts g.state (f g a).state) (l : List α)
    (g : Flow) : Acts g.state (l.foldl f g).state := by
  induction l generalizing g with
  | nil => exact .refl
  | cons a l ih => exact (h g a).trans (ih (f g a))

theorem Flow.send_acts (o : Sched) (later : List Taking) (c : Class) (f : Flow) :
    Acts f.state (Flow.send o later c f).state := by
  unfold Flow.send
  split
  · exact .refl
  · exact demand_acts ..

theorem Flow.report_acts (o : Sched) (later : List Taking) (k : Cause) (n : Period) (f : Flow) :
    Acts f.state (Flow.report o later k n f).state := by
  have h := (judge_acts k n f.state).acts
  unfold Flow.report
  split
  · exact h
  · exact h.trans (Flow.send_acts o later _ { f with state := (judge k n f.state).1 })

theorem Flow.take_acts (o : Sched) (later : List Taking) (f : Flow) (m : Msg) :
    Acts f.state (Flow.take o later f m).state := by
  cases m with
  | report k n => exact Flow.report_acts ..
  | cond k b => exact (takeCond_acts k b f.state).acts
  | notice k st => exact (raise_acts k st f.state).acts
  | capture x c => exact (takeCapture_acts x c f.state).acts

theorem Flow.arrive_acts (o : Sched) (later : List Taking) (f : Flow) (m : Msg) :
    Acts f.state (Flow.arrive o later f m).state := by
  unfold Flow.arrive
  split
  · exact .refl
  · exact Flow.take_acts ..

theorem Flow.perform_acts (o : Sched) (later : List Taking) {r : State × List Msg} {f : Flow}
    (h : Acts f.state r.1) : Acts f.state (Flow.perform o later r f).state :=
  h.trans (Flow.foldl_acts (Flow.take_acts o later) _ { f with state := r.1 })

theorem Flow.post_acts (o : Sched) (later : List Taking) {r : State × List Msg} {f : Flow}
    (h : Acts f.state r.1) : Acts f.state (Flow.post o later r f).state :=
  h.trans (Flow.foldl_acts (Flow.arrive_acts o later) _ { f with state := r.1 })

theorem Flow.open_acts (o : Sched) (later : List Taking) (f : Flow) (m : Mail) :
    Acts f.state (Flow.open o later f m).state := by
  cases m with
  | msg m => exact Flow.take_acts ..
  | demand c => exact Flow.send_acts ..

theorem Flow.collect_acts (o : Sched) (later : List Taking) (due : Mail → Bool) (f : Flow) :
    Acts f.state (Flow.collect o later due f).state :=
  Flow.foldl_acts (Flow.open_acts o later) _ { f with mail := f.mail.filter (fun m => !due m) }

theorem eachChan_acts (o : Sched) (later : List Taking) {work : Chan → State → State × List Msg}
    (h : ∀ n s, Acts s (work n s).1) (f : Flow) : Acts f.state (eachChan o later work f).state :=
  Flow.foldl_acts (fun g n => Flow.post_acts o later (h n g.state)) _ f

/-! ### The channels of the vibration watch keep their bins -/

theorem BinsKept.refl (c : VChan) : BinsKept c c := ⟨id⟩

theorem chanBinsRight_eq (c : VChan) :
    chanBinsRight c = true ↔ c.table.length = 64 ∧ c.acc.sums.length = 64 ∧ c.acc.counts.length = 64 := by
  simp [chanBinsRight, and_assoc]

/-- A channel with the bins of another, or with cleared ones. -/
theorem BinsKept.of_eq {c d : VChan} (ht : d.table = c.table ∨ d.table = tableClear)
    (ha : d.acc = c.acc ∨ d.acc = revAccClear) : BinsKept c d := by
  refine ⟨fun h => ?_⟩
  simp only [chanBinsRight_eq] at h ⊢
  rcases ht with ht | ht <;> rcases ha with ha | ha <;> simp [ht, ha, h, tableClear, revAccClear]

theorem BinsKept.trans {c d e : VChan} (h : BinsKept c d) (k : BinsKept d e) : BinsKept c e := ⟨fun hc => k.kept (h.kept hc)⟩

theorem speedTest_bins (low : Nat) (p : Profile) (speed : Nat) (t : Tick) (c : VChan) :
    BinsKept c (speedTest low p speed t c) := by
  unfold speedTest
  split
  · exact .refl c
  · split
    · exact .refl c
    · exact .of_eq (.inl rfl) (.inl rfl)
  all_goals
    split
    · exact .of_eq (.inl rfl) (.inr rfl)
    · exact .refl c

theorem startTiming_bins (t : Tick) (c : VChan) : BinsKept c (startTiming t c) := .of_eq (.inl rfl) (.inr rfl)

theorem gradeStep_bins (p : Profile) (c : VChan) : BinsKept c (gradeStep p c) := by
  unfold gradeStep
  split
  · split <;> exact .of_eq (.inl rfl) (.inl rfl)
  · exact .of_eq (.inl rfl) (.inl rfl)

theorem completeRevolution_bins (p : Profile) (c : VChan) : BinsKept c (completeRevolution p c) := by
  refine .trans ⟨fun h => ?_⟩ (gradeStep_bins p _)
  rw [chanBinsRight_eq] at h ⊢
  simp [tableUpdate, h, revAccClear]

theorem markerCompletes_bins (p : Profile) (t last : Tick) (c : VChan) : BinsKept c (markerCompletes p t last c) := by
  unfold markerCompletes
  split
  · exact ⟨fun h => (completeRevolution_bins p _).kept h⟩
  all_goals exact .of_eq (.inl rfl) (.inl rfl)

theorem takeMarker_bins (p : Profile) (t : Tick) (c : VChan) : BinsKept c (takeMarker p t c).1 := by
  have hev : BinsKept c (markerEvaluating p t c).1 := by
    unfold markerEvaluating
    split
    · exact startTiming_bins t c
    · exact startTiming_bins t c
    · split
      · exact .refl c
      · exact markerCompletes_bins ..
  unfold takeMarker
  split
  · exact .refl c
  · exact .refl c
  · exact .trans (startTiming_bins t c) (.of_eq (.inl rfl) (.inl rfl))
  all_goals exact hev

theorem takeDeadline_bins (c : VChan) : BinsKept c (takeDeadline c) := by
  unfold takeDeadline
  split
  · exact .of_eq (.inl rfl) (.inr rfl)
  · exact .refl c

theorem clearChannel_bins (b : Bool) (t : Tick) (c : VChan) : BinsKept c (clearChannel b t c) := by
  unfold clearChannel
  split <;> exact .of_eq (.inr rfl) (.inr rfl)

theorem sensorFaultClear_bins (low speed : Nat) (t : Tick) (c : VChan) : BinsKept c (sensorFaultClear low speed t c) := by
  unfold sensorFaultClear
  split
  · exact .trans (clearChannel_bins false t c) (.of_eq (.inl rfl) (.inl rfl))
  · exact .trans (clearChannel_bins false t c) (.of_eq (.inl rfl) (.inl rfl))

theorem takeProfile_bins (old new : Profile) (t : Tick) (c : VChan) : BinsKept c (takeProfile old new t c) := by
  unfold takeProfile
  split
  · exact clearChannel_bins ..
  · exact .refl c

theorem takeScan_bins (x : Int) (t : Tick) (c : VChan) : BinsKept c (takeScan x t c) := by
  unfold takeScan
  split
  · split
    · refine ⟨fun h => ?_⟩
      rw [chanBinsRight_eq] at h ⊢
      simp [accAdd, h]
    · exact .refl c
  · exact .refl c

theorem chanPut_acts {n : Chan} {c : VChan} {s : State} (h : BinsKept (s.vwa.chans.get n) c) :
    BlockActs s (chanPut n c s).1 := .single (.chan _ n c h)

theorem putChan_acts (o : Sched) {n : Chan} {c : VChan} {s : State} (h : BinsKept (s.vwa.chans.get n) c) :
    Acts s (putChan o n c s) := posted_acts o (chanPut_acts h).acts

theorem chanStaged_acts (n : Chan) (s : State) : BlockActs s (chanStaged n s).1 := by
  unfold chanStaged
  split
  · exact .refl
  · refine .trans ?_ (chanPut_acts (takeProfile_bins ..))
    exact .head (.set _ (.profile n _ ‹_›)) (tellOwners_acts ..)

/-! ### The work of a period event and of an origin -/

theorem chanSpeeds_acts (n : Chan) (s : State) : BlockActs s (chanSpeeds n s).1 :=
  (chanPut_acts (speedTest_bins ..)).tail (.noted _ _)

theorem chanAction_acts (ids : List Nat) (n : Chan) (s : State) : BlockActs s (chanAction ids n s).1 := by
  unfold chanAction
  split
  · exact chanPut_acts (.refl _)
  · exact .refl

theorem chanPeriod_acts (woken : Quad (Option SetValue)) (n : Chan) (s : State) :
    BlockActs s (chanPeriod woken n s).1 := by
  unfold chanPeriod
  split
  · exact chanStaged_acts ..
  · exact .refl

theorem stallClass_acts (n : Period) (s : State) : BlockActs s (stallClass n s).1 := by
  unfold stallClass
  split
  · exact .single (.pru _ ⟨rfl, rfl, rfl, rfl, rfl, rfl⟩)
  · exact .refl

theorem handPeriod_acts (o : Sched) (n : Period) (ids : List Nat) (later : List Taking) (f : Flow) :
    Acts f.state (handPeriod o n ids later f).state := by
  have h := (handStopped_acts ids f.state).trans (eachChan_acts o later (fun n s => (chanAction_acts ids n s).acts)
    { f with state := handStopped f.state.dsq.drive ids f.state })
  unfold handPeriod
  dsimp only
  split
  · exact h.trans (Flow.perform_acts o later (stallClass_acts ..).acts)
  · exact h

theorem workStu_acts (o : Sched) (n : Period) (t : Tick) (later : List Taking) (f : Flow) :
    Acts f.state (workStu o n t later f).state := by
  refine .trans ?_ (eachChan_acts o later (fun n s => (chanSpeeds_acts n s).acts) _)
  exact Flow.post_acts o later (.single (.stu _ (.period (f.state.stuView n t) rfl)))

theorem workVwa_acts (o : Sched) (n : Period) (later : List Taking) (f : Flow) :
    Acts f.state (workVwa o n later f).state :=
  .trans (.single (.block (.noted noneWoken n)))
    (eachChan_acts o later (fun m s => (chanPeriod_acts f.state.vwa.woken m s).acts) { f with state := _ })

theorem workDsq_acts (o : Sched) (n : Period) (s : State) : Acts s (workDsq o n s).1 :=
  move_acts o (.work s.set (s.dsqView n))

theorem lossOf_acts (s : State) : BlockActs s (lossOf s).1 := by
  unfold lossOf
  split
  · exact .single (.pru _ ⟨rfl, rfl, rfl, rfl, rfl, rfl⟩)
  · exact .refl

theorem pruCount_episode (p : Pru) : SameEpisode p (pruCount p) := by
  unfold pruCount
  split
  · exact ⟨rfl, rfl, rfl, rfl, rfl, rfl⟩
  · exact .refl p

theorem workPru_acts (n : Period) (s : State) : BlockActs s (workPru n s).1 := by
  unfold workPru
  split
  · exact .head (.pru { pruAbsent s.pru with periodTaken := n } ⟨rfl, rfl, rfl, rfl, rfl, rfl⟩) (lossOf_acts _)
  · have h := pruCount_episode s.pru
    exact .single (.pru _ ⟨h.active, h.cls, h.firstOut, h.latched, h.record, h.trip⟩)

theorem workSet_acts (o : Sched) (n : Period) (later : List Taking) (f : Flow) :
    Acts f.state (workSet o n later f).state := by
  refine .trans (BlockActs.acts ?_) (handPeriod_acts ..)
  refine .trans ?_ (tellOwners_acts ..)
  exact .tail (.single (.set _ (.apply (atPeriod f.state.set.driveView)))) (.set _ (.note f.state.set.driveView n))

theorem workRcu_acts (n : Period) (s : State) : BlockActs s (workRcu n s) :=
  .head (.rcu _ (.period (s.entry n))) (raiseAll_acts ..)

/-- The acts that change the timebase, the synchroniser, the measurement unit or the note of an edge alone. -/
theorem base_acts (s : State) (t : Tick) (m : Msy) (u : Meu) (x : Option EdgeIssue) :
    BlockActs s { s with now := t, msy := m, meu := u, issued := x } := .single (.base t m u x)

theorem periodWork_acts (o : Sched) (n : Period) (t : Tick) (b : Block) (later : List Taking) (f : Flow) :
    Acts f.state (periodWork o n t b later f).state := by
  cases b with
  | meu => exact (base_acts f.state _ _ (meuPeriod n f.state.meu) _).acts
  | stu => exact workStu_acts ..
  | vwa => exact workVwa_acts ..
  | dsq => exact Flow.post_acts o later (workDsq_acts ..)
  | pru => exact Flow.perform_acts o later (workPru_acts ..).acts
  | set => exact workSet_acts ..
  | rcu => exact (workRcu_acts ..).acts

theorem putConv_acts {x : Side} {c : Conv} {s : State} (h : ConvAct (s.conv x) c) : BlockActs s (s.putConv x c) := by
  cases x with
  | a => exact .single (.convA c h)
  | b => exact .single (.convB c h)

theorem takeOrigin_acts (g : Origin) (k : OriginTaker) (s : State) : BlockActs s (takeOrigin g k s).1 := by
  cases k with
  | meu => exact base_acts s _ _ _ _
  | cca => exact putConv_acts (x := .a) (.origin ..)
  | ccb => exact putConv_acts (x := .b) (.origin ..)

theorem Flow.issue_acts (n : Period) (t : Tick) (f : Flow) : Acts f.state (Flow.issue n t f).state := by
  unfold Flow.issue
  split
  · exact .refl
  · exact (base_acts f.state _ _ _ _).acts

theorem takePeriod_acts (o : Sched) (n : Period) (t : Tick) (b : Block) (later : List Taking) (f : Flow) :
    Acts f.state (takePeriod o n t b later f).state := by
  unfold takePeriod
  split
  · exact .refl
  · exact periodWork_acts ..

theorem takeOne_acts (o : Sched) (n : Period) (t : Tick) (g : Option Origin) (k : Taking) (later : List Taking)
    (f : Flow) : Acts f.state (takeOne o n t g k later f).state := by
  cases k with
  | period b => exact (Flow.issue_acts n t f).trans (takePeriod_acts ..)
  | origin r =>
    cases g with
    | none => exact .refl
    | some g => exact Flow.post_acts o later (takeOrigin_acts ..).acts
  | report c => exact Flow.collect_acts ..
  | demand => exact Flow.collect_acts ..

theorem runTakings_acts (o : Sched) (n : Period) (t : Tick) (g : Option Origin) (l : List Taking) (f : Flow) :
    Acts f.state (runTakings o n t g l f).state := by
  induction l generalizing f with
  | nil => exact Flow.collect_acts ..
  | cons k later ih => exact (takeOne_acts o n t g k later f).trans (ih _)

theorem periodEvent_acts (o : Sched) (t : Tick) (s : State) : Acts s (periodEvent o t s) := by
  unfold periodEvent
  split
  · exact runTakings_acts o _ t none _ { state := s, mail := [] }
  · exact (base_acts s _ _ _ _).acts.trans (runTakings_acts o _ t _ _ { state := _, mail := [] })

theorem convTakeLost_acts (o : Sched) (x : Side) (s : State) : Acts s (convTakeLost o x s) :=
  (putConv_acts (.off (s.conv x))).acts.trans (deliver_acts ..)

/-- A condition that does not change has nothing published of it. -/
@[simp] theorem condMsgs_same (k : Cause) (n : Period) (b : Bool) : condMsgs k n b b = [] := by
  cases b <;> rfl

/-- A condition that holds no longer is published, and nothing is reported. -/
theorem condMsgs_false (k : Cause) (n : Period) (b : Bool) :
    condMsgs k n b false = if b then [.cond k false] else [] := by
  cases b <;> rfl

/-- A message that is no report keeps its place by itself. -/
@[simp] theorem orderMsgs_cond (o : Sched) (k : Cause) (b : Bool) : orderMsgs o [.cond k b] = [.cond k b] := by
  have h : ∀ l : List Cause, l.flatMap (fun _ => ([] : List Msg)) = [] := fun l => by simp
  simp [orderMsgs, reportKind, h]

/-- A published condition by itself is taken as it is. -/
@[simp] theorem deliver_cond (o : Sched) (k : Cause) (b : Bool) (s : State) :
    deliver o [.cond k b] s = takeCond k b s := by
  simp [deliver, takeMsg]

/-- What a controller publishes as it enters OFF: CONV_x_FAULT clears where its line is inactive (R63). -/
theorem convMsgs_convOff (x : Side) (c : Conv) :
    convMsgs x c (convOff c) = if c.faultCond && !c.fault then [.cond (.convFault x) false] else [] := by
  cases hf : c.fault <;> cases hc : c.faultCond <;> simp [convMsgs, convOff, hf, hc, condMsgs]

/-- Converter `x` takes sync lost (R43): it enters OFF, and nothing is reported. -/
theorem convTakeLost_eq (o : Sched) (x : Side) (s : State) : convTakeLost o x s =
    if (s.conv x).faultCond && !(s.conv x).fault then takeCond (.convFault x) false (s.putConv x (convOff (s.conv x)))
    else s.putConv x (convOff (s.conv x)) := by
  rw [convTakeLost, convMsgs_convOff]
  split <;> simp

theorem convTakeLost_dsq (o : Sched) (x : Side) (s : State) : (convTakeLost o x s).dsq = s.dsq := by
  rw [convTakeLost_eq]
  split <;> simp

theorem takeSync_acts (o : Sched) (s : State) (e : SyncEvent) : Acts s (takeSync o s e) := by
  cases e with
  | locked => exact ((takeCond_acts ..).acts.trans (move_acts o (.locked s.set s.stu.s))).trans (deliver_acts ..)
  | lost =>
    refine ((convTakeLost_acts o .a s).trans (convTakeLost_acts o .b _)).trans (move_acts o ?_)
    rw [convTakeLost_dsq, convTakeLost_dsq]
    exact .lost
  | reversed => exact deliver_acts ..

theorem syncTaken_acts (o : Sched) (r : Msy × List SyncEvent) (s : State) : Acts s (syncTaken o r s) :=
  (base_acts s _ r.1 _ _).acts.trans (foldl_rel (takeSync_acts o) _ _)

/-! ### The requests of the stations -/

/-- A change of the timebase alone. -/
theorem now_acts (s : State) (t : Tick) : BlockActs s { s with now := t } := base_acts s t _ _ _

theorem putLink_acts {k : Station} {l : Link} {s : State} (hn : l.notices = (s.links.get k).notices)
    (ha : l.attention = (s.links.get k).attention) : BlockActs s { s with links := s.links.put k l } := by
  refine .single (.links _ fun j => ?_)
  by_cases hj : j = k
  · subst hj; simp [hn, ha]
  · simp [Triple.get_put_ne _ _ hj]

theorem answered_acts {s t : State} {w : Answer} (h : w = .ok → Acts s t) : Acts s (answered s t w).state := by
  cases w with
  | ok => exact h rfl
  | refused r => exact .refl

/-- Where START is accepted, the drive is BLOCKED and the contactor free (R121). -/
theorem startTest_ok {v : StartView} {d : Dsq} (h : startTest v d = .ok) :
    d.drive = .blocked ∧ contactorFree d = true := by
  unfold startTest at h
  split at h
  · cases h
  · rename_i hd
    split at h
    · cases h
    · rename_i hf; exact ⟨by simpa using hd, by simpa using hf⟩

/-- Where TO AUX is accepted, the drive is BLOCKED, the contactor free and the kiln still (R132). -/
theorem toAuxTest_ok {n : Nat} {d : Dsq} (h : toAuxTest n d = .ok) :
    d.drive = .blocked ∧ contactorFree d = true ∧ n = 0 := by
  unfold toAuxTest at h
  split at h
  · cases h
  · rename_i hd
    split at h
    · cases h
    · rename_i hf
      split at h
      · cases h
      · rename_i hn; exact ⟨by simpa using hd, by simpa using hf, by simpa using hn⟩

theorem fromAuxTest_ok {d : Dsq} (h : fromAuxTest d = .ok) : d.drive = .aux := by
  unfold fromAuxTest at h
  split at h
  · assumption
  · cases h

theorem reqPutSetting_acts (st : Station) (id : Nat) (bs : List Byte) (s : State) :
    BlockActs s (reqPutSetting st id bs s).state := by
  unfold reqPutSetting
  split
  · exact .refl
  · exact .refl
  · rename_i b v h
    have hs : BlockActs s { s with set := stageValue id v s.set } := .single (.set _ (.stage st id bs b v h))
    dsimp only [staging]
    split
    · exact hs
    · exact hs.tail (.noted _ _)

theorem reqOpenRecord_acts (st : Station) (n : Nat) (s : State) : BlockActs s (reqOpenRecord st n s).state := by
  unfold reqOpenRecord
  split
  · exact .refl
  · split
    · exact .refl
    · exact .single (.rcu _ (.cursors _))

theorem reqNextChunk_acts (st : Station) (s : State) : BlockActs s (reqNextChunk st s).state := by
  unfold reqNextChunk
  split <;> exact .single (.rcu _ (.next st))

theorem reqCapture_acts (st : Station) (s : State) : BlockActs s (reqCapture st s).state := by
  unfold reqCapture
  split
  · exact .refl
  · exact .trans (.single (.rcu _ (.take st ‹_›))) (raiseAll_acts ..)

theorem reqPermit_acts (s : State) : BlockActs s (reqPermit s).state := by
  have h : BlockActs s { s with pru := pruPermit s.set.permitWindow s.pru } :=
    .single (.pru _ ⟨rfl, rfl, rfl, rfl, rfl, rfl⟩)
  dsimp only [reqPermit, plain]
  split
  · exact h.trans (takeCond_acts ..)
  · exact h

theorem reqWithdraw_acts (o : Sched) (s : State) : Acts s (reqWithdraw o s).state := by
  dsimp only [reqWithdraw, plain]
  split
  · have h : BlockActs s { s with pru := pruAbsent s.pru } := .single (.pru _ ⟨rfl, rfl, rfl, rfl, rfl, rfl⟩)
    exact posted_acts o (BlockActs.acts (h.trans (lossOf_acts _)))
  · exact .refl

/-- A condition of the protection unit's own, and a report at once (R153, R154). -/
theorem condReport_acts (o : Sched) (k : Cause) (b : Bool) (n : Period) (s : State) {p : Pru}
    (h : SameEpisode s.pru p) :
    Acts s (takeReport o k n { s with pru := pruCond k b p }) := by
  have hp : BlockActs s { s with pru := p } := .single (.pru p h)
  exact (BlockActs.acts (hp.tail (.pru _ (pruCond_episode k b p)))).trans (takeReport_acts ..)

theorem reqTrip_acts (o : Sched) (s : State) : Acts s (reqTrip o s).state := by
  have h : ∀ u : State, BlockActs u { u with pru := pruCond .stationTrip false { u.pru with stationCond := false } } :=
    fun u => .tail (.single (.pru { u.pru with stationCond := false } ⟨rfl, rfl, rfl, rfl, rfl, rfl⟩))
      (.pru _ (pruCond_episode ..))
  exact (condReport_acts o .stationTrip true _ s (p := { s.pru with stationCond := true })
    ⟨rfl, rfl, rfl, rfl, rfl, rfl⟩).trans (h _).acts

theorem episodeEnds_acts (o : Sched) (s : State) : Acts s (episodeEnds o s) := by
  refine .trans ?_ (raiseTo_acts ..).acts
  have h : BlockActs s { s with pru := pruReset s.pru, rcu := rcuUnpin s.rcu } :=
    .tail (.single .ended) (.rcu _ .unpin)
  exact h.acts.trans (move_acts o .ended)

theorem reqResetTrip_acts (o : Sched) (s : State) : Acts s (reqResetTrip o s).state := by
  unfold reqResetTrip
  split
  · exact episodeEnds_acts ..
  · exact .refl
  · exact .refl

theorem reqClearTable_acts (o : Sched) (n : Nat) (s : State) : Acts s (reqClearTable o n s).state := by
  unfold reqClearTable
  split
  · exact .refl
  · exact putChan_acts o (clearChannel_bins ..)

theorem handRequest_acts (st : Station) (k : ReqKind) (payload : List Byte) (o : Sched) (s : State) :
    Acts s (handRequest st k payload o s).state := by
  cases k with
  | status => exact .refl
  | notices => exact .single (.block (.link _ _ rfl))
  | getSetting => dsimp only [handRequest, reqGetSetting]; split <;> exact .refl
  | putSetting => exact (reqPutSetting_acts ..).acts
  | listRecords => exact .refl
  | openRecord => exact (reqOpenRecord_acts ..).acts
  | nextChunk => exact (reqNextChunk_acts ..).acts
  | channel => dsimp only [handRequest, reqChannel]; split <;> exact .refl
  | table => dsimp only [handRequest, reqTable]; split <;> [exact .refl; (split <;> exact .refl)]
  | capture => exact (reqCapture_acts ..).acts
  | speedRef => exact .head (.stu _ (.speedRef _)) (deliver_acts ..)
  | start => exact answered_acts fun h => move_acts o (.start (startTest_ok h).1 (startTest_ok h).2)
  | stop => exact answered_acts fun _ => move_acts o .stop
  | toAux => exact answered_acts fun h => move_acts o (.toAux (toAuxTest_ok h).1 (toAuxTest_ok h).2.1)
  | fromAux => exact answered_acts fun h => move_acts o (.fromAux _ (fromAuxTest_ok h))
  | permit => exact (reqPermit_acts ..).acts
  | withdraw => exact reqWithdraw_acts ..
  | trip => exact reqTrip_acts ..
  | resetTrip => exact reqResetTrip_acts ..
  | clearTable => exact reqClearTable_acts ..

theorem actRequest_acts (st : Station) (r : Request) (o : Sched) (s : State) : Acts s (actRequest st r o s).state := by
  unfold actRequest
  split
  · exact .refl
  · split
    · exact .refl
    · split
      · exact .refl
      · exact handRequest_acts ..

theorem takeRequest_acts (st : Station) (r : Request) (o : Sched) (s : State) : Acts s (takeRequest st r o s) :=
  by
  refine (actRequest_acts st r o s).trans (BlockActs.acts (putLink_acts ?_ ?_)) <;> rfl

theorem completeRequest_acts (st : Station) (r : Request) (o : Sched) (s : State) :
    Acts s (completeRequest st r o s) := by
  unfold completeRequest
  split
  · exact takeRequest_acts ..
  · refine BlockActs.acts (putLink_acts ?_ ?_) <;> rfl
  · exact .refl

theorem requestArrives_acts (st : Station) (k : ReqKind) (g : Byte) (payload : List Byte) (t : Tick) (o : Sched)
    (s : State) : Acts s (requestArrives st k g payload t o s) :=
  (now_acts s t).acts.trans (completeRequest_acts ..)

theorem replySentAt_acts (st : Station) (o : Sched) (s : State) : Acts s (replySentAt st o s) := by
  unfold replySentAt
  split
  · refine BlockActs.acts (putLink_acts ?_ ?_) <;> rfl
  · refine Relation.ReflTransGen.trans (BlockActs.acts (putLink_acts ?_ ?_)) (takeRequest_acts ..) <;> rfl

/-! ### The commands -/

theorem issueFiring_acts {x : Side} {f : Firing} {s : State} (h : (s.conv x).firings ≠ []) :
    Acts s (issueFiring x f s) := by
  refine .trans ?_ (raiseAll_acts ..).acts
  refine BlockActs.acts ((now_acts s f.stamp).trans (putConv_acts ?_))
  cases x <;> exact .issue _ _ _ h

theorem crossingTaken_acts (l : ZLine) (c : Candidate) (o : Sched) (s : State) : Acts s (crossingTaken l c o s) :=
  (now_acts s _).acts.trans (syncTaken_acts ..)

theorem windowCloses_acts (w : Prediction) (o : Sched) (s : State) : Acts s (windowCloses w o s) :=
  (now_acts s _).acts.trans (syncTaken_acts ..)

theorem periodFalls_acts (t : Tick) (m : Msy) (s : State) : BlockActs s (periodFalls t m s) := by
  refine .tail (base_acts s t m _ none) (.links (linksAt s.rate t s.links) fun k => ?_)
  simp

theorem takeAhead_acts (b : Block) (o : Sched) (due : Period → Tick → Bool) (s : State) :
    Acts s (takeAhead b o due s) := by
  unfold takeAhead
  split
  · exact .refl
  · split
    · exact (base_acts s _ _ _ _).acts.trans (periodWork_acts o _ _ b [] { state := _, mail := [] })
    · exact .refl

theorem sampleTaken_acts (v : RawSet) (o : Sched) (g : Interval) (t : Tick) (s : State) :
    Acts s (sampleTaken v o g t s) := (base_acts s _ _ _ _).acts.trans (deliver_acts ..)

theorem scanOne_acts (v : RawSet) (o : Sched) (s : State) (n : Chan) : Acts s (scanOne v o s n) := by
  refine .trans (b := handScan n (scanValue (rawOf v n) (s.meu.chans.get n))
    { s with meu := { s.meu with chans := s.meu.chans.put n (chanScan s.set (rawOf v n) (s.meu.chans.get n)) } }) ?_ ?_
  · exact BlockActs.acts ((base_acts s _ _ _ _).tail (.scan _ _ _))
  · unfold scanOne flagChange
    dsimp only
    split
    · exact .refl
    · split
      · exact putChan_acts o (.of_eq (.inl rfl) (.inr rfl))
      · exact putChan_acts o (sensorFaultClear_bins ..)

theorem scanTaken_acts (v : RawSet) (o : Sched) (s : State) : Acts s (scanTaken v o s) :=
  (base_acts s _ _ _ _).acts.trans (foldl_rel (scanOne_acts v o) _ _)

theorem toothTaken_acts (x : Side) (t : Tick) (o : Sched) (s : State) : Acts s (toothTaken x t o s) :=
  ((base_acts s _ _ (meuTooth x t s.meu) _).acts.tail (.stu _ (.tooth x))).trans (deliver_acts ..)

theorem chanMarker_acts (k : Marker) (t : Tick) (o : Sched) (s : State) (n : Chan) : Acts s (chanMarker k t o s n) := by
  have h := putChan_acts o (takeMarker_bins (s.set.profile n) t (s.vwa.chans.get n))
  unfold chanMarker
  split
  · dsimp only
    split
    · exact h.trans (posted_acts o (chanStaged_acts ..).acts)
    · exact h
  · exact .refl

theorem pulseRises_acts (l : PulseLine) (t : Tick) (o : Sched) (s : State) : Acts s (pulseRises l t o s) := by
  cases l with
  | pa => exact toothTaken_acts ..
  | pb => exact toothTaken_acts ..
  | ka => exact foldl_rel (chanMarker_acts _ _ _) _ _
  | kb => exact foldl_rel (chanMarker_acts _ _ _) _ _
  | ks => exact foldl_rel (chanMarker_acts _ _ _) _ _

theorem pulseTaken_acts (l : PulseLine) (c : Candidate) (o : Sched) (s : State) : Acts s (pulseTaken l c o s) := by
  unfold pulseTaken
  split
  · exact (base_acts s _ _ _ _).acts.trans (pulseRises_acts ..)
  · exact (base_acts s _ _ _ _).acts

theorem extChange_acts (b : Bool) (o : Sched) (s : State) : Acts s (extChange b o s) := by
  unfold extChange
  split
  · exact condReport_acts o .extTrip true _ s ⟨rfl, rfl, rfl, rfl, rfl, rfl⟩
  · have h : BlockActs s { s with pru := { s.pru with extCond := false } } :=
      .single (.pru _ ⟨rfl, rfl, rfl, rfl, rfl, rfl⟩)
    exact BlockActs.acts (h.tail (.pru _ (pruCond_episode ..)))

theorem extTaken_acts (c : Candidate) (o : Sched) (s : State) : Acts s (extTaken c o s) := by
  have h : BlockActs s { s with now := plus c.stamp extPersist, pru := { s.pru with ext := qualTake c } } :=
    .tail (now_acts s (plus c.stamp extPersist))
      (.pru { s.pru with ext := qualTake c } ⟨rfl, rfl, rfl, rfl, rfl, rfl⟩)
  exact h.acts.trans (extChange_acts ..)

theorem extAtRelease_acts (o : Sched) (s : State) : Acts s (extAtRelease o s) := by
  unfold extAtRelease
  split
  · exact condReport_acts o .extTrip true _ s ⟨rfl, rfl, rfl, rfl, rfl, rfl⟩
  · exact .refl

/-- A byte leaves a link's notices and its attention line (R193). -/
theorem linkByte_notices (v : Byte) (t : Tick) (l : Link) :
    (linkByte v t l).1.notices = l.notices ∧ (linkByte v t l).1.attention = l.attention := by
  unfold linkByte
  split <;> [split; split; split; skip; skip] <;> exact ⟨rfl, rfl⟩

theorem linkAtByte_notices (t : Tick) (l : Link) :
    (linkAtByte t l).notices = l.notices ∧ (linkAtByte t l).attention = l.attention := by
  unfold linkAtByte linkCaughtUp
  split <;> exact ⟨rfl, rfl⟩

theorem takeByte_acts (k : Station) (v : Byte) (t : Tick) (o : Sched) (s : State) : Acts s (takeByte k v t o s) := by
  have hb := linkByte_notices v t (linkAtByte t (s.links.get k))
  have ha := linkAtByte_notices t (s.links.get k)
  have hp : ∀ l r, linkByte v t (linkAtByte t (s.links.get k)) = (l, r) → Acts s ({ s with now := t }.putLink k l) := by
    intro l r h
    rw [h] at hb
    exact BlockActs.acts (.trans (now_acts s t) (putLink_acts (hb.1.trans ha.1) (hb.2.trans ha.2)))
  unfold takeByte
  split
  · exact hp _ _ ‹_›
  · exact (hp _ _ ‹_›).trans (completeRequest_acts ..)

/-- Whether a command is a release of the part: power-on, or the reset line's. -/
def isRelease : Instr → Bool
  | .powerOn _ _ _ | .resetLineRelease _ _ _ => true
  | _ => false

/-- What a command that is no release does is a sequence of acts. -/
theorem exec_acts {i : Instr} {s t : State} (hi : isRelease i = false) (h : exec i s = .next t) : Acts s t := by
  have hk : ∀ {u : State}, Acts s u → Host.Outcome.next (φ := Fault) (ρ := Refusal) u = .next t → Acts s t :=
    fun hu he => by cases he; exact hu
  cases i with
  | powerOn t p o => cases hi
  | resetLineRelease t p o => cases hi
  | zeroCrossRawEdge l b t o =>
    refine hk (.trans ?_ (base_acts _ _ _ _ _).acts) h
    unfold crossingCaughtUp
    split <;> [exact .refl; (split <;> [exact crossingTaken_acts ..; exact .refl])]
  | qualifiedCrossing l o => refine hk ?_ h; split <;> [exact .refl; exact crossingTaken_acts ..]
  | lockingTimeout => refine hk ?_ h; split <;> [exact .refl; exact (base_acts s _ _ _ _).acts]
  | windowClose o => refine hk ?_ h; split <;> [exact .refl; exact windowCloses_acts ..]
  | syncLost o =>
    refine hk ?_ h; split <;> [exact .refl; (split <;> [exact windowCloses_acts ..; exact .refl])]
  | referenceEdge o =>
    refine hk ?_ h; split <;> [exact .refl; exact (periodFalls_acts ..).acts.trans (periodEvent_acts ..)]
  | substitutePeriodEvent o =>
    refine hk ?_ h; split <;> [exact .refl; exact (periodFalls_acts ..).acts.trans (periodEvent_acts ..)]
  | holdExpired o => exact hk (takeAhead_acts ..) h
  | speedSensorExcluded x o => exact hk (takeAhead_acts ..) h
  | pinionMismatch o => exact hk (takeAhead_acts ..) h
  | breakawayFailed o => exact hk (takeAhead_acts ..) h
  | stall o => exact hk (takeAhead_acts ..) h
  | recordSealed => exact hk (takeAhead_acts ..) h
  | permitLapse o => exact hk (takeAhead_acts ..) h
  | closeDelayEnd o => exact hk (takeAhead_acts ..) h
  | coastTimeout o => exact hk (takeAhead_acts ..) h
  | contactorRelease o => exact hk (takeAhead_acts ..) h
  | currentNotDecaying o => exact hk (takeAhead_acts ..) h
  | origin o =>
    refine hk ?_ h
    split <;> [exact .refl; exact (base_acts s _ _ _ _).acts.trans (runTakings_acts o _ _ _ _ { state := _, mail := [] })]
  | firingIssue x => refine hk ?_ h; split <;> [exact .refl; exact issueFiring_acts (by simp [*])]
  | burstPhaseEnd x =>
    refine hk ?_ h
    split
    · exact .refl
    · refine BlockActs.acts (.trans (now_acts s _) (putConv_acts ?_))
      cases x <;> exact .phaseEnd _ _ ‹_›
  | escalationDecay x =>
    refine hk ?_ h
    split <;> [exact .refl; (split <;> [exact issueFiring_acts (by simp [*]); exact .refl])]
  | faultArrival x t o =>
    refine hk ?_ h
    refine .trans (Flow.post_acts o _ (f := { state := s, mail := [] }) ?_) (runTakings_acts ..)
    refine BlockActs.acts (.trans (now_acts s _) (putConv_acts ?_))
    cases x <;> exact .arrival ..
  | faultClear x t =>
    refine hk (.trans ?_ (raiseAll_acts ..).acts) h
    refine BlockActs.acts (.trans (now_acts s _) (putConv_acts ?_))
    cases x <;> exact .clear _
  | currentSample v o => refine hk ?_ h; split <;> [exact .refl; exact sampleTaken_acts ..]
  | currentSensor x v o =>
    refine hk ?_ h; split <;> [exact .refl; (split <;> [exact sampleTaken_acts ..; exact .refl])]
  | vibrationScan v o => exact hk (scanTaken_acts ..) h
  | sensorFaultSet n v o => refine hk ?_ h; split <;> [exact scanTaken_acts ..; exact .refl]
  | sensorFaultClear n v o => refine hk ?_ h; split <;> [exact scanTaken_acts ..; exact .refl]
  | pulseRawEdge l b t o =>
    refine hk (.trans ?_ (base_acts _ _ _ _ _).acts) h
    unfold pulseCaughtUp
    split <;> [exact .refl; (split <;> [exact pulseTaken_acts ..; exact .refl])]
  | pulseQualifiedEdge l o => refine hk ?_ h; split <;> [exact .refl; exact pulseTaken_acts ..]
  | markerDeadline n o =>
    refine hk ?_ h
    split
    · exact .refl
    · exact Relation.ReflTransGen.trans (now_acts s _).acts (putChan_acts o (takeDeadline_bins ..))
  | extTripRawEdge b t o =>
    have hr : ∀ u : State, Acts u (rawExt b t u) := fun u =>
      BlockActs.acts ((now_acts u t).tail
        (.pru { u.pru with ext := qualRaw b t u.pru.ext } ⟨rfl, rfl, rfl, rfl, rfl, rfl⟩))
    refine hk (.trans ?_ (hr _)) h
    unfold extCaughtUp
    split <;> [exact .refl; (split <;> [exact extTaken_acts ..; exact .refl])]
  | extTripQualified o => refine hk ?_ h; split <;> [exact .refl; exact extTaken_acts ..]
  | rxByte k v t o => refine hk ?_ h; split <;> [exact takeByte_acts ..; exact .refl]
  | rxFramingError k w t =>
    refine hk ?_ h
    split
    · exact .refl
    · rename_i l hl
      obtain ⟨-, w, -, -, rfl⟩ := linkFraming_eq_some hl
      refine BlockActs.acts (.trans (now_acts s _) (putLink_acts ?_ ?_)) <;> rfl
  | gapTimeout k =>
    refine hk ?_ h
    split
    · exact .refl
    · refine BlockActs.acts (.trans (now_acts s _) (putLink_acts ?_ ?_)) <;> rfl
  | replySent k o => refine hk ?_ h; split <;> [exact .refl; exact (now_acts s _).acts.trans (replySentAt_acts ..)]
  | linkReset k t =>
    refine hk ?_ h
    split
    · exact BlockActs.acts (.tail (.tail (now_acts s _) (.rcu _ (.cursors _))) (.link _ _ rfl))
    · exact .refl
  | putSetting k g id v t o => refine hk ?_ h; split <;> [exact requestArrives_acts ..; exact .refl]
  | _ => exact hk (requestArrives_acts ..) h

/-- What a release does: every block at its values of release, and then the report of EXT_TRIP. -/
theorem exec_release_acts {i : Instr} {s t : State} (hi : isRelease i = true) (h : exec i s = .next t) :
    ∃ (n : Tick) (p : Pins) (u : Rcu), (u = rcuRelease ∨ u = rcuResetLine s.rcu) ∧ Acts (released n p u s) t := by
  cases i with
  | powerOn n p o => cases h; exact ⟨n, p, _, .inl rfl, extAtRelease_acts ..⟩
  | resetLineRelease n p o => cases h; exact ⟨n, p, _, .inr rfl, extAtRelease_acts ..⟩
  | _ => cases hi

/-- A property that does not turn on the timebase or the queue is kept by every step where every act and both releases
keep it. -/
theorem step_keeps {P : State → Prop} (hidle : ∀ s, P s → P (idle s)) (hqueue : ∀ s q, P s → P { s with pending := q })
    (hact : ∀ s t, Act s t → P s → P t)
    (hrelease : ∀ s n p u, (u = rcuRelease ∨ u = rcuResetLine s.rcu) → P s → P (released n p u s))
    {s t : State} (hs : P s) (h : step s = .next t) : P t := by
  unfold step at h
  split at h
  · cases h; exact hidle s hs
  · rename_i i rest _
    cases hi : isRelease i with
    | false => exact kept_of_acts hact (exec_acts hi h) (hqueue s rest hs)
    | true =>
      obtain ⟨n, p, u, hu, ht⟩ := exec_release_acts hi h
      exact kept_of_acts hact ht (hrelease { s with pending := rest } n p u hu (hqueue s rest hs))

/-- As `step_keeps`, for a property that the acts of single blocks keep. -/
theorem step_keeps_of_parts {P : State → Prop} (hidle : ∀ s, P s → P (idle s))
    (hqueue : ∀ s q, P s → P { s with pending := q }) (hpart : ∀ s t, PartAct s t → P s → P t)
    (hrelease : ∀ s n p u, (u = rcuRelease ∨ u = rcuResetLine s.rcu) → P s → P (released n p u s))
    {s t : State} (hs : P s) (h : step s = .next t) : P t :=
  step_keeps hidle hqueue (fun _ _ ha hp => kept_of_acts hpart ha.partActs hp) hrelease hs h

end Sys2Proof.Machine
end

section
/-! The front of the queue, and what the release leaves of the kept properties. -/

namespace Sys2Proof.Machine

/-- Settles O1: both clauses are the two branches of `step`. -/
theorem stepTakesTheFront : Obligations.StepTakesTheFront := ⟨fun _ _ _ => rfl, fun _ => rfl⟩

/-- Settles O60: the release is one state, of which every test is evaluated. -/
theorem resetHasEveryKeptProperty : Obligations.ResetHasEveryKeptProperty := by
  refine ⟨?_, ?_, ?_, ?_, ?_, ?_, ?_, ?_, ?_, ?_, ?_⟩ <;> decide +kernel

end Sys2Proof.Machine
end

section
/-! Every step keeps the settings in range (R182). -/

namespace Sys2Proof.Machine

/-- The settings row by row: 87 of each, and each active and staged value in the range of its row. -/
structure SettingsFit (z : SetTable) : Prop where
  activeLength : z.active.length = 87
  stagedLength : z.staged.length = 87
  active : ∀ {i : Nat} {r : SetSpec} {v : SetValue}, catalogue[i]? = some r → z.active[i]? = some v → valueInRange r.form v = true
  staged : ∀ {i : Nat} {r : SetSpec} {v : SetValue}, catalogue[i]? = some r → z.staged[i]? = some (some v) → valueInRange r.form v = true

theorem catalogue_length : catalogue.length = 87 := rfl

/-- The rows of the table, place by place. -/
theorem setRows_getElem? (z : SetTable) (i : Nat) (r : SetSpec) (v : SetValue) (w : Option SetValue) :
    (setRows z)[i]? = some (r, v, w) ↔ catalogue[i]? = some r ∧ z.active[i]? = some v ∧ z.staged[i]? = some w := by
  simp [setRows, List.getElem?_zip_eq_some]

theorem settingsRight_iff (z : SetTable) : settingsRight z = true ↔ SettingsFit z := by
  simp only [settingsRight, Bool.and_eq_true, decide_eq_true_eq, List.all_eq_true]
  constructor
  · rintro ⟨⟨ha, hs⟩, hrows⟩
    have hrow : ∀ {i : Nat} {r : SetSpec} {v : SetValue} {w : Option SetValue}, catalogue[i]? = some r → z.active[i]? = some v → z.staged[i]? = some w →
        valueInRange r.form v = true ∧ stagedFits r.form w = true := fun hr hv hw =>
      hrows _ (List.mem_of_getElem? ((setRows_getElem? z ..).mpr ⟨hr, hv, hw⟩))
    refine ⟨ha, hs, fun {i r v} hr hv => ?_, fun {i r v} hr hv => ?_⟩
    · obtain ⟨w, hw⟩ : ∃ w, z.staged[i]? = some w :=
        ⟨_, List.getElem?_eq_getElem (by have := (List.getElem?_eq_some_iff.mp hv).1; omega)⟩
      exact (hrow hr hv hw).1
    · obtain ⟨u, hu⟩ : ∃ u, z.active[i]? = some u :=
        ⟨_, List.getElem?_eq_getElem (by have := (List.getElem?_eq_some_iff.mp hv).1; omega)⟩
      exact (hrow hr hu hv).2
  · intro h
    refine ⟨⟨h.activeLength, h.stagedLength⟩, fun x hx => ?_⟩
    obtain ⟨i, hi⟩ := List.getElem?_of_mem hx
    obtain ⟨r, v, w⟩ := x
    obtain ⟨hr, hv, hw⟩ := (setRows_getElem? z ..).mp hi
    refine ⟨h.active hr hv, ?_⟩
    cases w with
    | none => rfl
    | some w => exact h.staged hr hw

/-- The lower end of each range of the catalogue is not above the upper one. -/
theorem catalogue_ranges : ∀ r ∈ catalogue, ∀ lo hi d, r.form = .num lo hi d → lo ≤ hi := by
  have h : catalogue.all (fun r => match r.form with | .num lo hi _ => decide (lo ≤ hi) | _ => true) = true := by
    decide +kernel
  intro r hr lo hi d hf
  have := List.all_eq_true.mp h r hr
  simpa [hf] using this

theorem clampNat_ge {lo hi : Nat} (h : lo ≤ hi) (x : Nat) : lo ≤ clampNat lo hi x := by
  unfold clampNat; split_ifs <;> omega

theorem clampNat_le {lo hi : Nat} (h : lo ≤ hi) (x : Nat) : clampNat lo hi x ≤ hi := by
  unfold clampNat; split_ifs <;> omega

theorem clampNat_of_mem {lo hi x : Nat} (hlo : lo ≤ x) (hhi : x ≤ hi) : clampNat lo hi x = x := by
  unfold clampNat; split_ifs <;> omega

/-- A value that was read and brought into its range is in the range of its row (R182). -/
theorem valueInRange_clampValue {r : SetSpec} (hr : r ∈ catalogue) {bs : List Byte} {v : SetValue}
    (h : readValue r.form bs = some v) : valueInRange r.form (clampValue r.form v) = true := by
  unfold readValue at h
  split at h
  · rename_i bs lo hi d hf
    have hle := catalogue_ranges r hr lo hi d hf
    split at h <;> cases h
    simp [hf, clampValue, valueInRange, clampNat_ge hle, clampNat_le hle]
  · split at h <;> cases h
    simp_all [clampValue, valueInRange]
  · cases h
  · obtain ⟨p, -, rfl⟩ := Option.map_eq_some_iff.mp h
    simp [*, clampValue, valueInRange, profileInRange, clampProfile, clampNat_ge, clampNat_le]
  · obtain ⟨p, -, rfl⟩ := Option.map_eq_some_iff.mp h
    simp [*, clampValue, valueInRange, actionInRange, clampAction, clampNat_ge, clampNat_le]

/-- The row of an identifier is the one at its place. -/
theorem specOf_eq_some {id : Nat} {r : SetSpec} (h : specOf id = some r) : catalogue[id - 1]? = some r := by
  unfold specOf at h
  split at h
  · cases h
  · exact h

/-- What PUT SETTING stages is in the range of its row (R181, R182). -/
theorem putTest_staged {st : Station} {id : Nat} {bs : List Byte} {b : Bool} {v : SetValue}
    (h : putTest st id bs = .staged b v) : ∃ r, catalogue[id - 1]? = some r ∧ valueInRange r.form v = true := by
  unfold putTest at h
  split at h
  · cases h
  · rename_i r hr
    split at h
    · cases h
    · split at h
      · cases h
      · cases h
        exact ⟨r, specOf_eq_some hr, valueInRange_clampValue (List.mem_of_getElem? (specOf_eq_some hr)) ‹_›⟩

theorem stagedProfile_eq_some {n : Chan} {z : SetTable} {v : SetValue} (h : stagedProfile n z = some v) :
    z.staged[profileId n - 1]? = some (some v) := by
  unfold stagedProfile at h
  split at h
  · cases h; assumption
  · cases h

/-- Every act of the settings table keeps the settings in range. -/
theorem SetAct.keeps_fit {z y : SetTable} (ha : SetAct z y) (h : SettingsFit z) : SettingsFit y := by
  cases ha with
  | stage st id bs b v hp =>
    obtain ⟨r, hr, hv⟩ := putTest_staged hp
    refine ⟨h.activeLength, by simpa [stageValue] using h.stagedLength, h.active, fun {i q w} hq hw => ?_⟩
    simp only [stageValue, List.getElem?_set] at hw
    split at hw
    · rename_i hi
      subst hi
      split at hw <;> cases hw
      rwa [Option.some.inj (hq.symm.trans hr)]
    · exact h.staged hq hw
  | apply choose =>
    have hlen : (setRows z).length = 87 := by
      simp [setRows, catalogue_length, h.activeLength, h.stagedLength]
    have hrow : ∀ {α : Type} {g : SetSpec × SetValue × Option SetValue → α} {i : Nat} {r : SetSpec} {a : α},
        catalogue[i]? = some r → ((setRows z).map g)[i]? = some a →
        ∃ v w, z.active[i]? = some v ∧ z.staged[i]? = some w ∧ a = g (r, v, w) := by
      intro α g i r a hr ha
      rw [List.getElem?_map, Option.map_eq_some_iff] at ha
      obtain ⟨⟨q, v, w⟩, hx, rfl⟩ := ha
      obtain ⟨hq, hv, hw⟩ := (setRows_getElem? z ..).mp hx
      cases hr.symm.trans hq
      exact ⟨v, w, hv, hw, rfl⟩
    refine ⟨by simpa [applyClasses] using hlen, by simpa [applyClasses] using hlen, fun {i r a} hr ha => ?_,
      fun {i r a} hr ha => ?_⟩
    · obtain ⟨v, w, hv, hw, rfl⟩ := hrow hr ha
      dsimp only
      split
      · cases w with
        | none => exact h.active hr hv
        | some w => exact h.staged hr hw
      · exact h.active hr hv
    · obtain ⟨v, w, hv, hw, heq⟩ := hrow hr ha
      dsimp only at heq
      split at heq
      · cases heq
      · exact h.staged hr (heq ▸ hw)
  | profile n v hp =>
    refine ⟨by simpa [profileTaken] using h.activeLength, by simpa [profileTaken] using h.stagedLength,
      fun {i q w} hq hw => ?_, fun {i q w} hq hw => ?_⟩
    · simp only [profileTaken, List.getElem?_set] at hw
      split at hw
      · rename_i hi
        subst hi
        split at hw <;> cases hw
        exact h.staged hq (stagedProfile_eq_some hp)
      · exact h.active hq hw
    · simp only [profileTaken, List.getElem?_set] at hw
      split at hw
      · split at hw <;> cases hw
      · exact h.staged hq hw
  | note d n => exact ⟨h.activeLength, h.stagedLength, h.active, h.staged⟩

theorem BlockAct.keeps_fit {s t : State} (ha : BlockAct s t) (h : SettingsFit s.set) : SettingsFit t.set := by
  cases ha with
  | set z hz => exact hz.keeps_fit h
  | _ => exact h

theorem PartAct.keeps_fit {s t : State} (ha : PartAct s t) (h : SettingsFit s.set) : SettingsFit t.set := by
  cases ha with
  | block hb => exact hb.keeps_fit h
  | _ => exact h

theorem setRelease_fit : SettingsFit setRelease := (settingsRight_iff _).mp (by decide +kernel)

/-- Settles O54: every act of the settings table keeps its rows in range, and no other block writes it. -/
theorem stepKeepsSettingsInRange : Obligations.StepKeepsSettingsInRange := by
  intro s t hs h
  rw [settingsRight_iff] at hs ⊢
  exact step_keeps_of_parts (P := fun s => SettingsFit s.set) (fun _ h => h) (fun _ _ h => h)
    (fun _ _ ha => ha.keeps_fit) (fun _ _ _ _ _ _ => setRelease_fit) hs h

end Sys2Proof.Machine
end

section
/-! Every step keeps the attention lines, the derate level, the bins and the gate lines (R42, R55, R101, R102, R108,
R199). -/

namespace Sys2Proof.Machine

/-! ### The attention lines -/

theorem attentionsRight_iff (s : State) :
    attentionsRight s = true ↔ ∀ k, attentionRight (s.links.get k) = true := by
  simp only [attentionsRight, Bool.and_eq_true]
  exact ⟨fun h k => by cases k <;> simp [Triple.get, h], fun h => ⟨⟨h .c, h .p⟩, h .m⟩⟩

theorem attentionRight_of_same {l m : Link} (hn : m.notices = l.notices) (ha : m.attention = l.attention) :
    attentionRight m = attentionRight l := by simp [attentionRight, hn, ha]

theorem PartAct.keeps_attention {s t : State} (ha : PartAct s t) (h : attentionsRight s = true) :
    attentionsRight t = true := by
  rw [attentionsRight_iff] at h ⊢
  intro j
  cases ha with
  | block hb =>
    cases hb with
    | link k l hl =>
      by_cases hj : j = k
      · subst hj; simpa using hl
      · simpa [Triple.get_put_ne _ _ hj] using h j
    | links ls hls => exact (attentionRight_of_same (hls j).1 (hls j).2).trans (h j)
    | _ => exact h j
  | _ => exact h j

/-! ### The derate level and the bins -/

theorem binsRight_iff (v : Vwa) : binsRight v = true ↔ ∀ n, chanBinsRight (v.chans.get n) = true := by
  simp only [binsRight, allChans, List.all_cons, List.all_nil, Bool.and_true, Bool.and_eq_true]
  exact ⟨fun h n => by cases n <;> simp [h], fun h => ⟨h .c0, h .c1, h .c2, h .c3⟩⟩

/-- A scan leaves a channel's contribution. -/
theorem takeScan_contribution (x : Int) (t : Tick) (c : VChan) : (takeScan x t c).contribution = c.contribution := by
  unfold takeScan
  split
  · split <;> rfl
  · rfl

/-- The level of four channels turns on their contributions alone. -/
theorem levelOf_put {q : Quad VChan} {n : Chan} {c : VChan} (h : c.contribution = (q.get n).contribution) :
    levelOf (q.put n c) = levelOf q := by
  cases n <;> simp_all [levelOf, Quad.put, Quad.get]

theorem PartAct.keeps_derate {s t : State} (ha : PartAct s t) (h : derateRight s.vwa = true) :
    derateRight t.vwa = true := by
  cases ha with
  | block hb =>
    cases hb with
    | chan a n c hc => exact decide_eq_true rfl
    | scan x t n =>
      refine decide_eq_true ((of_decide_eq_true h).trans (levelOf_put (takeScan_contribution ..)).symm)
    | _ => exact h
  | _ => exact h

theorem PartAct.keeps_bins {s t : State} (ha : PartAct s t) (h : binsRight s.vwa = true) : binsRight t.vwa = true := by
  rw [binsRight_iff] at h ⊢
  have hput : ∀ {n : Chan} {c : VChan}, BinsKept (s.vwa.chans.get n) c → ∀ j,
      chanBinsRight ((s.vwa.chans.put n c).get j) = true := by
    intro n c hc j
    by_cases hj : j = n
    · subst hj; simpa using hc.kept (h j)
    · simpa [Quad.get_put_ne _ _ hj] using h j
  cases ha with
  | block hb =>
    cases hb with
    | chan a n c hc => exact hput (hc.trans ⟨id⟩)
    | scan x t n => exact hput (takeScan_bins ..)
    | _ => exact h
  | _ => exact h

/-! ### The gate lines -/

/-- The gate lines of a burst (R55). -/
def burstLines : Option Burst → BitVec 6
  | none => 0#6
  | some b => if b.on then gatePair b.thy else 0#6

theorem gatesRight_iff (c : Conv) : gatesRight c = true ↔
    c.gates = burstLines c.burst ∧ (c.state = .off → c.burst = none ∧ c.firings = []) := by
  have h : gatesRight c = (decide (c.gates = burstLines c.burst) &&
      (decide (c.state ≠ .off) || (decide (c.burst = none) && decide (c.firings = [])))) := by
    unfold gatesRight burstLines
    cases c.burst <;> rfl
  rw [h]
  simp only [Bool.and_eq_true, Bool.or_eq_true, decide_eq_true_eq]
  tauto

/-- A controller with the burst and the lines of another, in OFF only as that one was, or without firings. -/
theorem gatesRight_of_same {c d : Conv} (h : gatesRight c = true) (hg : d.gates = c.gates) (hb : d.burst = c.burst)
    (hs : d.state = .off → c.state = .off ∧ (c.firings = [] → d.firings = [])) : gatesRight d = true := by
  rw [gatesRight_iff] at h ⊢
  refine ⟨by rw [hg, hb]; exact h.1, fun hd => ?_⟩
  obtain ⟨hc, hf⟩ := hs hd
  exact ⟨hb.trans (h.2 hc).1, hf (h.2 hc).2⟩

theorem convOff_gates (c : Conv) : gatesRight (convOff c) = true := by
  rw [gatesRight_iff]
  exact ⟨rfl, fun _ => ⟨rfl, rfl⟩⟩

/-- A firing scheduled changes neither state, burst nor lines. -/
theorem convOrigin_gates (z : SetTable) (iref imeas : Nat) (g : Origin) {c : Conv} (h : gatesRight c = true) :
    gatesRight (convOrigin z iref imeas g c) = true := by
  have hsame : gatesRight { c with lastOrigin := some g } = true := gatesRight_of_same h rfl rfl (fun h => ⟨h, id⟩)
  have hsched : ∀ a (d : Conv), d.gates = c.gates → d.burst = c.burst → d.state = c.state → c.state ≠ .off →
      gatesRight (convSchedule a g d) = true := fun a d hg hb hs hn =>
    gatesRight_of_same h hg hb (fun ho => absurd (hs.symm.trans ho) hn)
  unfold convOrigin
  split
  · unfold convRealOrigin
    split
    · exact hsame
    · exact hsched _ _ rfl rfl rfl (by simp_all)
    · split
      · exact convOff_gates _
      · exact hsched _ _ rfl rfl rfl (by simp_all)
    · exact hsched _ _ rfl rfl rfl (by simp_all)
  · exact hsame

theorem countFiring_gates {c : Conv} (h : gatesRight c = true) : gatesRight (countFiring c) = true := by
  unfold countFiring
  split <;> exact gatesRight_of_same h rfl rfl (fun h => ⟨h, id⟩)

theorem convIssue_gates (z : SetTable) (f : Firing) {c : Conv} (h : gatesRight c = true) (hf : c.firings ≠ []) :
    gatesRight (convIssue z f c) = true := by
  refine countFiring_gates ((gatesRight_iff _).mpr ⟨rfl, fun ho => ?_⟩)
  exact absurd (((gatesRight_iff c).mp h).2 ho).2 hf

theorem convPhaseEnd_gates {b : Burst} {c : Conv} (h : gatesRight c = true) (hb : c.burst = some b) :
    gatesRight (convPhaseEnd b c) = true := by
  have hn : c.state ≠ .off := fun ho => by simp [(((gatesRight_iff c).mp h).2 ho).1] at hb
  unfold convPhaseEnd
  split
  · exact (gatesRight_iff _).mpr ⟨rfl, fun ho => absurd ho hn⟩
  · split
    · exact (gatesRight_iff _).mpr ⟨rfl, fun ho => absurd ho hn⟩
    · exact (gatesRight_iff _).mpr ⟨rfl, fun ho => absurd ho hn⟩

/-- An answer to an arrival leaves the burst and the lines, or enters OFF (R59). -/
theorem convRespond_gates (z : SetTable) (x : Side) {c : Conv} (h : gatesRight c = true) (hn : c.state ≠ .off) :
    gatesRight (convRespond z x c) = true := by
  have hblock : ∀ d : Conv, d.gates = c.gates → d.burst = c.burst → d.state = c.state →
      gatesRight (convRetardBlock d) = true := fun d hg hb hs => by
    unfold convRetardBlock
    split
    · exact gatesRight_of_same h hg hb (fun ho => by cases ho)
    · exact gatesRight_of_same h hg hb (fun ho => absurd (hs.symm.trans ho) hn)
  unfold convRespond
  split
  · split
    · exact hblock _ rfl rfl rfl
    · exact gatesRight_of_same h rfl rfl (fun ho => absurd ho hn)
  · split
    · exact hblock _ rfl rfl rfl
    · split
      · exact gatesRight_of_same h rfl rfl (fun ho => by cases ho)
      · exact gatesRight_of_same h rfl rfl (fun ho => absurd ho hn)
  · exact hblock _ rfl rfl rfl
  · exact convOff_gates _

theorem convArrival_gates (z : SetTable) (x : Side) (t : Tick) (i : Nat) {c : Conv} (h : gatesRight c = true) :
    gatesRight (convArrival z x t i c).1 = true := by
  have hsame : gatesRight { c with fault := true } = true := gatesRight_of_same h rfl rfl (fun h => ⟨h, id⟩)
  have hactive : c.state ≠ .off → gatesRight (convArrivalActive z x t i c).1 = true := fun hn =>
    convRespond_gates z x (gatesRight_of_same h rfl rfl (fun h => ⟨h, id⟩)) hn
  unfold convArrival
  split
  · exact h
  · split
    · exact hsame
    · exact hsame
    · exact hactive (by simp_all)
    · exact hactive (by simp_all)

theorem convClear_gates {c : Conv} (h : gatesRight c = true) : gatesRight (convClear c) = true := by
  unfold convClear
  split
  · split
    · exact gatesRight_of_same h rfl rfl (fun ho => by cases ho)
    all_goals exact gatesRight_of_same h rfl rfl (fun h => ⟨h, id⟩)
  · exact h

theorem ConvAct.keeps_gates {c d : Conv} (ha : ConvAct c d) (h : gatesRight c = true) : gatesRight d = true := by
  cases ha with
  | off => exact convOff_gates c
  | origin z iref imeas g => exact convOrigin_gates z iref imeas g h
  | issue z f _ hf => exact convIssue_gates z f h hf
  | phaseEnd b _ hb => exact convPhaseEnd_gates h hb
  | arrival z x t i => exact convArrival_gates z x t i h
  | clear => exact convClear_gates h
  | angles z => exact gatesRight_of_same h rfl rfl (fun h => ⟨h, fun hf => by simp [convAngleApply, hf]⟩)

/-- The enable, as a converter takes it, changes neither burst nor lines, and enters no OFF. -/
theorem convTakeEnable_gates (old new : Bool) (sync : SyncState) {c : Conv} (h : gatesRight c = true) :
    gatesRight (convTakeEnable old new sync c) = true := by
  unfold convTakeEnable convEnable convDisable
  split
  · exact h
  · split
    · split
      · split
        · exact gatesRight_of_same h rfl rfl (fun ho => by cases ho)
        · exact h
      · split
        · exact gatesRight_of_same h rfl rfl (fun ho => by cases ho)
        · exact h
      · exact h
      · exact h
    · split
      · exact gatesRight_of_same h rfl rfl (fun ho => by cases ho)
      · exact gatesRight_of_same h rfl rfl (fun ho => by cases ho)
      · exact h
      · exact h

theorem PartAct.keeps_gates {s t : State} (ha : PartAct s t) (h : gatesRight s.cca = true ∧ gatesRight s.ccb = true) :
    gatesRight t.cca = true ∧ gatesRight t.ccb = true := by
  cases ha with
  | block hb =>
    cases hb with
    | convA c hc => exact ⟨hc.keeps_gates h.1, h.2⟩
    | convB c hc => exact ⟨h.1, hc.keeps_gates h.2⟩
    | _ => exact h
  | enable old new sync => exact ⟨convTakeEnable_gates old new sync h.1, convTakeEnable_gates old new sync h.2⟩
  | _ => exact h

/-- Settles O55, each of its four properties by the acts of the block that it is about. -/
theorem stepKeepsNoticesLevelAndGates : Obligations.StepKeepsNoticesLevelAndGates := by
  refine ⟨fun s t hs h => ?attention, fun s t hs h => ?derate, fun s t hs h => ?bins, fun s t ha hb h => ?gates⟩
  case attention =>
    refine step_keeps_of_parts (P := fun s => attentionsRight s = true) (fun _ h => h) (fun _ _ h => h)
      (fun _ _ ha => ha.keeps_attention) (fun _ _ _ _ _ _ => ?_) hs h
    exact (attentionsRight_iff _).mpr fun k => by cases k <;> rfl
  case derate =>
    exact step_keeps_of_parts (P := fun s => derateRight s.vwa = true) (fun _ h => h) (fun _ _ h => h)
      (fun _ _ ha => ha.keeps_derate) (fun _ _ _ _ _ _ => rfl) hs h
  case bins =>
    exact step_keeps_of_parts (P := fun s => binsRight s.vwa = true) (fun _ h => h) (fun _ _ h => h)
      (fun _ _ ha => ha.keeps_bins) (fun _ _ _ _ _ _ => (by decide +kernel : binsRight vwaRelease = true)) hs h
  case gates =>
    exact step_keeps_of_parts (P := fun s => gatesRight s.cca = true ∧ gatesRight s.ccb = true) (fun _ h => h)
      (fun _ _ h => h) (fun _ _ ha => ha.keeps_gates) (fun _ _ _ _ _ _ => ⟨rfl, rfl⟩) ⟨ha, hb⟩ h

end Sys2Proof.Machine
end

section
/-! Every step keeps the TRIP line with the episode, and the latched set in code order (R147, R155, R156). -/

namespace Sys2Proof.Machine

/-- The kinds of `allCauses` stand in the order of their codes. -/
theorem allCauses_inOrder : allCauses.Pairwise (fun j k => causeCode j < causeCode k) := by decide +kernel

theorem mem_allCauses (k : Cause) : k ∈ allCauses := by
  rcases k with ((_|_)|(_|_)|(_|_)|(_|_)|(_|_)|_|_|_|(_|_)|_|_|_|_|(_|_)|(_|_|_|_)|(_|_|_|_)|_|_|_|_|_) <;> decide

theorem mem_latchOf {k : Cause} {ls : List Latch} {e : Latch} (h : latchOf k ls = some e) : e ∈ ls ∧ e.kind = k := by
  refine ⟨List.mem_of_find?_eq_some h, by simpa using List.find?_some h⟩

/-- With each kind once, the entry of a kind is the one in the set. -/
theorem latchOf_of_mem {ls : List Latch} (h : (ls.map Latch.kind).Nodup) {e : Latch} (he : e ∈ ls) :
    latchOf e.kind ls = some e := by
  induction ls with
  | nil => cases he
  | cons a ls ih =>
    simp only [List.map_cons, List.nodup_cons] at h
    unfold latchOf
    rw [List.find?_cons]
    rcases List.mem_cons.mp he with rfl | he
    · simp
    · have hne : a.kind ≠ e.kind := fun hk => h.1 (hk ▸ List.mem_map_of_mem he)
      simpa [hne, latchOf] using ih h.2 he

/-- The entries of a latched set after a kind is latched: the new one, and those of the other kinds. -/
theorem mem_putLatch {k : Cause} {c : Class} {ls : List Latch} {e : Latch} :
    e ∈ putLatch k c ls ↔ e = { kind := k, cls := c } ∨ e.kind ≠ k ∧ latchOf e.kind ls = some e := by
  simp only [putLatch, List.mem_filterMap]
  constructor
  · rintro ⟨x, -, hx⟩
    split at hx
    · exact .inl (Option.some.inj hx).symm
    · obtain ⟨-, hk⟩ := mem_latchOf hx
      subst hk
      exact .inr ⟨‹_›, hx⟩
  · rintro (rfl | ⟨hne, h⟩)
    · exact ⟨k, mem_allCauses k, by simp⟩
    · exact ⟨e.kind, mem_allCauses _, by simp [hne, h]⟩

/-- A latched set stands in code order after a kind is latched (R155). -/
theorem putLatch_inOrder (k : Cause) (c : Class) (ls : List Latch) :
    ((putLatch k c ls).map (fun e => causeCode e.kind)).Pairwise (· < ·) := by
  rw [List.pairwise_map]
  refine List.Pairwise.filterMap _ (fun x y hxy e he f hf => ?_) allCauses_inOrder
  have hkind : ∀ {x : Cause} {e : Latch},
      (if x = k then some { kind := k, cls := c } else latchOf x ls) = some e → e.kind = x := by
    intro x e h
    split at h
    · cases h; exact ‹x = k›.symm
    · exact (mem_latchOf h).2
  rw [hkind he, hkind hf]
  exact hxy

/-- Codes in order name each kind once. -/
theorem kinds_nodup {ls : List Latch} (h : (ls.map (fun e => causeCode e.kind)).Pairwise (· < ·)) :
    (ls.map Latch.kind).Nodup := by
  rw [List.pairwise_map] at h
  rw [List.Nodup, List.pairwise_map]
  exact h.imp fun hlt heq => absurd (heq ▸ hlt) (lt_irrefl _)

/-- A class B entry is among the latched set. -/
def holdsB (ls : List Latch) : Bool := ls.any (fun e => decide (e.cls = .b))

/-- The episode with its TRIP line (R147, R155, R156). -/
structure EpisodeRight (p : Pru) : Prop where
  inOrder : (p.latched.map (fun e => causeCode e.kind)).Pairwise (· < ·)
  trip : p.trip = (p.active && holdsB p.latched)
  clear : p.active = false → p.cls = none ∧ p.firstOut = none ∧ p.latched = [] ∧ p.record = none

theorem tripRight_iff (p : Pru) : tripRight p = true ↔ EpisodeRight p := by
  simp only [tripRight, kindsOnce, latchedInOrder, Bool.and_eq_true, Bool.or_eq_true, decide_eq_true_eq]
  constructor
  · rintro ⟨⟨⟨-, ho⟩, ht⟩, hc⟩
    refine ⟨ho, ht, fun ha => ?_⟩
    rcases hc with hc | hc
    · simp [ha] at hc
    · exact ⟨hc.1.1.1, hc.1.1.2, hc.1.2, hc.2⟩
  · intro h
    refine ⟨⟨⟨kinds_nodup h.inOrder, h.inOrder⟩, h.trip⟩, ?_⟩
    cases ha : p.active with
    | true => exact .inl rfl
    | false =>
      obtain ⟨hc, hf, hl, hr⟩ := h.clear ha
      exact .inr ⟨⟨⟨hc, hf⟩, hl⟩, hr⟩

theorem SameEpisode.keeps_right {p q : Pru} (hs : SameEpisode p q) (h : EpisodeRight p) : EpisodeRight q := by
  refine ⟨hs.latched ▸ h.inOrder, by rw [hs.trip, hs.active, hs.latched, h.trip], fun ha => ?_⟩
  rw [hs.cls, hs.firstOut, hs.latched, hs.record]
  exact h.clear (hs.active ▸ ha)

/-- A class B entry is latched after a report that is latched with class `c` exactly where there was one, or `c` is B:
only a stronger class takes the place of an entry. -/
theorem holdsB_putLatch {k : Cause} {c : Class} {p : Pru} (hd : (p.latched.map Latch.kind).Nodup)
    (hl : latchingOf k c p ≠ .same) : holdsB (putLatch k c p.latched) = (holdsB p.latched || decide (c = .b)) := by
  rw [Bool.eq_iff_iff]
  simp only [holdsB, List.any_eq_true, decide_eq_true_eq, Bool.or_eq_true, mem_putLatch]
  constructor
  · rintro ⟨e, rfl | ⟨-, he⟩, hb⟩
    · exact .inr hb
    · exact .inl ⟨e, (mem_latchOf he).1, hb⟩
  · rintro (⟨e, he, hb⟩ | hb)
    · by_cases hk : e.kind = k
      · subst hk
        exfalso
        apply hl
        simp [latchingOf, latchOf_of_mem hd he, hb, stronger, classRank]
      · exact ⟨e, .inr ⟨hk, latchOf_of_mem hd he⟩, hb⟩
    · exact ⟨_, .inl rfl, hb⟩

theorem PartAct.keeps_episode {s t : State} (ha : PartAct s t) (h : EpisodeRight s.pru) : EpisodeRight t.pru := by
  cases ha with
  | block hb =>
    cases hb with
    | pru p hp => exact hp.keeps_right h
    | opened k c n _ => exact ⟨by simp [pruOpen], by simp [pruOpen, holdsB], fun ha => by simp [pruOpen] at ha⟩
    | latched k c hact hl =>
      refine ⟨putLatch_inOrder .., ?_, fun ha => by simp [pruLatch, hact] at ha⟩
      simp [pruLatch, hact, holdsB_putLatch (kinds_nodup h.inOrder) hl, h.trip]
    | ended => exact ⟨by simp [pruReset], rfl, fun _ => ⟨rfl, rfl, rfl, rfl⟩⟩
    | _ => exact h
  | _ => exact h

/-- Settles O57: every act of the protection unit keeps its episode with its line, and no other block writes it. -/
theorem stepKeepsTheTripLine : Obligations.StepKeepsTheTripLine := by
  intro s t hs h
  rw [tripRight_iff] at hs ⊢
  refine step_keeps_of_parts (P := fun s => EpisodeRight s.pru) (fun _ h => h) (fun _ _ h => h)
    (fun _ _ ha => ha.keeps_episode) (fun _ _ _ _ _ _ => ?_) hs h
  exact ⟨by simp [released, pruRelease], rfl, fun _ => ⟨rfl, rfl, rfl, rfl⟩⟩

end Sys2Proof.Machine
end

section
/-! Every step keeps the history ring, the records and RECORD_MARK (R159, R165 to R167). -/

namespace Sys2Proof.Machine

/-- A numeric setting in force lies within the range of its row (R182). -/
theorem SettingsFit.num_range {z : SetTable} (h : SettingsFit z) {id : Nat} {r : SetSpec} {lo hi d : Nat}
    (hr : catalogue[id - 1]? = some r) (hf : r.form = .num lo hi d) : lo ≤ z.num id ∧ z.num id ≤ hi := by
  obtain ⟨v, hv⟩ : ∃ v, z.active[id - 1]? = some v :=
    ⟨_, List.getElem?_eq_getElem (by
      have := (List.getElem?_eq_some_iff.mp hr).1
      rw [catalogue_length] at this
      rw [h.activeLength]
      exact this)⟩
  have hin := h.active hr hv
  cases v with
  | num n => simpa [hf, valueInRange, SetTable.num, hv] using hin
  | code n => simp [hf, valueInRange] at hin
  | profile p => simp [hf, valueInRange] at hin
  | action a => simp [hf, valueInRange] at hin

theorem SettingsFit.preCount_le {z : SetTable} (h : SettingsFit z) : z.preCount ≤ 191 :=
  (h.num_range (id := 85) rfl rfl).2

theorem SettingsFit.postCount_pos {z : SetTable} (h : SettingsFit z) : 1 ≤ z.postCount :=
  (h.num_range (id := 86) rfl rfl).1

/-- A record's counts (R165 to R167). -/
structure RecordFit (r : Record) : Prop where
  subs : r.subs.length ≤ 8
  total : r.pre + r.post ≤ 192
  held : r.entries.length ≤ r.pre + r.post
  short : r.isSealed = false → r.entries.length < r.pre + r.post

theorem recordRight_iff (r : Record) : recordRight r = true ↔ RecordFit r := by
  simp only [recordRight, Bool.and_eq_true, Bool.or_eq_true, decide_eq_true_eq]
  constructor
  · rintro ⟨⟨⟨hs, ht⟩, hh⟩, ho⟩
    exact ⟨hs, ht, hh, fun h => ho.resolve_left (by simp [h])⟩
  · intro h
    refine ⟨⟨⟨h.subs, h.total⟩, h.held⟩, ?_⟩
    cases hs : r.isSealed with
    | true => exact .inl rfl
    | false => exact .inr (h.short hs)

/-- The record unit with its ring, its records and its mark as they are to be. -/
structure RecordsFit (u : Rcu) : Prop where
  ring : u.ring.length ≤ 256
  mark : u.mark = u.filling.isSome
  filling : ∀ {i}, u.filling = some i → ∃ r, u.slots.get i = some r ∧ r.isSealed = false
  records : ∀ {i r}, u.slots.get i = some r → RecordFit r

theorem mem_allSlots (i : SlotIx) : i ∈ allSlots := by cases i <;> decide

theorem recordsRight_iff (u : Rcu) : recordsRight u = true ↔ RecordsFit u := by
  simp only [recordsRight, Bool.and_eq_true, decide_eq_true_eq, List.all_eq_true]
  constructor
  · rintro ⟨⟨⟨hr, hm⟩, hf⟩, hs⟩
    refine ⟨hr, hm, fun {i} hi => ?_, fun {i r} hi => ?_⟩
    · simp only [fillingRight, hi] at hf
      cases hg : u.slots.get i with
      | none => simp [hg] at hf
      | some r => exact ⟨r, rfl, by simpa [hg] using hf⟩
    · have := hs i (mem_allSlots i)
      rw [hi] at this
      exact (recordRight_iff r).mp this
  · intro h
    refine ⟨⟨⟨h.ring, h.mark⟩, ?_⟩, fun i _ => ?_⟩
    · unfold fillingRight
      cases hf : u.filling with
      | none => rfl
      | some i =>
        obtain ⟨r, hr, ho⟩ := h.filling hf
        simp [hr, ho]
    · cases hi : u.slots.get i with
      | none => rfl
      | some r => exact (recordRight_iff r).mpr (h.records hi)

/-- A record put into a slot: the rest of the store is as before. -/
theorem RecordsFit.put {u : Rcu} (h : RecordsFit u) {i : SlotIx} {r : Record} (hr : RecordFit r)
    {f : Option SlotIx} {m : Bool} (hm : m = f.isSome)
    (hf : ∀ {j}, f = some j → j = i ∧ r.isSealed = false ∨ j ≠ i ∧ u.filling = some j) {a : List SlotIx} {n : Nat} :
    RecordsFit { u with slots := u.slots.put i (some r), filling := f, mark := m, age := a, counter := n } := by
  refine ⟨h.ring, hm, fun {j} hj => ?_, fun {j q} hj => ?_⟩
  · rcases hf hj with ⟨rfl, ho⟩ | ⟨hne, hu⟩
    · exact ⟨r, by simp, ho⟩
    · simpa [Six.get_put_ne _ _ hne] using h.filling hu
  · by_cases hji : j = i
    · subst hji
      simp only [Six.get_put, Option.some.injEq] at hj
      exact hj ▸ hr
    · simp only [Six.get_put_ne _ _ hji] at hj
      exact h.records hj

/-- The filling record changed in place, still FILLING. -/
theorem RecordsFit.put_filling {u : Rcu} (h : RecordsFit u) {i : SlotIx} (hi : u.filling = some i) {r : Record}
    (hr : RecordFit r) (ho : r.isSealed = false) : RecordsFit { u with slots := u.slots.put i (some r) } :=
  h.put hr h.mark (fun {j} hj => by
    cases hi.symm.trans hj
    exact .inl ⟨rfl, ho⟩)

/-- The filling record is FILLING, and fits. -/
theorem RecordsFit.filling_record {u : Rcu} (h : RecordsFit u) {i : SlotIx} (hi : u.filling = some i) {r : Record}
    (hr : u.slots.get i = some r) : r.isSealed = false ∧ RecordFit r := by
  obtain ⟨q, hq, ho⟩ := h.filling hi
  cases hr.symm.trans hq
  exact ⟨ho, h.records hr⟩

/-- A slot that holds no FILLING record becomes FREE. -/
theorem RecordsFit.free {u : Rcu} (h : RecordsFit u) {i : SlotIx} (hi : u.filling ≠ some i) :
    RecordsFit (freeSlot i u) := by
  refine ⟨h.ring, h.mark, fun {j} hj => ?_, fun {j q} hj => ?_⟩
  · have hne : j ≠ i := fun he => hi (he ▸ hj)
    simpa [freeSlot, Six.get_put_ne _ _ hne] using h.filling hj
  · by_cases hji : j = i
    · subst hji; simp [freeSlot] at hj
    · simp only [freeSlot, Six.get_put_ne _ _ hji] at hj
      exact h.records hj

theorem RecordsFit.freeIfRead {u : Rcu} (h : RecordsFit u) (i : SlotIx) : RecordsFit (freeIfRead i u) := by
  unfold Machine.freeIfRead
  split
  · exact h
  · rename_i r hr
    split
    · rename_i hs
      refine h.free fun hf => ?_
      simp [(h.filling_record hf hr).1] at hs
    · exact h

/-! ### What each act of the record unit leaves -/

theorem RecordsFit.truncateManual {u : Rcu} (h : RecordsFit u) : RecordsFit (truncateManual u).1 := by
  unfold Machine.truncateManual
  split
  · exact h
  · rename_i i hi
    split
    · exact h
    · rename_i r hr
      have hfit := (h.filling_record hi hr).2
      split
      · exact h.put (r := { r with isSealed := true, truncated := true }) (f := none) (m := false)
          ⟨hfit.subs, hfit.total, hfit.held, fun hc => by simp at hc⟩ rfl (fun hj => by simp at hj)
      · exact h

/-- A new record's counts, with the settings in range (R165). -/
theorem formRecord_fit {z : SetTable} (hz : SettingsFit z) (u : Rcu) {base : Record} (hb : base.subs = []) :
    RecordFit (formRecord z u base) := by
  have hpost := hz.postCount_pos
  have hpre := hz.preCount_le
  unfold formRecord
  split
  · refine ⟨by simp [hb], ?_, ?_, fun _ => ?_⟩ <;> simp only [recordCapacity, List.length_nil] <;> omega
  · rename_i e es _
    have htaken : (takenEntries z.preCount (e :: es)).length = takenPre z.preCount (e :: es) + 1 := by
      simp only [takenEntries, takenPre, List.length_drop, List.length_cons]
      omega
    have hle : takenPre z.preCount (e :: es) ≤ 191 := le_trans (min_le_left _ _) hpre
    refine ⟨by simp [hb], ?_, ?_, fun hs => ?_⟩
    · simp only [recordCapacity]; omega
    · simp only [recordCapacity, htaken]; omega
    · simpa using hs

theorem RecordsFit.newRecord {z : SetTable} (hz : SettingsFit z) {u : Rcu} (h : RecordsFit u) {base : Record}
    (hb : base.subs = []) : RecordsFit (newRecord z base u).1 := by
  unfold Machine.newRecord
  split
  · exact h
  · rename_i i _
    refine h.put (formRecord_fit hz u hb) ?_ (fun {j} hj => ?_)
    · cases (formRecord z u base).isSealed <;> rfl
    · dsimp only at hj
      split at hj
      · cases hj
      · cases hj; exact .inl ⟨rfl, Bool.eq_false_iff.mpr ‹_›⟩

theorem RecordsFit.rcuFill {u : Rcu} (h : RecordsFit u) (e : Entry) : RecordsFit (rcuFill e u).1 := by
  unfold Machine.rcuFill
  split
  · exact h
  · rename_i i hi
    split
    · exact h
    · rename_i r hr
      obtain ⟨ho, hfit⟩ := h.filling_record hi hr
      have hshort := hfit.short ho
      have hfirst : (firstEntry e u r).subs = r.subs ∧ (firstEntry e u r).pre = r.pre ∧
          (firstEntry e u r).post = r.post := by
        unfold firstEntry
        split <;> exact ⟨rfl, rfl, rfl⟩
      obtain ⟨hsubs, hpre, hpost⟩ := hfirst
      have hfill : RecordFit (fillRecord e u r) := by
        refine ⟨?_, ?_, ?_, fun hs => ?_⟩
        · exact hsubs ▸ hfit.subs
        · simpa [fillRecord, hpre, hpost] using hfit.total
        · simp only [fillRecord, List.length_append, List.length_singleton, hpre, hpost]; omega
        · simp only [fillRecord, decide_eq_false_iff_not] at hs
          simp only [fillRecord, List.length_append, List.length_singleton, hpre, hpost]; omega
      split
      · exact h.put hfill rfl (fun {j} hj => by cases hj)
      · exact h.put_filling hi hfill (Bool.eq_false_iff.mpr ‹_›)

theorem pushEntry_length (e : Entry) {ring : List Entry} (h : ring.length ≤ 256) : (pushEntry e ring).length ≤ 256 := by
  simp only [pushEntry, ringCapacity, List.length_drop, List.length_append, List.length_singleton]
  omega

theorem RecordsFit.rcuSub {u : Rcu} (h : RecordsFit u) (k : Cause) (n : Period) : RecordsFit (rcuSub k n u) := by
  unfold Machine.rcuSub
  split
  · exact h
  · rename_i i hi
    split
    · exact h
    · rename_i r hr
      obtain ⟨ho, hfit⟩ := h.filling_record hi hr
      split
      · refine h.put_filling hi ?_ ?_ <;> unfold addSub <;> split
        · exact ⟨by simp only [List.length_append, List.length_singleton]; omega, hfit.total, hfit.held, hfit.short⟩
        · exact ⟨hfit.subs, hfit.total, hfit.held, hfit.short⟩
        · exact ho
        · exact ho
      · exact h

theorem RecordsFit.rcuTakeCapture {u : Rcu} (h : RecordsFit u) (x : Side) (c : FaultCapture) :
    RecordsFit (rcuTakeCapture x c u) := by
  have hlatest : ∀ {w : Rcu}, RecordsFit w → RecordsFit { w with latest := u.latest.put x (some c) } := fun hw =>
    ⟨hw.ring, hw.mark, hw.filling, hw.records⟩
  unfold Machine.rcuTakeCapture
  split
  · exact hlatest h
  · rename_i i hi
    split
    · exact hlatest h
    · rename_i r hr
      obtain ⟨ho, hfit⟩ := h.filling_record hi hr
      refine hlatest (h.put_filling hi (r := fillCapture x c r) ?_ ?_) <;> cases x
      · exact ⟨hfit.subs, hfit.total, hfit.held, hfit.short⟩
      · exact ⟨hfit.subs, hfit.total, hfit.held, hfit.short⟩
      · exact ho
      · exact ho

theorem RecordsFit.rcuUnpin {u : Rcu} (h : RecordsFit u) : RecordsFit (rcuUnpin u) := by
  have hp : RecordsFit { u with pinned := none } := ⟨h.ring, h.mark, h.filling, h.records⟩
  unfold Machine.rcuUnpin
  split
  · exact h
  · split
    · exact hp
    · exact hp.freeIfRead _

theorem chunkOf_eq_chunk {st : Station} {u : Rcu} {k : Cursor} {r : Record} (h : chunkOf st u = .chunk k r) :
    u.cursors.get st = some k ∧ u.slots.get k.slot = some r ∧ r.number = k.number := by
  unfold chunkOf at h
  split at h
  · cases h
  · split at h
    · cases h
    · split at h
      · cases h; exact ⟨‹_›, ‹_›, ‹_›⟩
      · cases h

theorem RecordsFit.rcuNext {u : Rcu} (h : RecordsFit u) (st : Station) : RecordsFit (rcuNext st u) := by
  have hc : ∀ cs, RecordsFit { u with cursors := cs } := fun cs => ⟨h.ring, h.mark, h.filling, h.records⟩
  unfold Machine.rcuNext
  split
  · exact h
  · exact hc _
  · rename_i k r hk
    obtain ⟨-, hr, -⟩ := chunkOf_eq_chunk hk
    have hfit := h.records hr
    dsimp only
    split
    · rename_i he
      have hs : r.isSealed = true := by
        simp only [chunkEnds, Bool.and_eq_true] at he
        exact he.1
      refine RecordsFit.freeIfRead ((hc (u.cursors.put st (some { k with pos := k.pos + (chunkEntries k r).length }))).put (i := k.slot) (r := { r with marks := r.marks.add st })
        (f := u.filling) (m := u.mark) (a := u.age) (n := u.counter) ⟨hfit.subs, hfit.total, hfit.held, hfit.short⟩ h.mark (fun {j} hj => .inr ⟨?_, hj⟩)) k.slot
      rintro rfl
      simp [(h.filling_record hj hr).1] at hs
    · exact hc _

theorem RcuAct.keeps_fit {z : SetTable} (hz : SettingsFit z) {u w : Rcu} (ha : RcuAct z u w) (h : RecordsFit u) :
    RecordsFit w := by
  cases ha with
  | trigger k c d =>
    have hpin : ∀ {w : Rcu} {n : Option Nat}, RecordsFit w → RecordsFit { w with pinned := n } := fun h =>
      ⟨h.ring, h.mark, h.filling, h.records⟩
    exact hpin (RecordsFit.newRecord hz h.truncateManual (base := tripBase z k c d _) rfl)
  | take st => exact RecordsFit.newRecord hz h (base := manualBase st u) rfl
  | period e =>
    have hfit : RecordsFit { u with ring := pushEntry e u.ring, periodTaken := e.period } :=
      ⟨by dsimp only; exact pushEntry_length e h.ring, h.mark, h.filling, h.records⟩
    exact hfit.rcuFill e
  | sub k n => exact h.rcuSub k n
  | capture x c => exact h.rcuTakeCapture x c
  | unpin => exact h.rcuUnpin
  | next st => exact h.rcuNext st
  | cursors cs => exact ⟨h.ring, h.mark, h.filling, h.records⟩
  | told d => exact ⟨h.ring, h.mark, h.filling, h.records⟩

theorem PartAct.keeps_records {s t : State} (ha : PartAct s t) (h : SettingsFit s.set ∧ RecordsFit s.rcu) :
    SettingsFit t.set ∧ RecordsFit t.rcu := by
  refine ⟨ha.keeps_fit h.1, ?_⟩
  cases ha with
  | block hb =>
    cases hb with
    | rcu u hu => exact hu.keeps_fit h.1 h.2
    | _ => exact h.2
  | _ => exact h.2

theorem rcuRelease_fit : RecordsFit rcuRelease := (recordsRight_iff _).mp (by decide +kernel)

theorem sealAtReset_fit {r : Record} (h : RecordFit r) : RecordFit (sealAtReset r) := by
  unfold sealAtReset
  split
  · exact h
  · exact ⟨h.subs, h.total, h.held, fun hc => by cases hc⟩

/-- A slot that holds a record after one may have become FREE held it before. -/
theorem freeIfRead_get {i j : SlotIx} {u : Rcu} {r : Record} (h : (freeIfRead i u).slots.get j = some r) :
    u.slots.get j = some r := by
  unfold freeIfRead at h
  split at h
  · exact h
  · split at h
    · by_cases hji : j = i
      · subst hji; simp [freeSlot] at h
      · simpa [freeSlot, Six.get_put_ne _ _ hji] using h
    · exact h

theorem rcuUnpin_get {j : SlotIx} {u : Rcu} {r : Record} (h : (rcuUnpin u).slots.get j = some r) :
    u.slots.get j = some r := by
  unfold rcuUnpin at h
  split at h
  · exact h
  · split at h
    · exact h
    · exact freeIfRead_get (u := { u with pinned := none }) h

/-- What the slots hold after the reset line was one of the records before, sealed where it was FILLING (R180). -/
theorem rcuResetLine_get {i : SlotIx} {u : Rcu} {r : Record} (h : (rcuResetLine u).slots.get i = some r) :
    ∃ q, u.slots.get i = some q ∧ r = sealAtReset q := by
  have hget := rcuUnpin_get (u := { u with
    slots := ⟨u.slots.s0.map sealAtReset, u.slots.s1.map sealAtReset, u.slots.s2.map sealAtReset,
              u.slots.s3.map sealAtReset, u.slots.s4.map sealAtReset, u.slots.s5.map sealAtReset⟩,
    filling := none }) h
  have hmap : (u.slots.get i).map sealAtReset = some r := by cases i <;> exact hget
  obtain ⟨q, hq, rfl⟩ := Option.map_eq_some_iff.mp hmap
  exact ⟨q, hq, rfl⟩

theorem rcuResetLine_fit {u : Rcu} (h : RecordsFit u) : RecordsFit (rcuResetLine u) := by
  refine ⟨Nat.zero_le _, rfl, fun hi => (by cases hi), fun {i r} hi => ?_⟩
  obtain ⟨q, hq, rfl⟩ := rcuResetLine_get hi
  exact sealAtReset_fit (h.records hq)

/-- Settles O59: with the settings in range every act of the record unit keeps ring, records and mark, and no other
block writes it. -/
theorem stepKeepsRecordsAndMark : Obligations.StepKeepsRecordsAndMark := by
  intro s t hz hs h
  rw [settingsRight_iff] at hz
  rw [recordsRight_iff] at hs ⊢
  refine (step_keeps_of_parts (P := fun s => SettingsFit s.set ∧ RecordsFit s.rcu) (fun _ h => h) (fun _ _ h => h)
    (fun _ _ ha => ha.keeps_records) (fun s _ _ u hu hs => ⟨setRelease_fit, ?_⟩) ⟨hz, hs⟩ h).2
  rcases hu with rfl | rfl
  · exact rcuRelease_fit
  · exact rcuResetLine_fit hs.2

end Sys2Proof.Machine
end

section
/-! Every step keeps the enable, CONTACTOR, AUX_EN and the release wait with the drive state (R41, R120, R134, R135). -/

namespace Sys2Proof.Machine

/-! ### The sequencer's lines -/

/-- CONTACTOR, AUX_EN, the release wait and the enable as the drive state has them. -/
structure LinesFit (d : Dsq) : Prop where
  enable : d.enable = enableOf d.drive
  aux : d.auxEn = decide (d.drive = .aux)
  running : onPermit d.drive = true → d.contactor = true ∧ d.wait = .none
  inAux : d.drive = .aux → d.contactor = false ∧ d.wait = .none
  stopped : d.drive = .blocked ∨ d.drive = .tripped → d.contactor = decide (d.wait ≠ .none)

theorem linesFit_iff (d : Dsq) : LinesFit d ↔ d.enable = enableOf d.drive ∧ linesRight d = true := by
  unfold linesRight
  constructor
  · intro h
    refine ⟨h.enable, ?_⟩
    have ha := h.aux; have hr := h.running; have hx := h.inAux; have hs := h.stopped
    cases hd : d.drive <;> simp_all [onPermit]
  · rintro ⟨he, hl⟩
    refine ⟨he, ?_, ?_, ?_, ?_⟩ <;> cases hd : d.drive <;> simp_all [onPermit]

/-- A release wait in progress means that CONTACTOR is asserted (R135). -/
theorem LinesFit.contactor_of_wait {d : Dsq} (h : LinesFit d) (hw : d.wait ≠ .none) : d.contactor = true := by
  cases hd : d.drive with
  | blocked => simpa [hw] using h.stopped (.inl hd)
  | tripped => simpa [hw] using h.stopped (.inr hd)
  | aux => exact absurd (h.inAux hd).2 hw
  | _ => exact absurd (h.running (by rw [hd]; rfl)).2 hw

/-- An entry into a state that holds CONTACTOR. -/
theorem dsqEnter_running {new : Drive} {d : Dsq} (hn : onPermit new = true) (hc : d.contactor = true)
    (hw : d.wait = .none) (ha : d.auxEn = false) : LinesFit (dsqEnter new d) := by
  cases new <;> simp [onPermit] at hn <;>
    exact ⟨rfl, ha, fun _ => ⟨hc, hw⟩, fun h => (by cases h), fun h => (by rcases h with h | h <;> cases h)⟩

/-- An entry into BLOCKED or TRIPPED: a release wait starts where CONTACTOR is asserted (R135). -/
theorem dsqEnter_stopped {new : Drive} {d : Dsq} (hn : new = .blocked ∨ new = .tripped)
    (hw : d.wait ≠ .none → d.contactor = true) (ha : d.auxEn = false) : LinesFit (dsqEnter new d) := by
  have hstop : (dsqEnter new d).contactor = decide ((dsqEnter new d).wait ≠ .none) := by
    have hwait : (dsqEnter new d).wait = if d.contactor && decide (d.wait = .none) then .zeroWait 0 else d.wait := by
      rcases hn with rfl | rfl <;> rfl
    have hcont : (dsqEnter new d).contactor = d.contactor := rfl
    rw [hwait, hcont]
    by_cases hw0 : d.wait = .none
    · cases hc : d.contactor <;> simp [hw0]
    · simp [hw hw0, hw0]
  rcases hn with rfl | rfl <;>
    exact ⟨rfl, ha, fun h => (by cases h), fun h => (by cases h), fun _ => hstop⟩

/-- What of the sequencer turns on none of its lines. -/
theorem LinesFit.of_same {d e : Dsq} (h : LinesFit d) (hd : e.drive = d.drive) (he : e.enable = d.enable)
    (hx : e.auxEn = d.auxEn) (hc : e.contactor = d.contactor) (hw : e.wait = d.wait) : LinesFit e := by
  refine ⟨?_, ?_, ?_, ?_, ?_⟩
  · rw [he, hd]; exact h.enable
  · rw [hx, hd]; exact h.aux
  · rw [hd, hc, hw]; exact h.running
  · rw [hd, hc, hw]; exact h.inAux
  · rw [hd, hc, hw]; exact h.stopped

/-- CONTACTOR released with the wait ended, in a state that asks for neither. -/
theorem LinesFit.release {d e : Dsq} (h : LinesFit d) (hn : onPermit d.drive = false) (hd : e.drive = d.drive)
    (he : e.enable = d.enable) (hx : e.auxEn = d.auxEn) (hc : e.contactor = false) (hw : e.wait = .none) :
    LinesFit e := by
  refine ⟨?_, ?_, ?_, ?_, ?_⟩
  · rw [he, hd]; exact h.enable
  · rw [hx, hd]; exact h.aux
  · rw [hd, hn]; exact fun h => by cases h
  · exact fun _ => ⟨hc, hw⟩
  · exact fun _ => by simp [hc, hw]

/-- In a state other than AUX its line is released. -/
theorem LinesFit.auxEn_false {d : Dsq} (h : LinesFit d) (hd : d.drive ≠ .aux) : d.auxEn = false := by
  simp [h.aux, hd]

theorem dsqTripped_lines {d : Dsq} (hw : d.wait ≠ .none → d.contactor = true) : LinesFit (dsqTripped d) :=
  dsqEnter_stopped (.inr rfl) hw rfl

theorem dsqDemand_lines (c : Class) {d : Dsq} (h : LinesFit d) : LinesFit (dsqDemand c d) := by
  have htrip : LinesFit (dsqTripped d) := dsqTripped_lines h.contactor_of_wait
  have htripB : LinesFit (dsqTripped { d with contactor := false, wait := .none }) :=
    dsqTripped_lines (fun h => absurd rfl h)
  unfold dsqDemand
  split
  · split
    · rename_i hd
      exact h.release (by rw [hd]; rfl) rfl rfl rfl rfl rfl
    all_goals exact htripB
  · split
    exacts [htrip, htrip, htrip, htrip, htrip, htrip, htrip, h, h]
  · split
    · exact htrip
    · exact htrip
    · exact htrip
    all_goals
      first
      | exact h
      | rename_i hd
        exact dsqEnter_running rfl (h.running (by rw [hd]; rfl)).1 (h.running (by rw [hd]; rfl)).2
          (h.auxEn_false (by rw [hd]; decide))
  · exact h

/-- The release wait at a period event keeps the lines (R135 to R137). -/
theorem waitStep_lines (z : SetTable) (v : DsqView) {d : Dsq} (h : LinesFit d) :
    LinesFit (waitStep z v d) ∧ (waitStep z v d).drive = d.drive := by
  have hstop : d.wait ≠ .none → onPermit d.drive = false := fun hw => by
    cases hp : onPermit d.drive with
    | false => rfl
    | true => exact absurd (h.running hp).2 hw
  have hgo : ∀ (w : ReleaseWait) (b : Bool), d.wait ≠ .none → w ≠ .none →
      LinesFit { d with wait := w, decayCond := b } := fun w b hw hn => by
    have hc := h.contactor_of_wait hw
    refine ⟨h.enable, h.aux, fun hp => ?_, fun ha => absurd (h.inAux ha).2 hw, fun _ => by simp [hc, hn]⟩
    exact absurd hp (by simp [hstop hw])
  have hend : d.wait ≠ .none → LinesFit { d with contactor := false, wait := .none } := fun hw =>
    h.release (hstop hw) rfl rfl rfl rfl rfl
  unfold waitStep
  split
  · exact ⟨h, rfl⟩
  · have hw : d.wait ≠ .none := by simp [*]
    split
    · exact ⟨hgo _ _ hw (by simp), rfl⟩
    · split
      · split
        · exact ⟨hend hw, rfl⟩
        · exact ⟨hgo _ _ hw (by simp), rfl⟩
      · split <;> exact ⟨hgo _ _ hw (by simp), rfl⟩
  · have hw : d.wait ≠ .none := by simp [*]
    split
    · exact ⟨hgo _ _ hw (by simp), rfl⟩
    · split
      · exact ⟨hend hw, rfl⟩
      · exact ⟨hgo _ _ hw (by simp), rfl⟩

/-- The drive state's test at a period event keeps the lines (R122, R123, R125, R127). -/
theorem driveStep_lines (z : SetTable) (v : DsqView) {d : Dsq} (h : LinesFit d) : LinesFit (driveStep z v d) := by
  have hrun : ∀ {new : Drive} {n : Nat}, onPermit new = true → onPermit d.drive = true →
      LinesFit (dsqEnter new { d with closeCount := n }) := fun hn hd =>
    dsqEnter_running hn (h.running hd).1 (h.running hd).2 (h.auxEn_false (by rintro he; rw [he] at hd; cases hd))
  have hstop : ∀ {new : Drive}, new = .blocked ∨ new = .tripped → d.drive ≠ .aux → LinesFit (dsqEnter new d) :=
    fun hn hd => dsqEnter_stopped hn h.contactor_of_wait (h.auxEn_false hd)
  unfold driveStep
  split
  · unfold closingStep
    split
    · exact hrun rfl (by simp_all [onPermit])
    · exact h.of_same rfl rfl rfl rfl rfl
  · split
    · exact hrun (n := d.closeCount) rfl (by simp_all [onPermit])
    · exact h
  · split
    · exact hstop (.inl rfl) (by simp_all)
    · exact h
  · split
    · exact hstop (.inr rfl) (by simp_all)
    · exact h
  · unfold coastStep
    split
    · split <;> exact h.of_same rfl rfl rfl rfl rfl
    · exact h
    · exact h
  all_goals exact h

/-- A wait in progress is not there, and CONTACTOR is released, where the contactor is free (R121, R132). -/
theorem contactorFree_iff (d : Dsq) : contactorFree d = true ↔ d.wait = .none ∧ d.contactor = false := by
  simp [contactorFree]

/-- Every act of the sequencer keeps its lines with its drive state. -/
theorem DsqAct.keeps_lines {d e : Dsq} (ha : DsqAct d e) (h : LinesFit d) : LinesFit e := by
  have hrun : ∀ {new : Drive} {x : ExitReason} {b : Bool}, onPermit new = true → onPermit d.drive = true →
      LinesFit (dsqEnter new { d with exit := x, lossCond := b }) := fun hn hd =>
    dsqEnter_running hn (h.running hd).1 (h.running hd).2 (h.auxEn_false (by rintro he; rw [he] at hd; cases hd))
  have hstop : ∀ {new : Drive} {x : ExitReason}, new = .blocked ∨ new = .tripped → d.drive ≠ .aux →
      LinesFit (dsqEnter new { d with exit := x }) :=
    fun hn hd => dsqEnter_stopped hn h.contactor_of_wait (h.auxEn_false hd)
  cases ha with
  | demand c => exact dsqDemand_lines c h
  | locked z s =>
    unfold dsqLocked
    split
    · rename_i hc
      simp only [Bool.and_eq_true, decide_eq_true_eq] at hc
      split <;> exact hrun rfl (by rw [hc.1]; rfl)
    · exact h.of_same rfl rfl rfl rfl rfl
  | lost =>
    unfold dsqSyncLost
    split
    · exact hrun (x := d.exit) (b := d.lossCond) rfl (by simp_all [onPermit])
    · exact hrun (x := d.exit) (b := d.lossCond) rfl (by simp_all [onPermit])
    · exact hstop (x := d.exit) (.inl rfl) (by simp_all)
    · exact hstop (x := d.exit) (.inl rfl) (by simp_all)
    · exact hstop (x := d.exit) (.inr rfl) (by simp_all)
    all_goals exact h
  | work z v =>
    have h0 : LinesFit { d with periodTaken := v.number } := h.of_same rfl rfl rfl rfl rfl
    have h1 := (waitStep_lines z v h0).1
    refine driveStep_lines z v ?_
    unfold decayClear
    split
    · exact h1.of_same rfl rfl rfl rfl rfl
    · exact h1
  | start hb hf =>
    obtain ⟨hw, -⟩ := (contactorFree_iff d).mp hf
    exact dsqEnter_running rfl rfl hw (h.auxEn_false (by rw [hb]; decide))
  | stop =>
    unfold dsqStop
    split
    · exact hstop (x := d.exit) (.inl rfl) (by simp_all)
    · exact hrun (x := d.exit) (b := d.lossCond) rfl (by simp_all [onPermit])
    · exact hrun (x := d.exit) (b := d.lossCond) rfl (by simp_all [onPermit])
    · exact hstop (.inl rfl) (by simp_all)
    all_goals exact h
  | toAux hb hf =>
    obtain ⟨hw, hc⟩ := (contactorFree_iff d).mp hf
    exact ⟨rfl, rfl, fun h => (by cases h), fun _ => ⟨hc, hw⟩, fun h => by rcases h with h | h <;> cases h⟩
  | fromAux a hx =>
    exact dsqEnter_stopped (by cases a <;> simp) (fun hw => absurd (h.inAux hx).2 hw) rfl
  | ended =>
    unfold dsqEpisodeEnd
    split
    · exact hstop (x := d.exit) (.inl rfl) (by simp_all)
    all_goals exact h

/-! ### The converters' states -/

theorem convIdle_iff (c : Conv) : convIdle c = true ↔ c.state ≠ .firing ∧ c.state ≠ .held := by
  simp [convIdle]

/-- A controller that is in neither FIRING nor HELD enters neither by itself: it fires only with the enable (R40). -/
theorem ConvAct.keeps_idle {c d : Conv} (ha : ConvAct c d) (h : convIdle c = true) : convIdle d = true := by
  have hs : ∀ e : Conv, e.state = c.state → convIdle e = true := fun e he => by
    rw [convIdle_iff] at h ⊢
    rwa [he]
  rw [convIdle_iff] at h
  cases ha with
  | off => rfl
  | origin z iref imeas g =>
    unfold convOrigin
    split
    · unfold convRealOrigin
      split
      · exact hs _ rfl
      · exact absurd ‹_› h.1
      · split
        · rfl
        · exact hs _ rfl
      · exact absurd ‹_› h.2
    · exact hs _ rfl
  | issue z f =>
    refine hs _ ?_
    unfold convIssue countFiring
    dsimp only
    split_ifs <;> rfl
  | phaseEnd b =>
    refine hs _ ?_
    unfold convPhaseEnd
    split <;> [rfl; (split <;> rfl)]
  | arrival z x t i =>
    have hblock : ∀ e : Conv, e.state = c.state → convIdle (convRetardBlock e) = true := fun e he => by
      unfold convRetardBlock
      split
      · rfl
      · exact hs _ he
    have hactive : convIdle (convArrivalActive z x t i c).1 = true := by
      unfold convArrivalActive convRespond
      dsimp only
      split
      · split
        · exact hblock _ rfl
        · exact hs _ rfl
      · split
        · exact hblock _ rfl
        · split
          · exact absurd ‹_› h.1
          · exact hs _ rfl
      · exact hblock _ rfl
      · rfl
    unfold convArrival
    split
    · exact hs _ rfl
    · split
      · exact hs _ rfl
      · exact absurd ‹_› h.2
      · exact absurd ‹_› h.1
      · exact hactive
  | clear =>
    unfold convClear
    split
    · split
      · exact absurd ‹_› h.2
      all_goals exact hs _ rfl
    · exact hs _ rfl
  | angles z => exact hs _ rfl

/-- The state of a controller after it has taken the enable turns on its state and its fault line alone. -/
theorem convTakeEnable_state (old new : Bool) (sync : SyncState) {c d : Conv} (hs : d.state = c.state)
    (hf : d.fault = c.fault) : (convTakeEnable old new sync d).state = (convTakeEnable old new sync c).state := by
  unfold convTakeEnable convEnable convDisable
  rw [hs, hf]
  cases hc : c.state <;> dsimp only <;> split_ifs <;> simp_all

/-- Without the enable a controller that was idle, or had it until then, is idle (R41). -/
theorem convTakeEnable_idle {old : Bool} (sync : SyncState) {c : Conv} (h : old = false → convIdle c = true) :
    convIdle (convTakeEnable old false sync c) = true := by
  cases old with
  | false => simpa [convTakeEnable] using h rfl
  | true =>
    unfold convTakeEnable convDisable
    cases hc : c.state <;> simp [convIdle, hc]

/-- An apply of STOPPED settings leaves the converters' states and fault lines. -/
theorem handStopped_conv (drive : Drive) (ids : List Nat) (s : State) (x : Side) :
    ((handStopped drive ids s).conv x).state = (s.conv x).state ∧
    ((handStopped drive ids s).conv x).fault = (s.conv x).fault := by
  have hthermal : ∀ u : State, (handThermal u).conv x = u.conv x := fun u => by
    have h := SameDrive.foldl takeMild_same (stuThermalApply u.set u.stu).2
      { u with stu := (stuThermalApply u.set u.stu).1 }
    cases x
    · exact h.cca
    · exact h.ccb
  have hangles : ∀ u : State, ((handAngles u).conv x).state = (u.conv x).state ∧
      ((handAngles u).conv x).fault = (u.conv x).fault := fun u => by cases x <;> exact ⟨rfl, rfl⟩
  have henvelope : ∀ (u : State) (w : Stu), { u with stu := w }.conv x = u.conv x := fun u w => by cases x <;> rfl
  unfold handStopped
  dsimp only
  split <;> split <;> split <;> simp only [hthermal, henvelope, hangles, and_self]

theorem setEntry_conv (old new : Drive) (s : State) (x : Side) :
    ((setEntry old new s).conv x).state = (s.conv x).state ∧
    ((setEntry old new s).conv x).fault = (s.conv x).fault := by
  unfold setEntry
  split
  · have h := handStopped_conv old (appliedIds atEntry s.set)
      (tellOwners (appliedIds atEntry s.set) { s with set := { applyClasses atEntry s.set with driveView := new } }) x
    have ht := tellOwners_same (appliedIds atEntry s.set)
      { s with set := { applyClasses atEntry s.set with driveView := new } }
    have hc : (tellOwners (appliedIds atEntry s.set)
        { s with set := { applyClasses atEntry s.set with driveView := new } }).conv x = s.conv x := by
      cases x
      · exact ht.cca
      · exact ht.ccb
    rwa [hc] at h
  · cases x <;> exact ⟨rfl, rfl⟩

theorem driveTold_conv (old : Dsq) (s : State) (x : Side) :
    (driveTold old s).conv x = convTakeEnable old.enable s.dsq.enable s.msy.sync (s.conv x) := by
  cases x <;> rfl

/-- The state of a converter after a move of the drive is the one in which it takes the enable (R40, R41, R120). -/
theorem moveDrive_conv_state (o : Sched) (d : Dsq) (s : State) (x : Side) (hd : d.drive ≠ s.dsq.drive) :
    ((moveDrive o d s).conv x).state =
      (convTakeEnable s.dsq.enable d.enable s.msy.sync (s.conv x)).state := by
  have hs : { s with dsq := d }.conv x = s.conv x := by cases x <;> rfl
  unfold moveDrive
  rw [if_neg hd]
  split
  · have he := setEntry_conv s.dsq.drive d.drive { s with dsq := d } x
    rw [driveTold_conv, (setEntry_units ..).1, (setEntry_base ..).msy]
    exact convTakeEnable_state _ _ _ (he.1.trans (by rw [hs])) (he.2.trans (by rw [hs]))
  · rw [(setEntry_conv ..).1, driveTold_conv, hs]

/-- The enable with the converters' states, and the sequencer's lines. -/
structure EnableFit (s : State) : Prop where
  lines : LinesFit s.dsq
  idle : enableOf s.dsq.drive = false → ∀ x, convIdle (s.conv x) = true

theorem enableFit_iff (s : State) : EnableFit s ↔ enableRight s = true ∧ linesRight s.dsq = true := by
  unfold enableRight
  simp only [Bool.and_eq_true, Bool.or_eq_true, decide_eq_true_eq]
  constructor
  · intro h
    obtain ⟨he, hl⟩ := (linesFit_iff _).mp h.lines
    refine ⟨⟨he, ?_⟩, hl⟩
    cases hd : enableOf s.dsq.drive with
    | true => exact .inl rfl
    | false => exact .inr ⟨h.idle hd .a, h.idle hd .b⟩
  · rintro ⟨⟨he, hi⟩, hl⟩
    refine ⟨(linesFit_iff _).mpr ⟨he, hl⟩, fun hd x => ?_⟩
    have hi := hi.resolve_left (by simp [hd])
    cases x
    · exact hi.1
    · exact hi.2

theorem Act.keeps_enable {s t : State} (ha : Act s t) (h : EnableFit s) : EnableFit t := by
  cases ha with
  | block hb =>
    cases hb with
    | convA c hc =>
      refine ⟨h.lines, fun hd x => ?_⟩
      cases x
      · exact hc.keeps_idle (h.idle hd .a)
      · exact h.idle hd .b
    | convB c hc =>
      refine ⟨h.lines, fun hd x => ?_⟩
      cases x
      · exact h.idle hd .a
      · exact hc.keeps_idle (h.idle hd .b)
    | _ => exact ⟨h.lines, fun hd x => by cases x <;> [exact h.idle hd .a; exact h.idle hd .b]⟩
  | stu u hu => exact ⟨h.lines, fun hd x => by cases x <;> [exact h.idle hd .a; exact h.idle hd .b]⟩
  | move o d hd =>
    have hl := hd.keeps_lines h.lines
    refine ⟨by rw [(moveDrive_units o d s).1]; exact hl, fun he x => ?_⟩
    rw [(moveDrive_units o d s).1] at he
    by_cases hsame : d.drive = s.dsq.drive
    · rw [moveDrive, if_pos hsame]
      have := h.idle (hsame ▸ he) x
      cases x <;> exact this
    · have hstate := moveDrive_conv_state o d s x hsame
      rw [hl.enable, he] at hstate
      have hidle : convIdle (convTakeEnable s.dsq.enable false s.msy.sync (s.conv x)) = true :=
        convTakeEnable_idle _ fun ho => h.idle (h.lines.enable ▸ ho) x
      rw [convIdle_iff] at hidle ⊢
      rwa [hstate]

/-- Settles O56: every act of the sequencer keeps its lines (`DsqAct.keeps_lines`), and a converter fires only with the
enable that a move of the drive gives it. -/
theorem stepKeepsEnableAndLines : Obligations.StepKeepsEnableAndLines := by
  intro s t he hl h
  refine (enableFit_iff t).mp (step_keeps (P := EnableFit) ?_ ?_ (fun _ _ ha => ha.keeps_enable)
    (fun s n p u _ _ => ?_) ((enableFit_iff s).mpr ⟨he, hl⟩) h)
  · exact fun s h => ⟨h.lines, fun hd x => by cases x <;> [exact h.idle hd .a; exact h.idle hd .b]⟩
  · exact fun s q h => ⟨h.lines, fun hd x => by cases x <;> [exact h.idle hd .a; exact h.idle hd .b]⟩
  · exact (enableFit_iff _).mpr ⟨rfl, rfl⟩

end Sys2Proof.Machine
end

section
/-! Every step keeps the torque bounds (R77, R78, R82, R86). -/

namespace Sys2Proof.Machine

/-- A motor's share lies between 0 and its limit. -/
structure ShareFit (d : Motor) : Prop where
  nonneg : 0 ≤ d.share
  le : d.share ≤ d.limit

/-- The demand within the envelope, the shares within the limits and the demand, and nothing without the speed loop of
the drive state `drive`. -/
structure TorqueFit (drive : Drive) (u : Stu) : Prop where
  nonneg : 0 ≤ u.td
  le : u.td ≤ u.tenv
  a : ShareFit u.motors.a
  b : ShareFit u.motors.b
  sum : u.motors.a.share + u.motors.b.share ≤ u.td
  idle : loopRuns drive = false → u.td = 0 ∧ u.motors.a.iref = 0 ∧ u.motors.b.iref = 0

theorem torqueRight_iff (s : State) : torqueRight s = true ↔ TorqueFit s.dsq.drive s.stu := by
  simp only [torqueRight, shareRight, Bool.and_eq_true, Bool.or_eq_true, decide_eq_true_eq]
  constructor
  · rintro ⟨⟨⟨⟨⟨h0, h1⟩, ha⟩, hb⟩, hs⟩, hl⟩
    refine ⟨h0, h1, ⟨ha.1, ha.2⟩, ⟨hb.1, hb.2⟩, hs, fun hd => ?_⟩
    obtain ⟨⟨ht, hia⟩, hib⟩ := hl.resolve_left (by simp [hd])
    exact ⟨ht, hia, hib⟩
  · intro h
    refine ⟨⟨⟨⟨⟨h.nonneg, h.le⟩, h.a.nonneg, h.a.le⟩, h.b.nonneg, h.b.le⟩, h.sum⟩, ?_⟩
    cases hd : loopRuns s.dsq.drive with
    | true => exact .inl rfl
    | false =>
      obtain ⟨ht, hia, hib⟩ := h.idle hd
      exact .inr ⟨⟨ht, hia⟩, hib⟩

/-- What the bounds turn on is the same. -/
structure SameTorque (u w : Stu) : Prop where
  td : w.td = u.td
  tenv : w.tenv = u.tenv
  share : ∀ x, (w.motors.get x).share = (u.motors.get x).share
  limit : ∀ x, (w.motors.get x).limit = (u.motors.get x).limit
  iref : ∀ x, (w.motors.get x).iref = (u.motors.get x).iref

theorem SameTorque.keeps_fit {drive : Drive} {u w : Stu} (hs : SameTorque u w) (h : TorqueFit drive u) :
    TorqueFit drive w := by
  have hsa : w.motors.a.share = u.motors.a.share := hs.share .a
  have hsb : w.motors.b.share = u.motors.b.share := hs.share .b
  have hla : w.motors.a.limit = u.motors.a.limit := hs.limit .a
  have hlb : w.motors.b.limit = u.motors.b.limit := hs.limit .b
  have hia : w.motors.a.iref = u.motors.a.iref := hs.iref .a
  have hib : w.motors.b.iref = u.motors.b.iref := hs.iref .b
  refine ⟨?_, ?_, ⟨?_, ?_⟩, ⟨?_, ?_⟩, ?_, ?_⟩
  · rw [hs.td]; exact h.nonneg
  · rw [hs.td, hs.tenv]; exact h.le
  · rw [hsa]; exact h.a.nonneg
  · rw [hsa, hla]; exact h.a.le
  · rw [hsb]; exact h.b.nonneg
  · rw [hsb, hlb]; exact h.b.le
  · rw [hsa, hsb, hs.td]; exact h.sum
  · rw [hs.td, hia, hib]; exact h.idle

/-- A share of 0 has a current reference of 0 (R87). -/
theorem currentRef_zero (z : SetTable) (h : Thermal) : currentRef z h 0 = 0 := by
  simp [currentRef]

/-- The split leaves the shares within the bounds, whatever they were, and nothing of a demand of 0 (R86, R87). -/
theorem stuSplit_fit {z : SetTable} {drive : Drive} {u : Stu} (h0 : 0 ≤ u.td) (h1 : u.td ≤ u.tenv)
    (hidle : loopRuns drive = false → u.td = 0) : TorqueFit drive (stuSplit z u) := by
  have hw := splitTorque_within z.share u.trim u.motors.a.limit u.motors.b.limit h0
  refine ⟨h0, h1, ⟨hw.a_nonneg, hw.a_le⟩, ⟨hw.b_nonneg, hw.b_le⟩, hw.sum_le, fun hd => ⟨hidle hd, ?_, ?_⟩⟩
  · have h : (splitTorque z.share u.trim u.motors.a.limit u.motors.b.limit u.td).a = 0 := by
      have := hw.a_nonneg; have := hw.b_nonneg; have := hw.sum_le; have := hidle hd
      omega
    exact (congrArg (currentRef z u.motors.a.thermal) h).trans (currentRef_zero ..)
  · have h : (splitTorque z.share u.trim u.motors.a.limit u.motors.b.limit u.td).b = 0 := by
      have := hw.a_nonneg; have := hw.b_nonneg; have := hw.sum_le; have := hidle hd
      omega
    exact (congrArg (currentRef z u.motors.b.thermal) h).trans (currentRef_zero ..)

theorem clampInt_nonneg {hi : Int} (h : 0 ≤ hi) (x : Int) : 0 ≤ clampInt 0 hi x := by
  unfold clampInt; split_ifs <;> omega

theorem clampInt_le {lo hi : Int} (h : lo ≤ hi) (x : Int) : clampInt lo hi x ≤ hi := by
  unfold clampInt; split_ifs <;> omega

/-- The speed loop gives a demand within the envelope, and 0 where it does not run (R77, R78). -/
theorem stuLoop_td (z : SetTable) (v : StuView) (u : Stu) :
    0 ≤ (stuLoop z v u).td ∧ (stuLoop z v u).td ≤ (stuLoop z v u).tenv ∧
    (loopRuns v.drive = false → (stuLoop z v u).td = 0) := by
  unfold stuLoop
  split
  · exact ⟨clampInt_nonneg (by omega) _, clampInt_le (by omega) _, fun hd => by simp_all⟩
  · exact ⟨le_refl _, by dsimp only; omega, fun _ => rfl⟩

theorem stuTests_same (z : SetTable) (v : StuView) (u : Stu) : SameTorque u (stuTests z v u) := by
  have htrim : ∀ w : Stu, SameTorque w (stuTrim z v w) := fun w => by
    unfold stuTrim
    split <;> exact ⟨rfl, rfl, fun _ => rfl, fun _ => rfl, fun _ => rfl⟩
  have hloss : ∀ w : Stu, SameTorque w (stuLoss z v w) := fun w => by
    unfold stuLoss
    split <;> [split; skip] <;> exact ⟨rfl, rfl, fun _ => rfl, fun _ => rfl, fun _ => rfl⟩
  have hstall : ∀ w : Stu, SameTorque w (stuStall z v w) := fun w => by
    unfold stuStall
    split <;> [split; skip] <;> exact ⟨rfl, rfl, fun _ => rfl, fun _ => rfl, fun _ => rfl⟩
  have h1 := htrim u
  have h2 := hloss (stuTrim z v u)
  have h3 := hstall { stuLoss z v (stuTrim z v u) with grace := false }
  exact ⟨h3.td.trans (h2.td.trans h1.td), h3.tenv.trans (h2.tenv.trans h1.tenv),
    fun x => (h3.share x).trans ((h2.share x).trans (h1.share x)),
    fun x => (h3.limit x).trans ((h2.limit x).trans (h1.limit x)),
    fun x => (h3.iref x).trans ((h2.iref x).trans (h1.iref x))⟩

theorem stuPeriod_fit (z : SetTable) (v : StuView) (u : Stu) : TorqueFit v.drive (stuPeriod z v u).1 := by
  have hloop := stuLoop_td z v (stuRamp z v (stuHold v (stuEnvelope z v (stuWindow z
    (stuThermal z v (stuChecks z v u))))))
  have htorque : TorqueFit v.drive (stuTorque z v (stuChecks z v u)) :=
    stuSplit_fit (u := stuLimits z v _) hloop.1 hloop.2.1 hloop.2.2
  have htests := (stuTests_same z v _).keeps_fit htorque
  have hwork : SameTorque (stuTests z v (stuTorque z v (stuChecks z v u))) (stuWork z v u) :=
    ⟨rfl, rfl, fun _ => rfl, fun _ => rfl, fun _ => rfl⟩
  exact hwork.keeps_fit htests

/-- The envelope formed again takes the demand with it where the speed loop runs (R82). -/
theorem stuReform_fit {z : SetTable} {level : Nat} {drive : Drive} {u : Stu} (h : TorqueFit drive u) :
    TorqueFit drive (stuReform z level drive u) := by
  unfold stuReform
  split
  · rename_i hc
    simp only [Bool.and_eq_true] at hc
    exact stuSplit_fit (by dsimp only; omega) (le_refl _) (fun hd => by simp [hc.1] at hd)
  · rename_i hc
    simp only [Bool.and_eq_true, decide_eq_true_eq, not_and] at hc
    refine ⟨h.nonneg, ?_, h.a, h.b, h.sum, h.idle⟩
    cases hd : loopRuns drive with
    | true => exact Int.not_lt.mp (hc hd)
    | false =>
      have := (h.idle hd).1
      dsimp only
      omega

theorem stuThermalApply_same (z : SetTable) (u : Stu) : SameTorque u (stuThermalApply z u).1 :=
  ⟨rfl, rfl, fun x => by cases x <;> rfl, fun x => by cases x <;> rfl, fun x => by cases x <;> rfl⟩

theorem stuTooth_same (x : Side) (u : Stu) : SameTorque u (stuTooth x u).1 := by
  unfold stuTooth
  split
  · refine ⟨rfl, rfl, fun y => ?_, fun y => ?_, fun y => ?_⟩ <;> cases x <;> cases y <;> rfl
  · exact ⟨rfl, rfl, fun _ => rfl, fun _ => rfl, fun _ => rfl⟩

/-- A unit without demand and shares keeps the bounds in every drive state. -/
theorem stuIdle_fit (drive : Drive) (u : Stu) : TorqueFit drive (stuIdle u) :=
  ⟨le_refl _, by simp [stuIdle], ⟨le_refl _, by simp [stuIdle]⟩, ⟨le_refl _, by simp [stuIdle]⟩, by simp [stuIdle],
   fun _ => ⟨rfl, rfl, rfl⟩⟩

/-- Bounds kept in one drive state hold in another in which the speed loop runs. -/
theorem TorqueFit.of_loopRuns {old new : Drive} {u : Stu} (h : TorqueFit old u) (hn : loopRuns new = true) :
    TorqueFit new u := ⟨h.nonneg, h.le, h.a, h.b, h.sum, fun hd => by simp [hn] at hd⟩

/-- A change of the drive state takes the unit from the bounds of the one state to those of the other (R76, R78). -/
theorem stuEntry_fit {old new : Drive} {u : Stu} (h : TorqueFit old u) : TorqueFit new (stuEntry old new u) := by
  have hsame : ∀ w : Stu, SameTorque u w → loopRuns new = true → TorqueFit new w := fun w hs hn =>
    hs.keeps_fit (h.of_loopRuns hn)
  cases new with
  | closing => exact SameTorque.keeps_fit (u := stuIdle u) ⟨rfl, rfl, fun _ => rfl, fun _ => rfl, fun _ => rfl⟩ (stuIdle_fit ..)
  | starting | run | stopping | tripStop => exact hsame _ ⟨rfl, rfl, fun _ => rfl, fun _ => rfl, fun _ => rfl⟩ rfl
  | blocked | coast | tripped | aux => exact stuIdle_fit ..

theorem stuDrive_fit {z : SetTable} {level : Nat} {old new : Drive} {u : Stu} (h : TorqueFit old u) :
    TorqueFit new (stuDrive z level old new u) := by
  have he : TorqueFit new (stuEntry old new u) := stuEntry_fit h
  have hwindow : ∀ w, TorqueFit new { stuEntry old new u with window := w } := fun _ =>
    SameTorque.keeps_fit (u := stuEntry old new u) ⟨rfl, rfl, fun _ => rfl, fun _ => rfl, fun _ => rfl⟩ he
  unfold stuDrive
  split
  · rename_i hn
    subst hn
    unfold stuOpenWindow
    split
    · exact he
    · exact stuReform_fit (hwindow _)
  · split
    · unfold stuCloseWindow
      split
      · exact he
      · exact stuReform_fit (hwindow _)
    · exact he

theorem StuAct.keeps_fit {z : SetTable} {drive : Drive} {u w : Stu} (ha : StuAct z drive u w) (h : TorqueFit drive u) :
    TorqueFit drive w := by
  cases ha with
  | period v hv => exact hv ▸ stuPeriod_fit z v u
  | reform level => exact stuReform_fit h
  | thermal => exact (stuThermalApply_same z u).keeps_fit h
  | speedRef value => exact SameTorque.keeps_fit (u := u) ⟨rfl, rfl, fun _ => rfl, fun _ => rfl, fun _ => rfl⟩ h
  | tooth x => exact (stuTooth_same x u).keeps_fit h

/-! ### A move of the drive -/

theorem BlockAct.stu_eq {s t : State} (ha : BlockAct s t) : t.stu = s.stu := by cases ha <;> rfl

theorem handStopped_torque {drive : Drive} (ids : List Nat) {s : State} (h : TorqueFit drive s.stu) :
    TorqueFit drive (handStopped drive ids s).stu :=
  kept_of_acts (r := fun s t => TorqueFit drive s.stu → TorqueFit drive t.stu) (fun _ _ h => h)
    (handStopped_rel (fun _ _ hb h => hb.stu_eq ▸ h) (fun _ _ => stuReform_fit)
      (fun _ => (stuThermalApply_same ..).keeps_fit) ids s rfl) h

theorem setEntry_torque {drive : Drive} (new : Drive) {s : State} (h : TorqueFit drive s.stu) :
    TorqueFit drive (setEntry drive new s).stu := by
  unfold setEntry
  split
  · refine handStopped_torque _ ?_
    rw [(tellOwners_same ..).stu]
    exact h
  · exact h

theorem driveTold_torque {old : Dsq} {s : State} (h : TorqueFit old.drive s.stu) :
    TorqueFit s.dsq.drive (driveTold old s).stu :=
  stuDrive_fit (z := s.set) (level := s.vwa.level) h

theorem moveDrive_torque (o : Sched) (d : Dsq) {s : State} (h : TorqueFit s.dsq.drive s.stu) :
    TorqueFit d.drive (moveDrive o d s).stu := by
  unfold moveDrive
  split
  · rename_i hd
    rw [hd]
    exact h
  · split
    · have he := setEntry_torque (drive := s.dsq.drive) d.drive (s := { s with dsq := d }) h
      have ht := driveTold_torque (old := s.dsq) he
      rwa [(setEntry_units ..).1] at ht
    · exact setEntry_torque _ (driveTold_torque (old := s.dsq) (s := { s with dsq := d }) h)

theorem Act.keeps_torque {s t : State} (ha : Act s t) (h : TorqueFit s.dsq.drive s.stu) :
    TorqueFit t.dsq.drive t.stu := by
  cases ha with
  | block hb => cases hb <;> exact h
  | stu u hu => exact hu.keeps_fit h
  | move o d hd =>
    rw [(moveDrive_units o d s).1]
    exact moveDrive_torque o d h

/-- Settles O58: every act of the speed and torque unit and every move of the drive keeps its bounds. -/
theorem stepKeepsTheTorqueBounds : Obligations.StepKeepsTheTorqueBounds := by
  intro s t _ hs h
  rw [torqueRight_iff] at hs ⊢
  refine step_keeps (P := fun s => TorqueFit s.dsq.drive s.stu) (fun _ h => h) (fun _ _ h => h)
    (fun _ _ ha => ha.keeps_torque) (fun _ _ _ _ _ _ => ?_) hs h
  exact ⟨le_refl _, (by decide : (0 : Int) ≤ (36045 : Nat)), ⟨le_refl _, le_refl _⟩, ⟨le_refl _, le_refl _⟩, le_refl _, fun _ => ⟨rfl, rfl, rfl⟩⟩

end Sys2Proof.Machine
end

section
/-! What is sent is what is read: the bytes of a frame on a link (section 10.2, R193), and the value field of a setting
(R182, R203). -/

namespace Sys2Proof.Machine

/-! ### A frame byte by byte -/

/-- The link after the bytes of a list. -/
def linkAfter (t : Tick) (l : Link) (vs : List Byte) : Link := vs.foldl (fun l v => (linkByte v t l).1) l

/-- The link after a list of bytes, without the requests delivered on the way. -/
theorem linkBytes_fst (t : Tick) (l : Link) (vs : List Byte) : (linkBytes t l vs).1 = linkAfter t l vs := by
  have h : ∀ (vs : List Byte) (p : Link × Option Request),
      (vs.foldl (fun p v => linkByte v t p.1) p).1 = linkAfter t p.1 vs := fun vs => by
    induction vs with
    | nil => exact fun _ => rfl
    | cons v vs ih => exact fun p => ih (linkByte v t p.1)
  exact h vs (l, none)

/-- The last byte of a list decides what is delivered. -/
theorem linkBytes_concat (t : Tick) (l : Link) (vs : List Byte) (v : Byte) :
    linkBytes t l (vs ++ [v]) = linkByte v t (linkAfter t l vs) := by
  rw [← linkBytes_fst]
  simp [linkBytes]

/-- SYNC in HUNT starts a frame (R193). -/
theorem linkByte_sync {l : Link} (h : l.rx = .hunt) (t : Tick) :
    (linkByte syncByte t l).1 = { l with rx := .length, gap := some t } := by
  simp [linkByte, h, linkInside]

/-- A length that fits starts the body (R193). -/
theorem linkByte_length (l : Link) (g : Option Tick) (t : Tick) {v : Byte} (h : 2 ≤ v.toNat ∧ v.toNat ≤ 250) :
    (linkByte v t { l with rx := .length, gap := g }).1 = { l with rx := .body v.toNat [], gap := some t } := by
  simp [linkByte, h, linkInside]

/-- The bytes of a body up to its length make the body (R193). -/
theorem linkAfter_body (t : Tick) (l : Link) (g : Option Tick) (len : Nat) {vs : List Byte} (hne : vs ≠ [])
    (got : List Byte) (hlen : got.length + vs.length = len) :
    linkAfter t { l with rx := .body len got, gap := g } vs =
      { l with rx := .check (got ++ vs) none, gap := some t } := by
  induction vs generalizing got g with
  | nil => exact absurd rfl hne
  | cons v vs ih =>
    rw [List.length_cons] at hlen
    have hstep : linkAfter t { l with rx := .body len got, gap := g } (v :: vs) =
        linkAfter t (linkByte v t { l with rx := .body len got, gap := g }).1 vs := rfl
    rw [hstep]
    cases vs with
    | nil =>
      have hlast : len ≤ got.length + 1 := by simp at hlen; omega
      simp [linkAfter, linkByte, linkInside, hlast]
    | cons w ws =>
      have hmore : ¬ len ≤ got.length + 1 := by rw [List.length_cons] at hlen; omega
      have hbyte : (linkByte v t { l with rx := .body len got, gap := g }).1 =
          { l with rx := .body len (got ++ [v]), gap := some t } := by
        simp [linkByte, linkInside, hmore]
      rw [hbyte, ih (some t) (List.cons_ne_nil _ _) _ (by simp only [List.length_append, List.length_singleton]; omega)]
      simp

/-- The two check bytes of a body, one by one. -/
theorem checkBytes_pair (body : List Byte) : ∃ hi lo, checkBytes body = [hi, lo] := ⟨_, _, rfl⟩

/-- Settles O52: SYNC, LENGTH and the body by the receive states one after the other, and the check bytes by
`linkByte_check`. -/
theorem frameSentIsFrameReceived : Obligations.FrameSentIsFrameReceived := by
  intro k g rest t l hl hlen
  obtain ⟨hi, lo, hcheck⟩ := checkBytes_pair (k :: g :: rest)
  have hsize : (BitVec.ofNat 8 (k :: g :: rest).length).toNat = rest.length + 2 := by
    simp only [List.length_cons, BitVec.toNat_ofNat]
    omega
  have hframe : frameOf (k :: g :: rest) =
      (syncByte :: BitVec.ofNat 8 (k :: g :: rest).length :: ((k :: g :: rest) ++ [hi])) ++ [lo] := by
    simp [frameOf, hcheck]
  have hafter : linkAfter t l (syncByte :: BitVec.ofNat 8 (k :: g :: rest).length :: ((k :: g :: rest) ++ [hi])) =
      { l with rx := .check (k :: g :: rest) (some hi), gap := some t } := by
    have hbody := linkAfter_body t l (some t) (rest.length + 2) (List.cons_ne_nil k (g :: rest)) []
      (by simp)
    unfold linkAfter at hbody ⊢
    rw [List.foldl_cons, List.foldl_cons, linkByte_sync hl, linkByte_length _ _ _ (by omega), hsize, List.foldl_append,
      hbody]
    rfl
  rw [hframe, linkBytes_concat, hafter, linkByte_check rfl, if_pos ((checkBytes_eq_iff _ _ _).mp hcheck)]
  rfl

/-! ### The value field of a setting -/

theorem be_length (k n : Nat) : (be k n).length = k := by
  induction k with
  | zero => rfl
  | succ k ih => simp [be, ih]

theorem be_two (n : Nat) : be 2 n = [BitVec.ofNat 8 (n / 256), BitVec.ofNat 8 n] := by
  simp [be]

/-- Two bytes read back a number that fits them. -/
theorem beNat_be_two {n : Nat} (h : n < 65536) : beNat (be 2 n) = n := by
  simp only [be, beNat, List.foldl_cons, List.foldl_nil, BitVec.toNat_ofNat]
  omega

/-- Four bytes read back a number that fits them. -/
theorem beNat_be_four {n : Nat} (h : n < 4294967296) : beNat (be 4 n) = n := by
  simp only [be, beNat, List.foldl_cons, List.foldl_nil, BitVec.toNat_ofNat]
  omega

/-- What a row of the catalogue bounds: a number of 32 bits, a code of one byte. -/
def rowFits (r : SetSpec) : Bool :=
  match r.form with
  | .num _ hi _ => decide (hi < 4294967296)
  | .code cs _ => cs.all (fun c => decide (c < 256))
  | .profile _ => true
  | .action _ => true

theorem rowFits_of_mem : ∀ r ∈ catalogue, rowFits r = true := by decide +kernel

@[simp] theorem markerOf_markerCode (k : Marker) : markerOf (markerCode k % 256) = some k := by
  cases k <;> rfl

/-- A profile within its range is what its 13 bytes read back. -/
theorem readProfile_profileBytes {p : Profile} (h : profileInRange p = true) : readProfile (profileBytes p) = some p := by
  simp only [profileInRange, Bool.and_eq_true, decide_eq_true_eq] at h
  obtain ⟨⟨⟨⟨⟨⟨⟨⟨⟨⟨hw, hsa⟩, hsd⟩, hra⟩, hrd⟩, -⟩, hna⟩, -⟩, hnd⟩, -⟩, hnr⟩ := h
  have h2 : ∀ n ≤ 8190, beNat [BitVec.ofNat 8 (n / 256), BitVec.ofNat 8 n] = n := fun n hn => by
    rw [← be_two, beNat_be_two (by omega)]
  have h1 : ∀ n ≤ 64, n % 256 = n := fun n hn => by omega
  simp only [profileBytes, be1, be_two, List.cons_append, List.nil_append, readProfile, markerOf_markerCode,
    h2 _ hsa, h2 _ hsd, h2 _ hra, h2 _ hrd, BitVec.toNat_ofNat, Nat.reducePow,
    h1 p.w (by omega), h1 p.nAlert (by omega), h1 p.nDanger (by omega), h1 p.nRelease hnr]

/-- An action within its range is what its 3 bytes read back. -/
theorem readAction_actionBytes {a : Action} (h : actionInRange a = true) : readAction (actionBytes a) = some a := by
  simp only [actionInRange, Bool.and_eq_true, decide_eq_true_eq] at h
  obtain ⟨⟨hlo, hhi⟩, hf⟩ := h
  have h1 := fun (n : Nat) (hn : n ≤ 3) => show n % 256 = n by omega
  obtain ⟨al, trip, fl⟩ := a
  cases trip <;> simp [readAction, actionBytes, be1, h1 al hhi, h1 fl hf]

theorem clampProfile_of_inRange {p : Profile} (h : profileInRange p = true) : clampProfile p = p := by
  simp only [profileInRange, Bool.and_eq_true, decide_eq_true_eq] at h
  obtain ⟨⟨⟨⟨⟨⟨⟨⟨⟨⟨hw, hsa⟩, hsd⟩, hra⟩, hrd⟩, hna⟩, hna'⟩, hnd⟩, hnd'⟩, hnr⟩, hnr'⟩ := h
  simp [clampProfile, clampNat_of_mem, *]

theorem clampAction_of_inRange {a : Action} (h : actionInRange a = true) : clampAction a = a := by
  simp only [actionInRange, Bool.and_eq_true, decide_eq_true_eq] at h
  obtain ⟨⟨hlo, hhi⟩, hf⟩ := h
  simp [clampAction, clampNat_of_mem, *]

/-- Settles O53, form by form. -/
theorem settingValueReadsBack : Obligations.SettingValueReadsBack := by
  intro r v hr hv
  have hfits := rowFits_of_mem r hr
  unfold rowFits at hfits
  cases hform : r.form with
  | num lo hi d =>
    rw [hform] at hv hfits
    cases v with
    | num n =>
      simp only [valueInRange, Bool.and_eq_true, decide_eq_true_eq] at hv hfits
      refine ⟨?_, ?_, be_length 4 n⟩
      · simp [readValue, valueBytes, be_length, beNat_be_four (n := n) (by omega)]
      · simp [clampValue, clampNat_of_mem hv.1 hv.2]
    | code n => exact absurd hv (by simp [valueInRange])
    | profile p => exact absurd hv (by simp [valueInRange])
    | action a => exact absurd hv (by simp [valueInRange])
  | code cs d =>
    rw [hform] at hv hfits
    cases v with
    | num n => exact absurd hv (by simp [valueInRange])
    | code n =>
      have hn : n < 256 := of_decide_eq_true (List.all_eq_true.mp hfits n (List.contains_iff_mem.mp hv))
      have hmod : n % 256 = n := Nat.mod_eq_of_lt hn
      refine ⟨?_, rfl, rfl⟩
      have hv : cs.contains n = true := hv
      simp [readValue, valueBytes, be1, hmod, List.contains_iff_mem.mp hv]
    | profile p => exact absurd hv (by simp [valueInRange])
    | action a => exact absurd hv (by simp [valueInRange])
  | profile d =>
    rw [hform] at hv
    cases v with
    | num n => exact absurd hv (by simp [valueInRange])
    | code n => exact absurd hv (by simp [valueInRange])
    | profile p =>
      exact ⟨congrArg (Option.map _) (readProfile_profileBytes hv), congrArg _ (clampProfile_of_inRange hv), rfl⟩
    | action a => exact absurd hv (by simp [valueInRange])
  | action d =>
    rw [hform] at hv
    cases v with
    | num n => exact absurd hv (by simp [valueInRange])
    | code n => exact absurd hv (by simp [valueInRange])
    | profile p => exact absurd hv (by simp [valueInRange])
    | action a =>
      exact ⟨congrArg (Option.map _) (readAction_actionBytes hv), congrArg _ (clampAction_of_inRange hv), rfl⟩

end Sys2Proof.Machine
end

section
/-! The layouts of chapter 11 (R202): sets bit by bit, and each payload as its fields one after the other. -/

namespace Sys2Proof.Machine

/-! ### Numbers and sets in bytes -/

theorem be_four (n : Nat) : be 4 n =
    [BitVec.ofNat 8 (n / 16777216), BitVec.ofNat 8 (n / 65536), BitVec.ofNat 8 (n / 256), BitVec.ofNat 8 n] := by
  simp [be]

theorem be_one (n : Nat) : be 1 n = be1 n := by simp [be, be1]

/-- The bytes of a number from the low end. -/
theorem be_reverse_getD (n : Nat) {j k : Nat} (h : j < k) :
    (be k n).reverse.getD j 0#8 = BitVec.ofNat 8 (n / 256 ^ j) := by
  induction k with
  | zero => omega
  | succ k ih =>
    have hlen : (be k n).reverse.length = k := by rw [List.length_reverse, be_length]
    simp only [be, List.reverse_cons]
    by_cases hj : j < k
    · rw [List.getD_append _ _ _ _ (by omega), ih hj]
    · obtain rfl : j = k := by omega
      rw [List.getD_append_right _ _ _ _ (by omega), hlen, Nat.sub_self]
      rfl

/-- Bit `i` of a number is bit `i % 8` of the byte `i / 8` from the low end. -/
theorem be_bit (n : Nat) {i k : Nat} (h : i / 8 < k) :
    ((be k n).reverse.getD (i / 8) 0#8).getLsbD (i % 8) = n.testBit i := by
  have hpow : (256 : Nat) ^ (i / 8) = 2 ^ (8 * (i / 8)) := by
    rw [pow_mul, show (2 : Nat) ^ 8 = 256 from rfl]
  rw [be_reverse_getD n h, BitVec.getLsbD_ofNat, hpow, Nat.testBit_div_two_pow, decide_eq_true (Nat.mod_lt i (by omega)),
    Bool.true_and]
  congr 1
  omega

/-- The bits of the items of a list whose codes count up from 0: the sum stays below the next bit, and each bit is that
of its item. -/
theorem testBit_sum_bitAt {α : Type} (f : α → Bool) (code : α → Nat) (all : List α)
    (h : all.map code = List.range all.length) :
    (all.map (fun k => bitAt (f k) (code k))).sum < 2 ^ all.length ∧
    ∀ k ∈ all, ((all.map (fun k => bitAt (f k) (code k))).sum).testBit (code k) = f k := by
  induction all using List.reverseRecOn with
  | nil => simp
  | append_singleton all a ih =>
    rw [List.map_append, List.length_append, List.length_singleton, List.range_succ] at h
    obtain ⟨hall, ha⟩ := List.append_inj h (by simp)
    have ha : code a = all.length := by simpa using ha
    obtain ⟨hlt, hbits⟩ := ih hall
    have hcode : ∀ k ∈ all, code k < all.length := fun k hk => by
      have : code k ∈ all.map code := List.mem_map_of_mem hk
      rw [hall] at this
      exact List.mem_range.mp this
    simp only [List.map_append, List.map_cons, List.map_nil, List.sum_append, List.sum_cons, List.sum_nil, add_zero,
      List.length_append, List.length_singleton, ha]
    generalize hsum : (all.map (fun k => bitAt (f k) (code k))).sum = n at hlt hbits
    have hbit : (n + bitAt (f a) all.length).testBit all.length = f a := by
      cases hf : f a
      · simp [bitAt, Nat.testBit_lt_two_pow hlt]
      · simp [bitAt, Nat.add_comm n, Nat.testBit_two_pow_add_eq, Nat.testBit_lt_two_pow hlt]
    refine ⟨?_, fun k hk => ?_⟩
    · have : bitAt (f a) all.length ≤ 2 ^ all.length := by unfold bitAt; split <;> simp
      rw [pow_succ]
      omega
    · rcases List.mem_append.mp hk with hk | hk
      · rw [← hbits k hk]
        cases hf : f a
        · simp [bitAt]
        · simp [bitAt, Nat.add_comm n, Nat.testBit_two_pow_add_gt (hcode k hk)]
      · obtain rfl : k = a := by simpa using hk
        rwa [ha]

/-- A set of causes bit by bit. -/
theorem causeSetBytes_bit (ks : List Cause) (k : Cause) :
    ((causeSetBytes ks).reverse.getD ((causeCode k - 1) / 8) 0#8).getLsbD ((causeCode k - 1) % 8) = ks.contains k := by
  have hbyte : (causeCode k - 1) / 8 < 5 := by
    have : ∀ k ∈ allCauses, (causeCode k - 1) / 8 < 5 := by decide +kernel
    exact this k (mem_allCauses k)
  rw [causeSetBytes, be_bit _ hbyte]
  exact (testBit_sum_bitAt (fun k => ks.contains k) (fun k => causeCode k - 1) allCauses (by decide +kernel)).2 k
    (mem_allCauses k)

/-- A notice set bit by bit. -/
theorem noticeSetBytes_bit (ks : List Notice) (k : Notice) :
    ((noticeSetBytes ks).reverse.getD (noticeCode k / 8) 0#8).getLsbD (noticeCode k % 8) = ks.contains k := by
  have hbyte : noticeCode k / 8 < 2 := by cases k <;> decide
  rw [noticeSetBytes, be_bit _ hbyte]
  exact (testBit_sum_bitAt (fun k => ks.contains k) noticeCode allNotices (by decide +kernel)).2 k
    (by cases k <;> decide)

theorem bitAt_le (b : Bool) (k : Nat) : bitAt b k ≤ 2 ^ k := by
  unfold bitAt
  split <;> simp

/-! ### Fields at their offsets -/

/-- The fields of a payload with the offsets at which they stand, from the offset `n` on. -/
def offsets : Nat → List (List Byte) → List (Nat × List Byte)
  | _, [] => []
  | n, f :: fs => (n, f) :: offsets (n + f.length) fs

theorem field_of_offsets (fs : List (List Byte)) (n : Nat) :
    ∀ p ∈ offsets n fs, n ≤ p.1 ∧ (fs.flatten.drop (p.1 - n)).take p.2.length = p.2 := by
  induction fs generalizing n with
  | nil => simp [offsets]
  | cons f fs ih =>
    intro p hp
    rcases List.mem_cons.mp hp with rfl | hp
    · simp
    · obtain ⟨hle, htake⟩ := ih _ p hp
      have hdrop : p.1 - n = f.length + (p.1 - (n + f.length)) := by omega
      refine ⟨by omega, ?_⟩
      rw [List.flatten_cons, hdrop, ← List.drop_drop, List.drop_left, htake]

/-- A list of fields with their offsets is true of a payload where each is one of the payload's own. -/
theorem fields_at {bs : List Byte} {fs : List (List Byte)} (hbs : bs = fs.flatten) {ps : List (Nat × List Byte)}
    (hps : ∀ p ∈ ps, p ∈ offsets 0 fs) : ∀ p ∈ ps, (bs.drop p.1).take p.2.length = p.2 := fun p hp => by
  have h := (field_of_offsets fs 0 p (hps p hp)).2
  rwa [Nat.sub_zero, ← hbs] at h

/-- The items of three bytes of a list, one after the other. -/
theorem flatMap_three {α : Type} {f : α → List Byte} (hf : ∀ a, (f a).length = 3) {l : List α} {i : Nat} {a : α}
    (h : l[i]? = some a) (post : List Byte) : ((l.flatMap f ++ post).drop (3 * i)).take 3 = f a := by
  induction l generalizing i with
  | nil => simp at h
  | cons b l ih =>
    cases i with
    | zero =>
      obtain rfl : b = a := by simpa using h
      rw [← hf b]
      simp
    | succ i =>
      have h : l[i]? = some a := by simpa using h
      have hdrop : 3 * (i + 1) = (f b).length + 3 * i := by rw [hf]; omega
      rw [List.flatMap_cons, List.append_assoc, hdrop, ← List.drop_drop, List.drop_left, ih h]

theorem length_flatMap_const {α : Type} {f : α → List Byte} {n : Nat} (hf : ∀ a, (f a).length = n) (l : List α) :
    (l.flatMap f).length = n * l.length := by
  induction l with
  | nil => rfl
  | cons a l ih => rw [List.flatMap_cons, List.length_append, ih, hf, List.length_cons]; ring

theorem beInt_length (k : Nat) (i : Int) : (beInt k i).length = k := be_length ..

theorem be1_length (n : Nat) : (be1 n).length = 1 := rfl

theorem beFlag_length (b : Bool) : (beFlag b).length = 1 := rfl

theorem causeSetBytes_length (ks : List Cause) : (causeSetBytes ks).length = 5 := be_length ..

theorem stationSetByte_length (z : StationSet) : (stationSetByte z).length = 1 := rfl

/-! ### STATUS, entries and records -/

/-- The fields of STATUS, in the order of section 11.2. -/
def statusFields (s : State) : List (List Byte) :=
  [be 4 s.msy.period.toNat, be1 (syncCode s.msy.sync), be 4 s.msy.pEst, be1 s.msy.missCount,
   be1 (driveCode s.dsq.drive), be1 (exitCode s.dsq.exit),
   be1 (bitAt s.dsq.lossCond 0 + bitAt s.dsq.decayCond 1), be1 (convCode s.cca.state), be1 (convCode s.ccb.state),
   be 2 s.stu.s, be 2 s.stu.motors.a.speed, be 2 s.stu.motors.b.speed, be 2 s.stu.rr, beInt 2 s.stu.td,
   be 2 s.stu.tenv, be 2 s.stu.motors.a.iref, be 2 s.stu.motors.b.iref, beInt 2 s.stu.trim,
   beInt 4 s.stu.motors.a.q, beInt 4 s.stu.motors.b.q,
   be1 (thermalCode s.stu.motors.a.thermal), be1 (thermalCode s.stu.motors.b.thermal), be1 s.vwa.level,
   beFlag s.pru.active, be1 (orZero classCode s.pru.cls), be1 (orZero causeCode s.pru.firstOut),
   be 2 (s.pru.record.getD 0), causeSetBytes (s.pru.latched.map Latch.kind), causeSetBytes s.pru.warnings,
   beFlag s.pru.permit,
   be1 (bitAt s.dsq.contactor 0 + bitAt s.dsq.auxEn 1 + bitAt s.pru.trip 2 + bitAt s.rcu.mark 3 +
        bitAt s.pru.ext.level 4 + bitAt s.cca.fault 5 + bitAt s.ccb.fault 6)]

theorem statusBytes_eq (s : State) : statusBytes s = (statusFields s).flatten := by
  unfold statusBytes statusFields
  simp only [List.flatten_cons, List.flatten_nil, List.append_nil, List.append_assoc]

theorem statusBytes_length (s : State) : (statusBytes s).length = 61 := by
  unfold statusBytes
  simp only [List.length_append, be_length, beInt_length, be1_length, beFlag_length, causeSetBytes_length]

theorem orZero_eq {α : Type} (f : α → Nat) (x : Option α) : orZero f x = (x.map f).getD 0 := by
  cases x <;> rfl

/-- The fields of STATUS at their offsets (R201). -/
theorem statusBytes_fields (s : State) :
    ∀ p ∈ ([(0, be 4 s.msy.period.toNat), (4, be 1 (syncCode s.msy.sync)), (5, be 4 s.msy.pEst),
            (9, be 1 s.msy.missCount), (10, be 1 (driveCode s.dsq.drive)), (11, be 1 (exitCode s.dsq.exit)),
            (13, be 1 (convCode s.cca.state)), (14, be 1 (convCode s.ccb.state)), (15, be 2 s.stu.s),
            (17, be 2 s.stu.motors.a.speed), (19, be 2 s.stu.motors.b.speed), (21, be 2 s.stu.rr),
            (25, be 2 s.stu.tenv), (27, be 2 s.stu.motors.a.iref), (29, be 2 s.stu.motors.b.iref)] ++
           [(31, beInt 2 s.stu.trim), (23, beInt 2 s.stu.td), (33, beInt 4 s.stu.motors.a.q),
            (37, beInt 4 s.stu.motors.b.q), (41, be 1 (thermalCode s.stu.motors.a.thermal)),
            (42, be 1 (thermalCode s.stu.motors.b.thermal)), (43, be 1 s.vwa.level),
            (44, [if s.pru.active then 1#8 else 0#8]), (45, be 1 ((s.pru.cls.map classCode).getD 0)),
            (46, be 1 ((s.pru.firstOut.map causeCode).getD 0)), (47, be 2 (s.pru.record.getD 0)),
            (49, causeSetBytes (s.pru.latched.map Latch.kind)), (54, causeSetBytes s.pru.warnings),
            (59, [if s.pru.permit then 1#8 else 0#8])] : List (Nat × List Byte)),
      ((statusBytes s).drop p.1).take p.2.length = p.2 := by
  refine fields_at (statusBytes_eq s) ?_
  simp only [statusFields, offsets, be_length, beInt_length, be1_length, beFlag_length, causeSetBytes_length,
    Nat.reduceAdd, be_one, ← orZero_eq]
  simp [beFlag]

/-- A byte of flags is the number of its flags. -/
theorem toNat_ofNat_of_lt {n : Nat} (h : n < 256) : (BitVec.ofNat 8 n).toNat = n := by
  rw [BitVec.toNat_ofNat]
  omega

/-- The two packed bytes of STATUS (R201). -/
theorem statusBytes_flags (s : State) :
    ((statusBytes s).getD 12 0#8).toNat = (if s.dsq.lossCond then 1 else 0) + (if s.dsq.decayCond then 2 else 0) ∧
    ((statusBytes s).getD 60 0#8).toNat =
      (if s.dsq.contactor then 1 else 0) + (if s.dsq.auxEn then 2 else 0) + (if s.pru.trip then 4 else 0) +
      (if s.rcu.mark then 8 else 0) + (if s.pru.ext.level then 16 else 0) + (if s.cca.fault then 32 else 0) +
      (if s.ccb.fault then 64 else 0) := by
  have hbyte : ∀ {i n : Nat}, (i, be1 n) ∈ offsets 0 (statusFields s) → (statusBytes s).getD i 0#8 = BitVec.ofNat 8 n :=
    fun {i n} h => by
      have h := (field_of_offsets _ 0 _ h).2
      rw [Nat.sub_zero, ← statusBytes_eq] at h
      have h := congrArg (fun l => l.getD 0 0#8) h
      simpa [List.getD_eq_getElem?_getD, List.getElem?_take, be1] using h
  have h12 : (12, be1 (bitAt s.dsq.lossCond 0 + bitAt s.dsq.decayCond 1)) ∈ offsets 0 (statusFields s) := by
    simp [statusFields, offsets, be_length, beInt_length, be1_length]
  have h60 : (60, be1 (bitAt s.dsq.contactor 0 + bitAt s.dsq.auxEn 1 + bitAt s.pru.trip 2 + bitAt s.rcu.mark 3 +
        bitAt s.pru.ext.level 4 + bitAt s.cca.fault 5 + bitAt s.ccb.fault 6)) ∈ offsets 0 (statusFields s) := by
    simp [statusFields, offsets, be_length, beInt_length, be1_length, beFlag_length, causeSetBytes_length]
  have hle := bitAt_le
  rw [hbyte h12, hbyte h60, toNat_ofNat_of_lt, toNat_ofNat_of_lt]
  · exact ⟨rfl, rfl⟩
  · have := hle s.dsq.contactor 0; have := hle s.dsq.auxEn 1; have := hle s.pru.trip 2
    have := hle s.rcu.mark 3; have := hle s.pru.ext.level 4; have := hle s.cca.fault 5; have := hle s.ccb.fault 6
    omega
  · have := hle s.dsq.lossCond 0; have := hle s.dsq.decayCond 1
    omega

/-- The fields of a history entry, in the order of section 11.3. -/
def entryFields (e : Entry) : List (List Byte) :=
  [be 4 e.period.toNat, be 2 e.s, be 2 e.rr, beInt 2 e.td, be 2 e.tenv, be 2 e.irefA, be 2 e.irefB,
   be 2 e.meanA, be 2 e.meanB, be 2 e.angleA, be 2 e.angleB, beInt 2 e.trim,
   be1 (convCode e.convA * 16 + convCode e.convB), be1 (driveCode e.drive), be1 (syncCode e.sync), be1 e.level,
   beInt 1 e.coarseA, beInt 1 e.coarseB, be1 (chanCode e.chans.c0 * 16 + chanCode e.chans.c1),
   be1 (chanCode e.chans.c2 * 16 + chanCode e.chans.c3), be1 e.warningCount, be1 e.latchedCount]

theorem entryBytes_eq (e : Entry) : entryBytes e = (entryFields e).flatten := by
  unfold entryBytes entryFields
  simp only [List.flatten_cons, List.flatten_nil, List.append_nil, List.append_assoc]

theorem entryBytes_length (e : Entry) : (entryBytes e).length = 36 := by
  unfold entryBytes
  simp only [List.length_append, be_length, beInt_length, be1_length]

/-- The fields of a history entry at their offsets. -/
theorem entryBytes_fields (e : Entry) :
    ∀ p ∈ ([(0, be 4 e.period.toNat), (4, be 2 e.s), (6, be 2 e.rr), (8, beInt 2 e.td), (10, be 2 e.tenv),
            (12, be 2 e.irefA), (14, be 2 e.irefB), (16, be 2 e.meanA), (18, be 2 e.meanB), (20, be 2 e.angleA),
            (22, be 2 e.angleB), (24, beInt 2 e.trim), (26, be 1 (16 * convCode e.convA + convCode e.convB)),
            (27, be 1 (driveCode e.drive)), (28, be 1 (syncCode e.sync)), (29, be 1 e.level)] ++
           [(30, beInt 1 e.coarseA), (31, beInt 1 e.coarseB),
            (32, be 1 (16 * chanCode e.chans.c0 + chanCode e.chans.c1)),
            (33, be 1 (16 * chanCode e.chans.c2 + chanCode e.chans.c3)), (34, be 1 e.warningCount),
            (35, be 1 e.latchedCount)] : List (Nat × List Byte)),
      ((entryBytes e).drop p.1).take p.2.length = p.2 := by
  refine fields_at (entryBytes_eq e) ?_
  simp only [entryFields, offsets, be_length, beInt_length, be1_length, Nat.reduceAdd, be_one, Nat.mul_comm 16]
  simp

theorem captureBytes_length (c : Option FaultCapture) : (captureBytes c).length = 10 := by
  cases c <;> simp [captureBytes, be_length, be1_length]

theorem subBytes_length (trigger : Option Period) (c : SubCause) : (subBytes trigger c).length = 3 := rfl

theorem subsBytes_length {r : Record} (h : r.subs.length ≤ 8) : (subsBytes r).length = 24 := by
  rw [subsBytes, List.length_append, length_flatMap_const (subBytes_length r.trigger), List.length_replicate]
  omega

/-- The fields of a record header, in the order of section 11.3. -/
def headerFields (r : Record) : List (List Byte) :=
  [be 2 r.number, be1 (recordKindCode r.kind), be1 (orZero stationCode r.requester),
   be 4 (r.trigger.getD 0#32).toNat, be1 (orZero causeCode r.firstOut), be1 (orZero classCode r.cls),
   be1 r.pre, be1 r.post, be1 r.entries.length, be1 (driveCode r.driveAt), beFlag r.truncated,
   stationSetByte r.interest, stationSetByte r.marks, be1 r.subs.length, be1 r.overflow, subsBytes r,
   captureBytes r.capA, captureBytes r.capB]

theorem headerBytes_eq (r : Record) : headerBytes r = (headerFields r).flatten := by
  unfold headerBytes headerFields
  simp only [List.flatten_cons, List.flatten_nil, List.append_nil, List.append_assoc]

theorem headerBytes_length {r : Record} (h : r.subs.length ≤ 8) : (headerBytes r).length = 63 := by
  unfold headerBytes
  simp only [List.length_append, be_length, be1_length, beFlag_length, stationSetByte_length, subsBytes_length h,
    captureBytes_length]

/-- The fields of a record header at their offsets. -/
theorem headerBytes_fields {r : Record} (h : r.subs.length ≤ 8) :
    ∀ p ∈ ([(0, be 2 r.number), (2, be 1 (recordKindCode r.kind)), (3, be 1 ((r.requester.map stationCode).getD 0)),
             (4, be 4 (r.trigger.getD 0#32).toNat), (8, be 1 ((r.firstOut.map causeCode).getD 0)),
             (9, be 1 ((r.cls.map classCode).getD 0)), (10, be 1 r.pre), (11, be 1 r.post),
             (12, be 1 r.entries.length), (13, be 1 (driveCode r.driveAt)), (14, [if r.truncated then 1#8 else 0#8]),
             (15, stationSetByte r.interest), (16, stationSetByte r.marks), (17, be 1 r.subs.length),
             (18, be 1 r.overflow), (43, captureBytes r.capA), (53, captureBytes r.capB)] : List (Nat × List Byte)),
      ((headerBytes r).drop p.1).take p.2.length = p.2 := by
  refine fields_at (headerBytes_eq r) ?_
  simp only [headerFields, offsets, be_length, be1_length, beFlag_length, stationSetByte_length, subsBytes_length h,
    captureBytes_length, Nat.reduceAdd, be_one, ← orZero_eq]
  simp [beFlag]

/-- The eight items of the list of subsequent causes behind the first 19 bytes of the header. -/
theorem headerBytes_subs (r : Record) : ∃ front, front.length = 19 ∧
    headerBytes r = front ++ (subsBytes r ++ (captureBytes r.capA ++ captureBytes r.capB)) := by
  unfold headerBytes
  refine ⟨_, ?_, by rw [List.append_assoc, List.append_assoc]⟩
  simp only [List.length_append, be_length, be1_length, beFlag_length, stationSetByte_length]

/-- The item `i` of the list of subsequent causes, where there is one. -/
theorem headerBytes_sub {r : Record} {i : Nat} {c : SubCause} (h : r.subs[i]? = some c) :
    ((headerBytes r).drop (19 + 3 * i)).take 3 = be 1 (causeCode c.kind) ++ be 2 (c.period - r.trigger.getD 0#32).toNat := by
  obtain ⟨front, hlen, heq⟩ := headerBytes_subs r
  rw [heq, ← hlen, ← List.drop_drop, List.drop_left, subsBytes, List.append_assoc,
    flatMap_three (subBytes_length r.trigger) h, be_one]
  rfl

/-- The items of the list of subsequent causes beyond its count are 0. -/
theorem headerBytes_noSub {r : Record} {i : Nat} (hle : r.subs.length ≤ i) (hi : i < 8) :
    ((headerBytes r).drop (19 + 3 * i)).take 3 = [0#8, 0#8, 0#8] := by
  obtain ⟨front, hlen, heq⟩ := headerBytes_subs r
  have hsubs := length_flatMap_const (subBytes_length r.trigger) r.subs
  have hdrop : 3 * i = 3 * r.subs.length + (3 * i - 3 * r.subs.length) := by omega
  rw [heq, ← hlen, ← List.drop_drop, List.drop_left, subsBytes, List.append_assoc, hdrop, ← hsubs, ← List.drop_drop,
    List.drop_left, List.drop_append_of_le_length (by rw [List.length_replicate]; omega), List.drop_replicate,
    List.take_append_of_le_length (by rw [List.length_replicate]; omega), List.take_replicate,
    Nat.min_eq_left (by omega)]
  rfl

/-! ### The other payloads -/

theorem captureBytes_eq (c : FaultCapture) : captureBytes none = List.replicate 10 0#8 ∧
    captureBytes (some c) =
      0x01#8 :: (be 4 c.period.toNat ++ be 1 (thyNumber c.thy) ++ be 2 c.angle ++ be 2 c.current) := by
  simp only [be_one]
  exact ⟨rfl, rfl⟩

theorem heldByte_eq (h : Option Held) : heldByte h = (h.map (fun h => chanCode h.state)).getD 255 := by
  cases h <;> rfl

theorem channelBytes_length (level : Nat) (c : VChan) : (channelBytes level c).length = 19 := by
  unfold channelBytes
  simp only [List.length_append, be_length, be1_length]

/-- TABLE is 69 bytes of a channel with its 64 bins (R115). -/
theorem tableBytes_length (n : Nat) {h : Nat} {c : VChan} (hc : chanBinsRight c = true) (hh : h ≤ 1) :
    (tableBytes n h c).length = 69 := by
  unfold tableBytes
  have hbins := ((chanBinsRight_eq c).mp hc).1
  simp only [List.length_append, be_length, be1_length, length_flatMap_const (beInt_length 2), List.length_take,
    List.length_drop, hbins]
  omega

/-- The value of a form is as long as the form says. -/
theorem valueBytes_length {f : Form} {v : SetValue} (h : valueInRange f v = true) :
    (valueBytes v).length = formLength f := by
  cases f with
  | num => cases v with
    | num => rfl
    | _ => cases h
  | code => cases v with
    | code => rfl
    | _ => cases h
  | profile => cases v with
    | profile => rfl
    | _ => cases h
  | action => cases v with
    | action => rfl
    | _ => cases h

/-- LIST RECORDS item by item (R174). -/
theorem listItem_eq (st : Station) (u : Rcu) (i : SlotIx) : listItem st u i =
    ((u.slots.get i).map (fun r => BitVec.ofNat 8 (slotNumber i) :: (be 2 r.number ++
      [match r.kind with | .trip => 1#8 | .manual => 2#8, if r.isSealed then 2#8 else 1#8,
       (if r.interest.has st then 1#8 else 0#8) + (if r.marks.has st then 2#8 else 0#8)]))).getD [] := by
  unfold listItem
  cases u.slots.get i with
  | none => rfl
  | some r =>
    cases hk : r.kind <;> cases hs : r.isSealed <;> cases hi : r.interest.has st <;> cases hm : r.marks.has st <;>
      simp [be1, be_two, recordKindCode, recordStateCode, bitAt, hk, hs, hi, hm]

/-- What is listed of the items that are there, one after the other. -/
theorem flatMap_getD {α : Type} (f : α → Option (List Byte)) (l : List α) :
    l.flatMap (fun a => (f a).getD []) = (l.filterMap f).flatten := by
  induction l with
  | nil => rfl
  | cons a l ih => cases h : f a <;> simp [h, ih]

theorem length_filter_isSome {α β : Type} (f : α → Option β) (l : List α) :
    (l.filter (fun a => (f a).isSome)).length = (l.filterMap f).length := by
  induction l with
  | nil => rfl
  | cons a l ih => cases h : f a <;> simp [h, ih]

/-- The item of a slot in LIST RECORDS, with its number as a byte (R174, section 11.4). -/
def slotItem (st : Station) (u : Rcu) (p : SlotIx × Byte) : Option (List Byte) :=
  (u.slots.get p.1).map (fun r => p.2 :: (be 2 r.number ++
    [match r.kind with | .trip => 1#8 | .manual => 2#8, if r.isSealed then 2#8 else 1#8,
     (if r.interest.has st then 1#8 else 0#8) + (if r.marks.has st then 2#8 else 0#8)]))

/-- LIST RECORDS is the count and the items of the occupied slots in slot order (R174). -/
theorem listBytes_eq (st : Station) (u : Rcu) {items : List (List Byte)}
    (h : items = ([(.s0, 0#8), (.s1, 1#8), (.s2, 2#8), (.s3, 3#8), (.s4, 4#8), (.s5, 5#8)] :
      List (SlotIx × Byte)).filterMap (slotItem st u)) :
    listBytes st u = BitVec.ofNat 8 items.length :: items.flatten ∧ (listBytes st u).length = 1 + 6 * items.length := by
  have hslots : ([(.s0, 0#8), (.s1, 1#8), (.s2, 2#8), (.s3, 3#8), (.s4, 4#8), (.s5, 5#8)] : List (SlotIx × Byte)) =
      allSlots.map (fun i => (i, BitVec.ofNat 8 (slotNumber i))) := rfl
  rw [hslots, List.filterMap_map] at h
  have hcount : (allSlots.filter (fun i => (u.slots.get i).isSome)).length = items.length := by
    rw [h, ← length_filter_isSome]
    simp [slotItem]
  have hflat : allSlots.flatMap (listItem st u) = items.flatten := by
    rw [h, ← flatMap_getD]
    exact congrArg (fun f => allSlots.flatMap f) (funext (listItem_eq st u))
  have hsix : items.flatten.length = 6 * items.length := by
    have hall : ∀ l ∈ items, l.length = 6 := fun l hl => by
      rw [h] at hl
      obtain ⟨i, -, hi⟩ := List.mem_filterMap.mp hl
      obtain ⟨r, -, rfl⟩ := Option.map_eq_some_iff.mp hi
      simp [be_length]
    rw [List.length_flatten, List.map_congr_left hall, List.map_const', List.sum_replicate, smul_eq_mul, Nat.mul_comm]
  rw [listBytes, hcount, hflat]
  refine ⟨rfl, ?_⟩
  rw [List.length_append, hsix, be1_length]

/-- What a code stands for as the active value of a setting (section 11.1). -/
theorem num_of_code {z : SetTable} {id c : Nat} (h : z.active[id - 1]? = some (.code c)) : z.num id = c := by
  simp [SetTable.num, h]

/-- The codes of the settings of section 9.1 by the active value that holds them. -/
theorem settingCodes (z : SetTable) :
    (∀ q ∈ [(Side.a, 28), (.b, 29)], ∀ p ∈ [(0, Response.skip), (1, .retardResume), (2, .retardBlock), (3, .block)],
      z.active[q.2]? = some (.code p.1) → z.response q.1 = p.2) ∧
    (∀ q ∈ ([(.overcurrent .a, 77), (.overcurrent .b, 77), (.overvoltage .a, 78), (.overvoltage .b, 78),
             (.pinionMismatch, 79), (.overspeed, 80), (.stall, 81), (.permitLost, 82), (.extTrip, 83)] :
              List (Cause × Nat)),
      ∀ p ∈ [(1, Class.b), (2, .f), (3, .s), (4, .w)],
        z.active[q.2]? = some (.code p.1) → z.classInForce q.1 = p.2) ∧
    (∀ p ∈ [(0, false), (1, true)],
      (z.active[61]? = some (.code p.1) → z.singleDrive = p.2) ∧
      (z.active[86]? = some (.code p.1) → z.takeTrips = p.2)) := by
  refine ⟨?responses, ?classes, ?flags⟩
  case responses =>
    intro q hq p hp h
    simp only [List.mem_cons, List.not_mem_nil, or_false] at hq hp
    rcases hq with rfl | rfl <;> rcases hp with rfl | rfl | rfl | rfl <;> dsimp only at h <;>
      simp [SetTable.response, SetTable.num, h]
  case classes =>
    have hclass : ∀ p ∈ [(1, Class.b), (2, .f), (3, .s), (4, .w)], classOf p.1 = p.2 := by decide
    intro q hq p hp h
    rw [← hclass p hp]
    simp only [List.mem_cons, List.not_mem_nil, or_false] at hq
    rcases hq with rfl | rfl | rfl | rfl | rfl | rfl | rfl | rfl | rfl <;>
      exact congrArg classOf (num_of_code h)
  case flags =>
    simp only [List.forall_mem_cons, List.not_mem_nil, false_implies, implies_true, and_true]
    refine ⟨⟨?_, ?_⟩, ?_, ?_⟩ <;> intro h <;> simp [SetTable.singleDrive, SetTable.takeTrips, SetTable.num, h]

/-- Settles O36: each payload is its fields one after the other, and a set is its bits. -/
theorem layoutsOfChapterEleven : Obligations.LayoutsOfChapterEleven := by
  refine ⟨fun n => ⟨be_two n, be_four n⟩, fun ks k => ⟨causeSetBytes_length ks, causeSetBytes_bit ks k⟩,
    fun ks k => ⟨be_length _ _, noticeSetBytes_bit ks k⟩, fun s => ⟨statusBytes_length s, statusBytes_fields s⟩,
    statusBytes_flags, fun e => ⟨entryBytes_length e, entryBytes_fields e⟩,
    fun r h => ⟨headerBytes_length h, headerBytes_fields h, fun _ _ => headerBytes_sub, fun _ => headerBytes_noSub⟩,
    captureBytes_eq, fun level c => ⟨?channel, channelBytes_length level c⟩, fun n h c hc hh => tableBytes_length n hc hh,
    fun id r v h => ⟨?unstaged, fun w => ?staged⟩, fun v p a => ⟨rfl, ?code, ?profile, ?action⟩, settingCodes,
    fun st u items h => listBytes_eq st u h, ?codes⟩
  case channel => simp only [be_one, ← heldByte_eq]; rfl
  case unstaged =>
    rw [valueBytes_length h]
    simp only [be_one, settingBytes, stagedBytes, List.append_assoc]
    rfl
  case staged =>
    simp only [be_one, settingBytes, stagedBytes, List.append_assoc]
    rfl
  case code => exact (be_one v).symm
  case profile => simp only [be_one]; rfl
  case action =>
    simp only [be_one, valueBytes, actionBytes]
    cases a.dangerTrip <;> rfl
  case codes => decide

end Sys2Proof.Machine
end

section
/-! What a move of the drive and the hand-over of STOPPED settings change, block by block, and what they leave: one rule
for each block, which later proofs use in place of the operations' definitions. -/

namespace Sys2Proof.Machine

/-! ### Sets of kinds and of notices -/

theorem mem_allNotices (k : Notice) : k ∈ allNotices := by cases k <;> decide

@[simp] theorem mem_addNotice {j k : Notice} {ks : List Notice} : j ∈ addNotice k ks ↔ j = k ∨ j ∈ ks := by
  simp [addNotice, mem_allNotices]

@[simp] theorem mem_addCause {j k : Cause} {ks : List Cause} : j ∈ addCause k ks ↔ j = k ∨ j ∈ ks := by
  simp [addCause, mem_allCauses]

@[simp] theorem mem_dropCause {j k : Cause} {ks : List Cause} : j ∈ dropCause k ks ↔ j ∈ ks ∧ j ≠ k := by
  simp [dropCause]

/-- A kind that is not THERMAL_HOT_A or THERMAL_HOT_B. -/
def notHot (k : Cause) : Prop := ∀ x, k ≠ .thermalHot x

/-! ### Links with notices raised -/

/-- A link on which notices may have been raised, and nothing else has changed. -/
structure LinkRaised (l m : Link) : Prop where
  rest : { m with notices := l.notices, attention := l.attention } = l
  notices : ∀ k ∈ l.notices, k ∈ m.notices
  attention : l.attention = true → m.attention = true

theorem LinkRaised.refl (l : Link) : LinkRaised l l := ⟨rfl, fun _ => id, id⟩

theorem LinkRaised.trans {l m n : Link} (h : LinkRaised l m) (k : LinkRaised m n) : LinkRaised l n where
  rest := by rw [← h.rest, ← k.rest]
  notices j hj := k.notices j (h.notices j hj)
  attention ha := k.attention (h.attention ha)

/-- The links on which notices may have been raised. -/
def LinksRaised (s t : State) : Prop := ∀ k, LinkRaised (s.links.get k) (t.links.get k)

theorem LinksRaised.refl (s : State) : LinksRaised s s := fun _ => .refl _

theorem LinksRaised.of_eq {s t : State} (h : t.links = s.links) : LinksRaised s t := fun k => by rw [h]; exact .refl _

theorem LinksRaised.trans {s t u : State} (h : LinksRaised s t) (k : LinksRaised t u) : LinksRaised s u :=
  fun j => (h j).trans (k j)

theorem LinksRaised.reply {s t : State} (h : LinksRaised s t) (k : Station) :
    (t.links.get k).reply = (s.links.get k).reply := by rw [← (h k).rest]

theorem linkRaise_raised (k : Notice) (l : Link) : LinkRaised l (linkRaise k l) :=
  ⟨rfl, fun _ hj => mem_addNotice.mpr (.inr hj), fun _ => rfl⟩

theorem raise_raised (k : Notice) (st : Station) (s : State) : LinksRaised s (raise k st s) := fun j => by
  rw [raise_links, raiseAt]
  by_cases hj : j = st
  · subst hj
    rw [Triple.get_put]
    exact linkRaise_raised ..
  · rw [Triple.get_put_ne _ _ hj]
    exact .refl _

/-- The notice raised stands in the station's set, and its attention line is asserted (R199). -/
theorem raise_noticed (k : Notice) (st : Station) (s : State) :
    k ∈ ((raise k st s).links.get st).notices ∧ ((raise k st s).links.get st).attention = true := by
  rw [raise_links, raiseAt, Triple.get_put]
  exact ⟨mem_addNotice.mpr (.inl rfl), rfl⟩

theorem raiseTo_raised (k : Notice) (sts : List Station) (s : State) : LinksRaised s (raiseTo k sts s) := by
  induction sts generalizing s with
  | nil => exact .refl s
  | cons a l ih => exact (raise_raised k a s).trans (ih (raise k a s))

theorem raiseTo_noticed (k : Notice) {sts : List Station} {st : Station} (h : st ∈ sts) (s : State) :
    k ∈ ((raiseTo k sts s).links.get st).notices ∧ ((raiseTo k sts s).links.get st).attention = true := by
  induction sts generalizing s with
  | nil => exact absurd h List.not_mem_nil
  | cons a l ih =>
    rcases List.mem_cons.mp h with rfl | h
    · have hr := raiseTo_raised k l (raise k st s) st
      exact ⟨hr.notices _ (raise_noticed k st s).1, hr.attention (raise_noticed k st s).2⟩
    · exact ih h (raise k a s)

/-- A station to which nothing is raised keeps its link. -/
theorem raiseTo_links_ne (k : Notice) {sts : List Station} {st : Station} (h : st ∉ sts) (s : State) :
    (raiseTo k sts s).links.get st = s.links.get st := by
  induction sts generalizing s with
  | nil => rfl
  | cons a l ih =>
    obtain ⟨ha, hl⟩ := not_or.mp (mt List.mem_cons.mpr h)
    have hraise : (raise k a s).links.get st = s.links.get st := Triple.get_put_ne _ _ ha
    exact (ih hl (raise k a s)).trans hraise

/-- Raising notices changes the links only. -/
theorem raiseTo_eq (k : Notice) (sts : List Station) (s : State) :
    raiseTo k sts s = { s with links := (raiseTo k sts s).links } := by
  induction sts generalizing s with
  | nil => rfl
  | cons a l ih => exact (ih (raise k a s)).trans rfl

/-! ### The protection unit at a move of the drive -/

/-- What a move of the drive may change of the protection unit: the drive state published to it, and kinds that are not
of `K` in its condition view and its warning set. -/
structure PruMild (K : Cause → Prop) (p q : Pru) : Prop where
  rest : { q with view := p.view, warnings := p.warnings, driveView := p.driveView } = p
  view : ∀ k, K k → (k ∈ q.view ↔ k ∈ p.view)
  warnings : ∀ k, K k → (k ∈ q.warnings ↔ k ∈ p.warnings)

variable {K : Cause → Prop}

theorem PruMild.refl (p : Pru) : PruMild K p p := ⟨rfl, fun _ _ => .rfl, fun _ _ => .rfl⟩

theorem PruMild.trans {p q r : Pru} (h : PruMild K p q) (k : PruMild K q r) : PruMild K p r where
  rest := by rw [← h.rest, ← k.rest]
  view j hj := (k.view j hj).trans (h.view j hj)
  warnings j hj := (k.warnings j hj).trans (h.warnings j hj)

theorem PruMild.episode {p q : Pru} (h : PruMild K p q) : SameEpisode p q :=
  ⟨by rw [← h.rest], by rw [← h.rest], by rw [← h.rest], by rw [← h.rest], by rw [← h.rest], by rw [← h.rest]⟩

theorem PruMild.told (p : Pru) (d : Drive) : PruMild K p { p with driveView := d } :=
  ⟨rfl, fun _ _ => .rfl, fun _ _ => .rfl⟩

theorem pruCond_mild (x : Side) (b : Bool) (p : Pru) : PruMild notHot p (pruCond (.thermalHot x) b p) := by
  cases b
  · refine ⟨rfl, fun k hk => ?_, fun k hk => ?_⟩ <;> simp [pruCond, hk x]
  · refine ⟨rfl, fun k hk => ?_, fun k hk => .rfl⟩
    simp [pruCond, hk x]

theorem pruWarn_mild (x : Side) (p : Pru) : PruMild notHot p (pruWarn (.thermalHot x) p) := by
  unfold pruWarn
  split
  · refine ⟨rfl, fun k hk => .rfl, fun k hk => ?_⟩
    simp [hk x]
  · exact .refl p

/-- What the hand-over of STOPPED settings may change of the links, the protection unit and the record unit. -/
structure HandMild (K : Cause → Prop) (s t : State) : Prop where
  links : LinksRaised s t
  pru : PruMild K s.pru t.pru
  driveView : t.pru.driveView = s.pru.driveView
  rcu : t.rcu = s.rcu

theorem HandMild.refl (s : State) : HandMild K s s := ⟨.refl s, .refl _, rfl, rfl⟩

theorem HandMild.trans {s t u : State} (h : HandMild K s t) (k : HandMild K t u) : HandMild K s u :=
  ⟨h.links.trans k.links, h.pru.trans k.pru, k.driveView.trans h.driveView, k.rcu.trans h.rcu⟩

theorem HandMild.of_eq {s t : State} (hl : t.links = s.links) (hp : t.pru = s.pru) (hr : t.rcu = s.rcu) :
    HandMild K s t :=
  ⟨.of_eq hl, hp ▸ .refl _, by rw [hp], hr⟩

theorem raiseTo_mild (k : Notice) (sts : List Station) (s : State) : HandMild K s (raiseTo k sts s) :=
  ⟨raiseTo_raised k sts s, by rw [raiseTo_eq]; exact .refl _, by rw [raiseTo_eq], by rw [raiseTo_eq]⟩

theorem takeWarning_hot (x : Side) (s : State) : HandMild notHot s (takeWarning (.thermalHot x) s) := by
  unfold takeWarning
  split
  · exact .refl s
  · exact HandMild.trans (t := { s with pru := pruWarn (.thermalHot x) s.pru })
      ⟨.of_eq rfl, pruWarn_mild x s.pru, by unfold pruWarn; split <;> rfl, rfl⟩ (raiseTo_mild ..)

/-- A message about THERMAL_HOT_x. -/
def hotMsg : Msg → Prop
  | .cond k _ => ∃ x, k = .thermalHot x
  | .report k _ => ∃ x, k = .thermalHot x
  | .notice _ _ | .capture _ _ => False

theorem mem_condMsgs {m : Msg} {k : Cause} {n : Period} {old new : Bool} (h : m ∈ condMsgs k n old new) :
    (m = .cond k new ∧ old ≠ new) ∨ (m = .report k n ∧ old = false ∧ new = true) := by
  cases old <;> cases new <;> simp [condMsgs] at h ⊢ <;> exact h

theorem hotMsg_of_mem {m : Msg} {n : Period} {old new : Stu} (h : m ∈ hotMsgs n old new) : hotMsg m := by
  rcases List.mem_append.mp h with h | h <;> rcases mem_condMsgs h with ⟨rfl, -⟩ | ⟨rfl, -⟩ <;> exact ⟨_, rfl⟩

theorem takeMild_hot {m : Msg} (h : hotMsg m) (s : State) : HandMild notHot s (takeMild s m) := by
  cases m with
  | cond k b =>
    obtain ⟨x, rfl⟩ := h
    exact ⟨.of_eq rfl, pruCond_mild x b s.pru, by cases b <;> rfl, rfl⟩
  | report k n =>
    obtain ⟨x, rfl⟩ := h
    exact takeWarning_hot x s
  | notice k st => exact h.elim
  | capture x c => exact h.elim

theorem raiseAll_hot {ms : List Msg} (h : ∀ m ∈ ms, hotMsg m) (s : State) : HandMild notHot s (raiseAll ms s) := by
  induction ms generalizing s with
  | nil => exact .refl s
  | cons m ms ih =>
    exact (takeMild_hot (h m List.mem_cons_self) s).trans (ih (fun m hm => h m (List.mem_cons_of_mem _ hm)) _)

theorem handThermal_mild (s : State) : HandMild notHot s (handThermal s) :=
  HandMild.trans (t := { s with stu := (stuThermalApply s.set s.stu).1 }) (.of_eq rfl rfl rfl)
    (raiseAll_hot (fun _ => hotMsg_of_mem) _)

/-- What the thermal settings apply to is the speed and torque unit; the messages change no drive. -/
theorem handThermal_same (s : State) :
    SameDrive { s with stu := (stuThermalApply s.set s.stu).1 } (handThermal s) :=
  SameDrive.foldl takeMild_same _ _

/-! ### The hand-over of STOPPED settings -/

/-- What the hand-over leaves of the speed and torque unit: all but the torque, the thermal accounts and their states. -/
structure StuHand (u w : Stu) : Prop where
  rest : { w with motors := u.motors, y := u.y, td := u.td, tenv := u.tenv, splitLimited := u.splitLimited } = u
  motor : ∀ x, { w.motors.get x with
    q := (u.motors.get x).q, thermal := (u.motors.get x).thermal, hotCond := (u.motors.get x).hotCond,
    share := (u.motors.get x).share, iref := (u.motors.get x).iref } = u.motors.get x

theorem StuHand.refl (u : Stu) : StuHand u u := ⟨rfl, fun _ => rfl⟩

theorem StuHand.trans {u v w : Stu} (h : StuHand u v) (k : StuHand v w) : StuHand u w where
  rest := by rw [← h.rest, ← k.rest]
  motor x := by rw [← h.motor x, ← k.motor x]

theorem stuSplit_hand (z : SetTable) (u : Stu) : StuHand u (stuSplit z u) :=
  ⟨rfl, fun x => by cases x <;> rfl⟩

theorem stuReform_hand (z : SetTable) (level : Nat) (drive : Drive) (u : Stu) :
    StuHand u (stuReform z level drive u) := by
  unfold stuReform
  split
  · exact StuHand.trans
      (v := { u with tenv := envelope z level u.window, td := envelope z level u.window,
                     y := clampInt 0 ((envelope z level u.window : Int) * 256) u.y })
      ⟨rfl, fun _ => rfl⟩ (stuSplit_hand ..)
  · exact ⟨rfl, fun _ => rfl⟩

theorem stuThermalApply_hand (z : SetTable) (u : Stu) : StuHand u (stuThermalApply z u).1 :=
  ⟨rfl, fun x => by cases x <;> rfl⟩

/-- An apply of an angle limit is among the identifiers. -/
def anglesApply (ids : List Nat) : Bool := ids.contains 21 || ids.contains 22

/-- A controller at an apply of settings: the pending firings outside new angle limits are withdrawn (R65). -/
def convHand (b : Bool) (z : SetTable) (c : Conv) : Conv := if b then convAngleApply z c else c

/-- An apply of Qmax or Qwarn is among the identifiers. -/
def thermalApply (ids : List Nat) : Bool := ids.contains 58 || ids.contains 59

/-- The kinds that an apply of the identifiers leaves alone in the protection unit: all but THERMAL_HOT_x, and that too
where Qmax and Qwarn stay. -/
def leftAlone (ids : List Nat) (k : Cause) : Prop := notHot k ∨ thermalApply ids = false

theorem PruMild.of_notHot {ids : List Nat} (h : thermalApply ids = true) {p q : Pru} (hm : PruMild notHot p q) :
    PruMild (leftAlone ids) p q :=
  ⟨hm.rest, fun k hk => hm.view k (hk.resolve_right (by simp [h])), fun k hk => hm.warnings k (hk.resolve_right (by simp [h]))⟩

theorem HandMild.of_notHot {ids : List Nat} (h : thermalApply ids = true) {s t : State} (hm : HandMild notHot s t) :
    HandMild (leftAlone ids) s t :=
  ⟨hm.links, hm.pru.of_notHot h, hm.driveView, hm.rcu⟩

/-- The hand-over block by block. -/
structure Handed (ids : List Nat) (s t : State) : Prop extends HandMild (leftAlone ids) s t where
  conv : ∀ x, t.conv x = convHand (anglesApply ids) s.set (s.conv x)
  stu : StuHand s.stu t.stu

theorem handStopped_handed (drive : Drive) (ids : List Nat) (s : State) : Handed ids s (handStopped drive ids s) := by
  have hthermal : ∀ u : State, HandMild notHot u (handThermal u) ∧ (∀ x, (handThermal u).conv x = u.conv x) ∧
      StuHand u.stu (handThermal u).stu := fun u => by
    have h := handThermal_same u
    refine ⟨handThermal_mild u, fun x => ?_, ?_⟩
    · cases x
      · exact h.cca
      · exact h.ccb
    · rw [h.stu]
      exact stuThermalApply_hand ..
  have hreform : ∀ u : State,
      HandMild (leftAlone ids) u { u with stu := stuReform u.set u.vwa.level drive u.stu } ∧
      (∀ x, ({ u with stu := stuReform u.set u.vwa.level drive u.stu } : State).conv x = u.conv x) ∧
      StuHand u.stu (stuReform u.set u.vwa.level drive u.stu) := fun u =>
    ⟨.of_eq rfl rfl rfl, fun x => by cases x <;> rfl, stuReform_hand ..⟩
  have hangles : Handed ids s (if anglesApply ids then handAngles s else s) := by
    by_cases h : anglesApply ids = true
    · rw [if_pos h]
      refine ⟨.of_eq rfl rfl rfl, fun x => ?_, .refl _⟩
      rw [convHand, if_pos h]
      cases x <;> rfl
    · rw [if_neg h]
      exact ⟨.refl s, fun x => by rw [convHand, if_neg h], .refl _⟩
  have hnext : ∀ {t u : State}, Handed ids s t → HandMild (leftAlone ids) t u → (∀ x, u.conv x = t.conv x) → StuHand t.stu u.stu →
      Handed ids s u := fun ht hm hc hs =>
    ⟨ht.toHandMild.trans hm, fun x => (hc x).trans (ht.conv x), ht.stu.trans hs⟩
  unfold handStopped
  dsimp only
  change Handed ids s (if thermalApply ids = true then
    handThermal (if _ then _ else if anglesApply ids then handAngles s else s) else _)
  have henvelope := hnext hangles (hreform _).1 (hreform _).2.1 (hreform _).2.2
  split <;> split
  · exact hnext henvelope ((hthermal _).1.of_notHot ‹_›) (hthermal _).2.1 (hthermal _).2.2
  · exact hnext hangles ((hthermal _).1.of_notHot ‹_›) (hthermal _).2.1 (hthermal _).2.2
  · exact henvelope
  · exact hangles

/-! ### A move of the drive -/

/-- The settings table after an entry of the drive (R185). -/
def setAtEntry (new : Drive) (z : SetTable) : SetTable :=
  { (if stoppedState new then applyClasses atEntry z else z) with driveView := new }

/-- The identifiers that an entry of the drive applies (R185). -/
def entryIds (new : Drive) (z : SetTable) : List Nat := if stoppedState new then appliedIds atEntry z else []

theorem tellOwners_mild (ids : List Nat) (s : State) : HandMild K s (tellOwners ids s) := raiseTo_mild ..

/-- The settings table takes an entry of the drive: the table, and the hand-over of what it applies. -/
theorem setEntry_handed (old new : Drive) (s : State) :
    (setEntry old new s).set = setAtEntry new s.set ∧
    HandMild (leftAlone (entryIds new s.set)) s (setEntry old new s) ∧
    (∀ x, (setEntry old new s).conv x =
      convHand (anglesApply (entryIds new s.set)) (setAtEntry new s.set) (s.conv x)) ∧
    StuHand s.stu (setEntry old new s).stu := by
  unfold setEntry setAtEntry entryIds
  by_cases h : stoppedState new = true
  · simp only [h, if_true]
    generalize hids : appliedIds atEntry s.set = ids
    have ht := tellOwners_same ids { s with set := { applyClasses atEntry s.set with driveView := new } }
    have hh := handStopped_handed old ids
      (tellOwners ids { s with set := { applyClasses atEntry s.set with driveView := new } })
    refine ⟨(handStopped_same ..).2.2.2.trans ht.set, ?_, fun x => ?_, ?_⟩
    · have hm := tellOwners_mild (K := leftAlone ids) ids { s with set := { applyClasses atEntry s.set with driveView := new } }
      have hm : HandMild (leftAlone ids) s _ := ⟨hm.links, hm.pru, hm.driveView, hm.rcu⟩
      exact hm.trans hh.toHandMild
    · rw [hh.conv x, ht.set]
      cases x
      · exact congrArg (convHand (anglesApply ids) _) ht.cca
      · exact congrArg (convHand (anglesApply ids) _) ht.ccb
    · have hstu := hh.stu
      rwa [ht.stu] at hstu
  · simp only [h, Bool.false_eq_true, if_false]
    exact ⟨trivial, .of_eq rfl rfl rfl, fun x => by cases x <;> rfl, .refl _⟩

theorem convEnable_angles (sync : SyncState) (z : SetTable) (c : Conv) :
    convEnable sync (convAngleApply z c) = convAngleApply z (convEnable sync c) := by
  unfold convEnable convAngleApply
  cases c with
  | mk st => cases st <;> dsimp only <;> split <;> rfl

theorem convDisable_angles (z : SetTable) (c : Conv) :
    convDisable (convAngleApply z c) = convAngleApply z (convDisable c) := by
  unfold convDisable convAngleApply
  cases c with
  | mk st => cases st <;> rfl

/-- The taking of the enable and an apply of the angle limits do not touch the same fields. -/
theorem convTakeEnable_convHand (old new : Bool) (sync : SyncState) (b : Bool) (z : SetTable) (c : Conv) :
    convTakeEnable old new sync (convHand b z c) = convHand b z (convTakeEnable old new sync c) := by
  unfold convTakeEnable convHand
  cases b
  · rfl
  · cases old <;> cases new
    · rfl
    · exact convEnable_angles sync z c
    · exact convDisable_angles z c
    · rfl

theorem convTakeEnable_same (b : Bool) (sync : SyncState) (c : Conv) : convTakeEnable b b sync c = c := by
  simp [convTakeEnable]

/-- A move of the drive that changes its state, block by block. -/
structure Moved (d : Dsq) (s t : State) : Prop where
  base : SameBase s t
  dsq : t.dsq = d
  vwa : t.vwa = s.vwa
  set : t.set = setAtEntry d.drive s.set
  rcu : t.rcu = { s.rcu with driveView := d.drive }
  pru : PruMild (leftAlone (entryIds d.drive s.set)) s.pru t.pru
  driveView : t.pru.driveView = d.drive
  links : LinksRaised s t
  noticed : ∀ k, k ≠ Station.m → .driveState ∈ (t.links.get k).notices ∧ (t.links.get k).attention = true
  conv : ∀ x, t.conv x = convHand (anglesApply (entryIds d.drive s.set)) (setAtEntry d.drive s.set)
    (convTakeEnable s.dsq.enable d.enable s.msy.sync (s.conv x))

theorem driveTold_links (old : Dsq) (s : State) : LinksRaised s (driveTold old s) :=
  raiseTo_raised .driveState [.c, .p] { s with pru := _, rcu := _, set := _ }

theorem driveTold_noticed (old : Dsq) (s : State) {k : Station} (h : k ≠ .m) :
    .driveState ∈ ((driveTold old s).links.get k).notices ∧ ((driveTold old s).links.get k).attention = true :=
  raiseTo_noticed _ (by cases k <;> simp_all) _

theorem driveTold_pru (old : Dsq) (s : State) : (driveTold old s).pru = { s.pru with driveView := s.dsq.drive } := rfl

theorem driveTold_rcu (old : Dsq) (s : State) : (driveTold old s).rcu = { s.rcu with driveView := s.dsq.drive } := rfl

/-- A move of the drive to the state it is in changes the sequencer alone. -/
theorem moveDrive_stay (o : Sched) {d : Dsq} {s : State} (h : d.drive = s.dsq.drive) :
    moveDrive o d s = { s with dsq := d } := by
  rw [moveDrive, if_pos h]

theorem moveDrive_moved (o : Sched) {d : Dsq} {s : State} (h : d.drive ≠ s.dsq.drive) : Moved d s (moveDrive o d s) := by
  have hbase := moveDrive_base o d s
  obtain ⟨hdsq, hvwa⟩ := moveDrive_units o d s
  unfold moveDrive at *
  rw [if_neg h] at *
  split
  · rename_i hf
    rw [if_pos hf] at *
    obtain ⟨hset, hmild, hconv, -⟩ := setEntry_handed s.dsq.drive d.drive { s with dsq := d }
    have hd := (setEntry_units s.dsq.drive d.drive { s with dsq := d }).1
    refine ⟨hbase, hdsq, hvwa, hset, ?_, ?_, ?_, ?_, fun k => driveTold_noticed _ _, fun x => ?_⟩
    · rw [driveTold_rcu, hmild.rcu, hd]
    · rw [driveTold_pru]
      exact hmild.pru.trans (.told _ _)
    · rw [driveTold_pru, hd]
    · exact LinksRaised.trans (t := setEntry s.dsq.drive d.drive { s with dsq := d }) hmild.links (driveTold_links _ _)
    · rw [driveTold_conv, hd, (setEntry_base s.dsq.drive d.drive { s with dsq := d }).msy, hconv x, convTakeEnable_convHand]
      cases x <;> rfl
  · rename_i hf
    rw [if_neg hf] at *
    obtain ⟨hset, hmild, hconv, -⟩ := setEntry_handed d.drive d.drive (driveTold s.dsq { s with dsq := d })
    refine ⟨hbase, hdsq, hvwa, hset, hmild.rcu, ?_, hmild.driveView, ?_, fun k hk => ?_, fun x => ?_⟩
    · exact PruMild.trans (.told _ _) hmild.pru
    · exact LinksRaised.trans (driveTold_links s.dsq { s with dsq := d }) hmild.links
    · have hn := driveTold_noticed s.dsq { s with dsq := d } hk
      exact ⟨(hmild.links k).notices _ hn.1, (hmild.links k).attention hn.2⟩
    · rw [hconv x, driveTold_conv]
      cases x <;> rfl

/-- Nothing is applied at an entry of the drive into `new` (R185): the state is not a stopped one, or nothing of class
STOPPED is staged. -/
def quietEntry (new : Drive) (z : SetTable) : Prop :=
  stoppedState new = true → applyClasses atEntry z = z ∧ appliedIds atEntry z = []

theorem quietEntry_running {new : Drive} (h : stoppedState new = false) (z : SetTable) : quietEntry new z :=
  fun hs => absurd (h.symm.trans hs) Bool.false_ne_true

theorem setEntry_quiet {new : Drive} {s : State} (h : quietEntry new s.set) (old : Drive) :
    setEntry old new s = { s with set := { s.set with driveView := new } } := by
  unfold setEntry
  split
  · obtain ⟨hz, hids⟩ := h ‹_›
    rw [hids, hz]
    rfl
  · rfl

/-- What a move of the drive leaves where its entry applies nothing (R119, R120, R199): whichever of the others takes it
first. -/
def quietMove (d : Dsq) (s : State) : State :=
  raiseTo .driveState [.c, .p]
    { s with dsq := d,
             cca := convTakeEnable s.dsq.enable d.enable s.msy.sync s.cca,
             ccb := convTakeEnable s.dsq.enable d.enable s.msy.sync s.ccb,
             stu := stuDrive s.set s.vwa.level s.dsq.drive d.drive s.stu,
             pru := { s.pru with driveView := d.drive },
             rcu := { s.rcu with driveView := d.drive },
             set := { s.set with driveView := d.drive } }

theorem moveDrive_quiet (o : Sched) {d : Dsq} {s : State} (h : d.drive ≠ s.dsq.drive) (hq : quietEntry d.drive s.set) :
    moveDrive o d s = quietMove d s := by
  unfold moveDrive
  rw [if_neg h]
  split
  · rw [setEntry_quiet (s := { s with dsq := d }) hq]
    rfl
  · rw [setEntry_quiet (s := driveTold s.dsq { s with dsq := d }) hq]
    rfl

/-- The part of `quietMove` that is not the links. -/
theorem quietMove_eq (d : Dsq) (s : State) : quietMove d s =
    { s with dsq := d,
             cca := convTakeEnable s.dsq.enable d.enable s.msy.sync s.cca,
             ccb := convTakeEnable s.dsq.enable d.enable s.msy.sync s.ccb,
             stu := stuDrive s.set s.vwa.level s.dsq.drive d.drive s.stu,
             pru := { s.pru with driveView := d.drive },
             rcu := { s.rcu with driveView := d.drive },
             set := { s.set with driveView := d.drive },
             links := (quietMove d s).links } :=
  raiseTo_eq ..

theorem quietMove_raised (d : Dsq) (s : State) : LinksRaised s (quietMove d s) := fun k =>
  raiseTo_raised .driveState [.c, .p] { s with dsq := d, cca := _, ccb := _, stu := _, pru := _, rcu := _, set := _ } k

theorem quietMove_noticed (d : Dsq) (s : State) {k : Station} (h : k ≠ .m) :
    .driveState ∈ ((quietMove d s).links.get k).notices ∧ ((quietMove d s).links.get k).attention = true :=
  raiseTo_noticed _ (by cases k <;> simp_all) _

theorem quietMove_conv (d : Dsq) (s : State) (x : Side) :
    (quietMove d s).conv x = convTakeEnable s.dsq.enable d.enable s.msy.sync (s.conv x) := by
  rw [quietMove_eq]
  cases x <;> rfl

end Sys2Proof.Machine
end

section
/-! The reach of the commands: no command changes the queue of waiting commands, no command but a release the link rate,
and no request the mains synchroniser or the measurement unit. -/

namespace Sys2Proof.Machine

/-! ### What every act leaves -/

/-- An act leaves the queue of waiting commands and the link rate. -/
theorem PartAct.keeps_queue {s t : State} (ha : PartAct s t) {q : List Instr} {r : LinkRate}
    (h : s.pending = q ∧ s.rate = r) : t.pending = q ∧ t.rate = r := by
  cases ha with
  | block ha => cases ha <;> exact h
  | stu u => exact h
  | dsq d => exact h
  | enable old new sync => exact h

theorem Acts.keeps_queue {s t : State} (h : Acts s t) : t.pending = s.pending ∧ t.rate = s.rate :=
  kept_of_acts (P := fun u => u.pending = s.pending ∧ u.rate = s.rate) (fun _ _ ha => ha.keeps_queue) h.partActs ⟨rfl, rfl⟩

/-- Every command answers a next state. -/
theorem exec_next (i : Instr) (s : State) : ∃ u, exec i s = .next u := by
  cases i <;> exact ⟨_, rfl⟩

/-- A release keeps the queue. -/
theorem release_pending {i : Instr} {s t : State} (hi : isRelease i = true) (h : exec i s = .next t) :
    t.pending = s.pending := by
  obtain ⟨n, p, u, -, ha⟩ := exec_release_acts hi h
  exact ha.keeps_queue.1

/-! ### What a request leaves -/

theorem answered_base {s t : State} {w : Answer} (h : SameBase s t) : SameBase s (answered s t w).state := by
  cases w with
  | ok => exact h
  | refused r => exact .refl s

theorem reqPutSetting_base (st : Station) (id : Nat) (bs : List Byte) (s : State) :
    SameBase s (reqPutSetting st id bs s).state := by
  unfold reqPutSetting
  split
  · exact .refl s
  · exact .refl s
  · unfold staging
    split <;> exact ⟨rfl, rfl, rfl, rfl, rfl, rfl⟩

theorem reqOpenRecord_base (st : Station) (n : Nat) (s : State) : SameBase s (reqOpenRecord st n s).state := by
  unfold reqOpenRecord
  split <;> [skip; split] <;> exact ⟨rfl, rfl, rfl, rfl, rfl, rfl⟩

theorem reqNextChunk_base (st : Station) (s : State) : SameBase s (reqNextChunk st s).state := by
  unfold reqNextChunk
  split <;> exact ⟨rfl, rfl, rfl, rfl, rfl, rfl⟩

theorem reqCapture_base (st : Station) (s : State) : SameBase s (reqCapture st s).state := by
  unfold reqCapture
  split
  · exact .refl s
  · exact SameBase.after (raiseAll_same ..).toSameBase ⟨rfl, rfl, rfl, rfl, rfl, rfl⟩

theorem reqPermit_base (s : State) : SameBase s (reqPermit s).state := by
  unfold reqPermit plain
  split <;> exact ⟨rfl, rfl, rfl, rfl, rfl, rfl⟩

theorem reqWithdraw_base (o : Sched) (s : State) : SameBase s (reqWithdraw o s).state := by
  unfold reqWithdraw plain
  split
  · exact SameBase.after (posted_base ..) (SameBase.after (lossOf_base _) ⟨rfl, rfl, rfl, rfl, rfl, rfl⟩)
  · exact .refl s

theorem reqTrip_base (o : Sched) (s : State) : SameBase s (reqTrip o s).state := by
  have h : SameBase s (takeReport o .stationTrip s.pru.periodTaken
      { s with pru := pruCond .stationTrip true { s.pru with stationCond := true } }) :=
    SameBase.after (takeReport_base ..) ⟨rfl, rfl, rfl, rfl, rfl, rfl⟩
  exact h.trans ⟨rfl, rfl, rfl, rfl, rfl, rfl⟩

theorem episodeEnds_base (o : Sched) (s : State) : SameBase s (episodeEnds o s) :=
  SameBase.after (raiseTo_same ..).toSameBase (SameBase.after (moveDrive_base ..) ⟨rfl, rfl, rfl, rfl, rfl, rfl⟩)

theorem reqResetTrip_base (o : Sched) (s : State) : SameBase s (reqResetTrip o s).state := by
  unfold reqResetTrip
  split
  · exact episodeEnds_base o s
  · exact .refl s
  · exact .refl s

theorem reqClearTable_base (o : Sched) (n : Nat) (s : State) : SameBase s (reqClearTable o n s).state := by
  unfold reqClearTable
  split
  · exact .refl s
  · exact putChan_base ..

/-- No request changes the timebase, the link rate, the synchroniser, the measurement unit or the queue. -/
theorem handRequest_base (st : Station) (k : ReqKind) (payload : List Byte) (o : Sched) (s : State) :
    SameBase s (handRequest st k payload o s).state := by
  cases k with
  | status => exact .refl s
  | notices => exact ⟨rfl, rfl, rfl, rfl, rfl, rfl⟩
  | getSetting =>
    change SameBase s (reqGetSetting (beNat payload) s).state
    unfold reqGetSetting
    split <;> exact .refl s
  | putSetting => exact reqPutSetting_base ..
  | listRecords => exact .refl s
  | openRecord => exact reqOpenRecord_base ..
  | nextChunk => exact reqNextChunk_base ..
  | channel =>
    change SameBase s (reqChannel (beNat payload) s).state
    unfold reqChannel
    split <;> exact .refl s
  | table =>
    change SameBase s (reqTable (beNat (payload.take 1)) (beNat (payload.drop 1)) s).state
    unfold reqTable
    split <;> [skip; split] <;> exact .refl s
  | capture => exact reqCapture_base ..
  | speedRef => exact SameBase.after (deliver_base ..) ⟨rfl, rfl, rfl, rfl, rfl, rfl⟩
  | start => exact answered_base (moveDrive_base ..)
  | stop => exact answered_base (moveDrive_base ..)
  | toAux => exact answered_base (moveDrive_base ..)
  | fromAux => exact answered_base (moveDrive_base ..)
  | permit => exact reqPermit_base s
  | withdraw => exact reqWithdraw_base ..
  | trip => exact reqTrip_base ..
  | resetTrip => exact reqResetTrip_base ..
  | clearTable => exact reqClearTable_base ..

theorem actRequest_base (st : Station) (r : Request) (o : Sched) (s : State) :
    SameBase s (actRequest st r o s).state := by
  unfold actRequest
  split
  · exact .refl s
  · split
    · exact .refl s
    · split
      · exact .refl s
      · exact handRequest_base ..

theorem completeRequest_base (st : Station) (r : Request) (o : Sched) (s : State) :
    SameBase s (completeRequest st r o s) := by
  unfold completeRequest
  split
  · exact (actRequest_base st r o s).trans ⟨rfl, rfl, rfl, rfl, rfl, rfl⟩
  · exact ⟨rfl, rfl, rfl, rfl, rfl, rfl⟩
  · exact .refl s

theorem requestArrives_base (st : Station) (k : ReqKind) (g : Byte) (payload : List Byte) (t : Tick) (o : Sched)
    (s : State) : SameBase { s with now := t } (requestArrives st k g payload t o s) := completeRequest_base ..

/-- A command that brings a request leaves the synchroniser and the measurement unit. -/
theorem exec_request_base {i : Instr} {s u : State} (hi : commandRequest i ≠ none) (h : exec i s = .next u) :
    u.msy = s.msy ∧ u.meu = s.meu := by
  have hr : ∀ {v : State} {t : Tick}, SameBase { s with now := t } v →
      Host.Outcome.next (φ := Fault) (ρ := Refusal) v = .next u → u.msy = s.msy ∧ u.meu = s.meu :=
    fun hv he => by cases he; exact ⟨hv.msy, hv.meu⟩
  cases i with
  | putSetting k g id v t o =>
    have hv : v.length ≤ valueMax := by
      by_contra hv
      exact hi (if_neg hv)
    refine hr (requestArrives_base k .putSetting g (operand2 id ++ v) t o s) (Eq.trans ?_ h)
    exact congrArg Host.Outcome.next (if_pos hv).symm
  | status | notices | getSetting | listRecords | openRecord | nextChunk | channel | table | capture | speedRef | start
  | stop | toAux | fromAux | permit | withdraw | trip | resetTrip | clearTable =>
    exact hr (requestArrives_base ..) h
  | _ => exact absurd rfl hi

/-- Settles O2: every command but a release is a sequence of acts, and each act leaves the queue and the link rate; a
request leaves the synchroniser and the measurement unit by `exec_request_base`. -/
theorem commandsCompleteAndKeepTheirReach : Obligations.CommandsCompleteAndKeepTheirReach := by
  intro i s
  obtain ⟨u, hu⟩ := exec_next i s
  refine ⟨u, hu, ?_, fun hp hl => ?_, fun hi => exec_request_base hi hu⟩
  · cases hi : isRelease i with
    | false => exact (exec_acts hi hu).keeps_queue.1
    | true => exact release_pending hi hu
  · have hi : isRelease i = false := by
      cases i with
      | powerOn t p o => exact absurd rfl (hp t p o)
      | resetLineRelease t p o => exact absurd rfl (hl t p o)
      | _ => rfl
    exact (exec_acts hi hu).keeps_queue.2

end Sys2Proof.Machine
end

section
/-! What the taking of messages leaves: one relation (`Carried`) for every way in which a report, a demand or a published
condition passes through the part, with the kinds whose view it leaves alone as its parameter. -/

namespace Sys2Proof.Machine

/-! ### The settings table through a move of the drive -/

/-- A table with its 87 rows. -/
structure FullTable (z : SetTable) : Prop where
  active : z.active.length = 87
  staged : z.staged.length = 87

theorem SettingsFit.full {z : SetTable} (h : SettingsFit z) : FullTable z := ⟨h.activeLength, h.stagedLength⟩

/-- Neither Qmax nor Qwarn is staged. -/
def quietThermal (z : SetTable) : Prop := ∀ i v, i = 57 ∨ i = 58 → z.staged[i]? ≠ some (some v)

/-- The table after settings of class STOPPED may have become active: every other row stays. -/
structure SetSteady (z y : SetTable) : Prop where
  taken : y.periodTaken = z.periodTaken
  full : FullTable z → FullTable y
  rows : FullTable z → ∀ (i : Nat) (r : SetSpec), catalogue[i]? = some r → r.cls ≠ .stopped →
    y.active[i]? = z.active[i]? ∧ y.staged[i]? = z.staged[i]?
  quiet : quietThermal z → quietThermal y
  settled : FullTable z → ∀ (i : Nat) (v : SetValue), z.active[i]? = some v → z.staged[i]? = some none →
    y.active[i]? = some v ∧ y.staged[i]? = some none

theorem SetSteady.refl (z : SetTable) : SetSteady z z :=
  ⟨rfl, id, fun _ _ _ _ _ => ⟨rfl, rfl⟩, id, fun _ _ _ hv hw => ⟨hv, hw⟩⟩

theorem SetSteady.trans {z y x : SetTable} (h : SetSteady z y) (k : SetSteady y x) : SetSteady z x where
  taken := k.taken.trans h.taken
  full hz := k.full (h.full hz)
  rows hz i r hr hc := by
    obtain ⟨ha, hs⟩ := h.rows hz i r hr hc
    obtain ⟨ka, ks⟩ := k.rows (h.full hz) i r hr hc
    exact ⟨ka.trans ha, ks.trans hs⟩
  quiet hz := k.quiet (h.quiet hz)
  settled hz i v hv hw := by
    obtain ⟨hv, hw⟩ := h.settled hz i v hv hw
    exact k.settled (h.full hz) i v hv hw

theorem applyClasses_getElem? {choose : ApplyClass → Bool} {z : SetTable} (hz : FullTable z) {i : Nat} {r : SetSpec}
    (hr : catalogue[i]? = some r) : ∃ v w, z.active[i]? = some v ∧ z.staged[i]? = some w ∧
      (applyClasses choose z).active[i]? = some (if choose r.cls then w.getD v else v) ∧
      (applyClasses choose z).staged[i]? = some (if choose r.cls then none else w) := by
  have hi : i < 87 := catalogue_length ▸ (List.getElem?_eq_some_iff.mp hr).1
  obtain ⟨v, hv⟩ : ∃ v, z.active[i]? = some v := ⟨_, List.getElem?_eq_getElem (by rw [hz.active]; exact hi)⟩
  obtain ⟨w, hw⟩ : ∃ w, z.staged[i]? = some w := ⟨_, List.getElem?_eq_getElem (by rw [hz.staged]; exact hi)⟩
  have hrow := (setRows_getElem? z i r _ _).mpr ⟨hr, hv, hw⟩
  refine ⟨_, _, hv, hw, ?_, ?_⟩ <;> simp only [applyClasses, List.getElem?_map, hrow, Option.map_some]

theorem applyClasses_full {choose : ApplyClass → Bool} {z : SetTable} (hz : FullTable z) :
    FullTable (applyClasses choose z) := by
  constructor <;> simp [applyClasses, setRows, catalogue_length, hz.active, hz.staged]

theorem applyClasses_quiet {choose : ApplyClass → Bool} {z : SetTable} (hz : quietThermal z) :
    quietThermal (applyClasses choose z) := fun i v hi h => by
  simp only [applyClasses, List.getElem?_map, Option.map_eq_some_iff] at h
  obtain ⟨⟨r, a, w⟩, hx, h⟩ := h
  dsimp only at h
  split at h
  · cases h
  · exact hz i v hi (h ▸ ((setRows_getElem? z ..).mp hx).2.2)

/-- An apply that leaves a row's class leaves the row. -/
theorem applyClasses_steady {choose : ApplyClass → Bool} (hc : ∀ c, choose c = true → c = .stopped) (z : SetTable) :
    SetSteady z (applyClasses choose z) where
  taken := rfl
  full := applyClasses_full
  rows hz i r hr hn := by
    obtain ⟨v, w, hv, hw, ha, hs⟩ := applyClasses_getElem? (choose := choose) hz hr
    have hf : choose r.cls = false := Bool.eq_false_iff.mpr fun h => hn (hc _ h)
    rw [ha, hs, hv, hw, hf]
    exact ⟨rfl, rfl⟩
  quiet := applyClasses_quiet
  settled hz i v hv hw := by
    have hi : i < catalogue.length := by
      rw [catalogue_length, ← hz.active]
      exact (List.getElem?_eq_some_iff.mp hv).1
    obtain ⟨v', w, hv', hw', ha, hs⟩ := applyClasses_getElem? (choose := choose) hz (List.getElem?_eq_getElem hi)
    obtain rfl : v' = v := Option.some.inj (hv'.symm.trans hv)
    obtain rfl : w = none := Option.some.inj (hw'.symm.trans hw)
    rw [ha, hs, Option.getD_none, ite_self, ite_self]
    exact ⟨rfl, rfl⟩

theorem atEntry_stopped (c : ApplyClass) (h : atEntry c = true) : c = .stopped := by
  cases c with
  | stopped => rfl
  | live | revolution => cases h

theorem setAtEntry_steady (d : Drive) (z : SetTable) : SetSteady z (setAtEntry d z) := by
  unfold setAtEntry
  have told : ∀ y : SetTable, SetSteady y { y with driveView := d } := fun y =>
    ⟨rfl, fun h => ⟨h.active, h.staged⟩, fun _ _ _ _ _ => ⟨rfl, rfl⟩, id, fun _ _ _ hv hw => ⟨hv, hw⟩⟩
  split
  · exact (applyClasses_steady atEntry_stopped z).trans (told _)
  · exact told z

theorem SetSteady.num {z y : SetTable} (h : SetSteady z y) (hz : FullTable z) {id : Nat} {r : SetSpec}
    (hr : catalogue[id - 1]? = some r) (hc : r.cls ≠ .stopped) : y.num id = z.num id := by
  unfold SetTable.num
  rw [(h.rows hz _ r hr hc).1]

theorem SetSteady.profile {z y : SetTable} (h : SetSteady z y) (hz : FullTable z) (n : Chan) : y.profile n = z.profile n := by
  unfold SetTable.profile
  cases n <;> rw [(h.rows hz _ _ rfl (by decide)).1]

theorem SetSteady.action {z y : SetTable} (h : SetSteady z y) (hz : FullTable z) (n : Chan) : y.action n = z.action n := by
  unfold SetTable.action
  cases n <;> rw [(h.rows hz _ _ rfl (by decide)).1]

theorem SetSteady.stagedProfile {z y : SetTable} (h : SetSteady z y) (hz : FullTable z) (n : Chan) :
    stagedProfile n y = stagedProfile n z := by
  unfold Machine.stagedProfile
  cases n <;> rw [(h.rows hz _ _ rfl (by decide)).2]

/-- The class settings are LIVE, so the classes in force stay through a move of the drive. -/
theorem SetSteady.classInForce {z y : SetTable} (h : SetSteady z y) (hz : FullTable z) (k : Cause) :
    y.classInForce k = z.classInForce k := by
  cases k with
  | overcurrent | overvoltage | pinionMismatch | overspeed | stall | permitLost | extTrip =>
    exact congrArg classOf (h.num hz (r := _) rfl (by decide))
  | _ => rfl

theorem mem_appliedIds {choose : ApplyClass → Bool} {z : SetTable} {id : Nat} (h : id ∈ appliedIds choose z) :
    ∃ v, z.staged[id - 1]? = some (some v) := by
  simp only [appliedIds, List.mem_filterMap] at h
  obtain ⟨⟨⟨r, v, w⟩, i⟩, hm, hi⟩ := h
  dsimp only at hi
  split at hi
  · rename_i hw
    cases hi
    obtain ⟨-, hx⟩ := List.mk_mem_zipIdx_iff_le_and_getElem?_sub.mp hm
    obtain ⟨-, -, hs⟩ := (setRows_getElem? z ..).mp hx
    cases w with
    | none => simp at hw
    | some w => exact ⟨w, hs⟩
  · cases hi

/-- With neither staged, no apply is of Qmax or Qwarn. -/
theorem thermalApply_of_quiet {z : SetTable} (h : quietThermal z) (choose : ApplyClass → Bool) :
    thermalApply (appliedIds choose z) = false := by
  rw [thermalApply, Bool.or_eq_false_iff]
  constructor <;> refine Bool.eq_false_iff.mpr fun hc => ?_ <;>
    obtain ⟨v, hv⟩ := mem_appliedIds (List.contains_iff_mem.mp hc)
  · exact h 57 v (.inl rfl) hv
  · exact h 58 v (.inr rfl) hv

theorem entryIds_quiet {z : SetTable} (h : quietThermal z) (d : Drive) : thermalApply (entryIds d z) = false := by
  unfold entryIds
  split
  · exact thermalApply_of_quiet h _
  · rfl

/-! ### The speed and torque unit through a move of the drive -/

/-- What a move of the drive leaves of the speed and torque unit: the speeds, the counters, the conditions and what is
published. -/
structure StuKept (u w : Stu) : Prop where
  rest : { w with motors := u.motors, rr := u.rr, y := u.y, td := u.td, window := u.window, tenv := u.tenv, trim := u.trim,
                  splitLimited := u.splitLimited, grace := u.grace } = u
  motor : ∀ x, { w.motors.get x with
    q := (u.motors.get x).q, thermal := (u.motors.get x).thermal, hotCond := (u.motors.get x).hotCond,
    share := (u.motors.get x).share, iref := (u.motors.get x).iref } = u.motors.get x

theorem StuKept.refl (u : Stu) : StuKept u u := ⟨rfl, fun _ => rfl⟩

theorem StuKept.trans {u v w : Stu} (h : StuKept u v) (k : StuKept v w) : StuKept u w where
  rest := by rw [← h.rest, ← k.rest]
  motor x := by rw [← h.motor x, ← k.motor x]

theorem StuHand.kept {u w : Stu} (h : StuHand u w) : StuKept u w where
  rest := by rw [← h.rest]
  motor := h.motor

theorem stuIdle_kept (u : Stu) : StuKept u (stuIdle u) := ⟨rfl, fun x => by cases x <;> rfl⟩

theorem stuEntry_kept (old new : Drive) (u : Stu) : StuKept u (stuEntry old new u) := by
  cases new with
  | closing => exact (stuIdle_kept u).trans ⟨rfl, fun _ => rfl⟩
  | blocked | coast | tripped | aux => exact stuIdle_kept u
  | run | starting | stopping | tripStop => exact ⟨rfl, fun _ => rfl⟩

theorem stuReform_kept (z : SetTable) (level : Nat) (drive : Drive) {u v : Stu} (h : StuKept u v) :
    StuKept u (stuReform z level drive v) := h.trans (stuReform_hand z level drive v).kept

theorem stuDrive_kept (z : SetTable) (level : Nat) (old new : Drive) (u : Stu) : StuKept u (stuDrive z level old new u) := by
  have hw : ∀ (v : Stu) (w : Option Nat), StuKept v { v with window := w } := fun _ _ => ⟨rfl, fun _ => rfl⟩
  unfold stuDrive
  split
  · unfold stuOpenWindow
    split
    · exact stuEntry_kept old new u
    · exact stuReform_kept _ _ _ ((stuEntry_kept old new u).trans (hw _ _))
  · split
    · unfold stuCloseWindow
      split
      · exact stuEntry_kept old new u
      · exact stuReform_kept _ _ _ ((stuEntry_kept old new u).trans (hw _ _))
    · exact stuEntry_kept old new u

theorem driveTold_stu (old : Dsq) (s : State) :
    (driveTold old s).stu = stuDrive s.set s.vwa.level old.drive s.dsq.drive s.stu := rfl

theorem moveDrive_stu (o : Sched) (d : Dsq) (s : State) : StuKept s.stu (moveDrive o d s).stu := by
  unfold moveDrive
  split
  · exact .refl _
  · split
    · rw [driveTold_stu]
      exact StuKept.trans (setEntry_handed s.dsq.drive d.drive { s with dsq := d }).2.2.2.kept (stuDrive_kept ..)
    · have h := (setEntry_handed d.drive d.drive (driveTold s.dsq { s with dsq := d })).2.2.2.kept
      rw [driveTold_stu] at h
      exact StuKept.trans (stuDrive_kept ..) h

/-! ### THERMAL_HOT_x through a move of the drive -/

/-- The view holds THERMAL_HOT_x exactly while `b`, and the warning set only then (R143). -/
structure HotView (x : Side) (b : Bool) (p : Pru) : Prop where
  view : .thermalHot x ∈ p.view ↔ b = true
  warned : .thermalHot x ∈ p.warnings → .thermalHot x ∈ p.view

/-- The view holds THERMAL_HOT_x exactly while its motor is HOT. -/
def HotRight (x : Side) (s : State) : Prop := HotView x (s.stu.motors.get x).hotCond s.pru

theorem HotView.of_same {x : Side} {b : Bool} {p q : Pru} (h : HotView x b p) (hv : q.view = p.view)
    (hw : q.warnings = p.warnings) : HotView x b q := by
  constructor
  · rw [hv]
    exact h.view
  · rw [hv, hw]
    exact h.warned

theorem pruWarn_hot {x : Side} {b : Bool} {p : Pru} (k : Cause) (h : HotView x b p) : HotView x b (pruWarn k p) := by
  unfold pruWarn
  split
  · rename_i hk
    refine ⟨h.view, fun hm => ?_⟩
    rcases mem_addCause.mp hm with rfl | hm
    · exact List.contains_iff_mem.mp hk
    · exact h.warned hm
  · exact h

/-- The warning set and the view after a report of class W. -/
theorem takeWarning_pru (k : Cause) (s : State) :
    (takeWarning k s).pru = s.pru ∨ (takeWarning k s).pru = pruWarn k s.pru := by
  unfold takeWarning
  split
  · exact .inl rfl
  · rw [raiseTo_eq]
    exact .inr rfl

theorem takeWarning_hotView {x : Side} {b : Bool} (k : Cause) {s : State} (h : HotView x b s.pru) :
    HotView x b (takeWarning k s).pru := by
  rcases takeWarning_pru k s with hp | hp <;> rw [hp]
  · exact h
  · exact pruWarn_hot k h

/-- A published change of THERMAL_HOT_x gives the view of the condition published. -/
theorem pruCond_hot (x : Side) (p : Pru) (c : Bool) : HotView x c (pruCond (.thermalHot x) c p) := by
  cases c
  · constructor <;> simp [pruCond]
  · constructor <;> simp [pruCond]

theorem pruCond_hot_ne {x : Side} {b : Bool} {p : Pru} {k : Cause} (hk : k ≠ .thermalHot x) (c : Bool)
    (h : HotView x b p) : HotView x b (pruCond k c p) := by
  obtain ⟨hv, hw⟩ := h
  cases c
  · constructor
    · simpa [pruCond, hk.symm] using hv
    · simpa [pruCond, hk.symm] using hw
  · constructor
    · simpa [pruCond, hk.symm] using hv
    · simpa [pruCond, hk.symm] using hw

theorem raiseAll_append (ms ns : List Msg) (s : State) : raiseAll (ms ++ ns) s = raiseAll ns (raiseAll ms s) :=
  List.foldl_append

theorem raiseAll_condMsgs_hot {x : Side} {old new : Bool} {n : Period} {s : State} (h : HotView x old s.pru) :
    HotView x new (raiseAll (condMsgs (.thermalHot x) n old new) s).pru := by
  cases old <;> cases new
  · exact h
  · exact takeWarning_hotView (s := takeCond (.thermalHot x) true s) _ (pruCond_hot x _ true)
  · exact pruCond_hot x _ false
  · exact h

theorem raiseAll_condMsgs_hot_ne {x y : Side} {b old new : Bool} {n : Period} {s : State} (hy : y ≠ x)
    (h : HotView x b s.pru) : HotView x b (raiseAll (condMsgs (.thermalHot y) n old new) s).pru := by
  have hk : Cause.thermalHot y ≠ .thermalHot x := fun he => hy (by cases he; rfl)
  cases old <;> cases new
  · exact h
  · exact takeWarning_hotView (s := takeCond (.thermalHot y) true s) _ (pruCond_hot_ne hk true h)
  · exact pruCond_hot_ne hk false h
  · exact h

theorem handThermal_hot {x : Side} {s : State} (h : HotRight x s) : HotRight x (handThermal s) := by
  have hs := (handThermal_same s).stu
  unfold HotRight
  rw [hs]
  unfold handThermal
  change HotView x _ (raiseAll (hotMsgs _ _ _) _).pru
  rw [hotMsgs, raiseAll_append]
  cases x
  · exact raiseAll_condMsgs_hot_ne (by decide) (raiseAll_condMsgs_hot h)
  · exact raiseAll_condMsgs_hot (raiseAll_condMsgs_hot_ne (by decide) h)

/-- The conditions of both motors stay. -/
structure SameHot (u w : Stu) : Prop where
  same : ∀ x, (w.motors.get x).hotCond = (u.motors.get x).hotCond

theorem SameHot.refl (u : Stu) : SameHot u u := ⟨fun _ => rfl⟩

theorem SameHot.trans {u v w : Stu} (h : SameHot u v) (k : SameHot v w) : SameHot u w :=
  ⟨fun x => (k.same x).trans (h.same x)⟩

theorem stuReform_sameHot (z : SetTable) (level : Nat) (drive : Drive) (u : Stu) : SameHot u (stuReform z level drive u) := by
  unfold stuReform
  split
  · exact ⟨fun x => by cases x <;> rfl⟩
  · exact ⟨fun _ => rfl⟩

theorem stuDrive_sameHot (z : SetTable) (level : Nat) (old new : Drive) (u : Stu) :
    SameHot u (stuDrive z level old new u) := by
  have he : SameHot u (stuEntry old new u) := ⟨fun x => by cases new <;> cases x <;> rfl⟩
  have hw : ∀ (drive : Drive) (w : Option Nat),
      SameHot u (stuReform z level drive { stuEntry old new u with window := w }) := fun drive w =>
    SameHot.trans (v := { stuEntry old new u with window := w }) ⟨he.same⟩ (stuReform_sameHot ..)
  unfold stuDrive
  split
  · unfold stuOpenWindow
    split
    · exact he
    · exact hw _ _
  · split
    · unfold stuCloseWindow
      split
      · exact he
      · exact hw _ _
    · exact he

theorem HotRight.of_same {x : Side} {s t : State} (h : HotRight x s) (hs : SameHot s.stu t.stu)
    (hv : t.pru.view = s.pru.view) (hw : t.pru.warnings = s.pru.warnings) : HotRight x t := by
  unfold HotRight
  rw [hs.same x]
  exact HotView.of_same h hv hw

theorem handStopped_hot {x : Side} {s : State} (drive : Drive) (ids : List Nat) (h : HotRight x s) :
    HotRight x (handStopped drive ids s) := by
  have hangles : HotRight x (if anglesApply ids then handAngles s else s) := by split <;> exact h
  have hreform : ∀ {u : State}, HotRight x u → HotRight x { u with stu := stuReform u.set u.vwa.level drive u.stu } :=
    fun hu => hu.of_same (stuReform_sameHot ..) rfl rfl
  unfold handStopped
  dsimp only
  change HotRight x (if thermalApply ids = true then
    handThermal (if _ then _ else if anglesApply ids then handAngles s else s) else _)
  split <;> split
  · exact handThermal_hot (hreform hangles)
  · exact handThermal_hot hangles
  · exact hreform hangles
  · exact hangles

theorem setEntry_hot {x : Side} {s : State} (old new : Drive) (h : HotRight x s) : HotRight x (setEntry old new s) := by
  unfold setEntry
  split
  · refine handStopped_hot _ _ ?_
    rw [tellOwners, raiseTo_eq]
    exact h
  · exact h

theorem moveDrive_hot {x : Side} {s : State} (o : Sched) (d : Dsq) (h : HotRight x s) : HotRight x (moveDrive o d s) := by
  have htold : ∀ {old : Dsq} {u : State}, HotRight x u → HotRight x (driveTold old u) := fun hu =>
    hu.of_same (by rw [driveTold_stu]; exact stuDrive_sameHot ..) rfl rfl
  unfold moveDrive
  split
  · exact h
  · split
    · exact htold (setEntry_hot (s := { s with dsq := d }) _ _ h)
    · exact setEntry_hot _ _ (htold (u := { s with dsq := d }) h)

/-! ### The relation -/

/-- What a move of the drive leaves of a converter controller: all but its state, its integrator, its retard firing
count and its pending firings. -/
def ConvKept (c d : Conv) : Prop :=
  { d with state := c.state, integ := c.integ, retardCount := c.retardCount, firings := c.firings } = c

theorem ConvKept.refl (c : Conv) : ConvKept c c := rfl

theorem ConvKept.of_eq {c d : Conv} (h : d = c) : ConvKept c d := by
  subst h
  rfl

theorem ConvKept.trans {c d e : Conv} (h : ConvKept c d) (k : ConvKept d e) : ConvKept c e := by
  unfold ConvKept at *
  rw [← h, ← k]

theorem convTakeEnable_kept (old new : Bool) (sync : SyncState) (c : Conv) : ConvKept c (convTakeEnable old new sync c) := by
  unfold convTakeEnable convEnable convDisable
  split
  · rfl
  · split <;> split <;> (try split) <;> rfl

theorem convHand_kept (b : Bool) (z : SetTable) (c : Conv) : ConvKept c (convHand b z c) := by
  cases b <;> rfl

/-- What messages leave of the record unit. -/
structure RcuKept (u w : Rcu) : Prop where
  ring : w.ring = u.ring
  cursors : w.cursors = u.cursors
  taken : w.periodTaken = u.periodTaken

theorem RcuKept.refl (u : Rcu) : RcuKept u u := ⟨rfl, rfl, rfl⟩

theorem RcuKept.trans {u v w : Rcu} (h : RcuKept u v) (k : RcuKept v w) : RcuKept u w :=
  ⟨k.ring.trans h.ring, k.cursors.trans h.cursors, k.taken.trans h.taken⟩

/-- What messages leave of the protection unit, with the kinds of `K` untouched in its view and kept in its warnings: an
ACTIVE episode stays, with its first-out and its record, and what is latched stays latched (R145). -/
structure PruKept (K : Cause → Prop) (p q : Pru) : Prop where
  own : { q with active := p.active, cls := p.cls, firstOut := p.firstOut, latched := p.latched, record := p.record,
                 warnings := p.warnings, view := p.view, trip := p.trip, driveView := p.driveView } = p
  view : ∀ k, K k → (k ∈ q.view ↔ k ∈ p.view)
  warnings : ∀ k, K k → k ∈ p.warnings → k ∈ q.warnings
  active : p.active = true → q.active = true ∧ q.firstOut = p.firstOut ∧ q.record = p.record
  latched : ∀ k, latchedActive k p = true → latchedActive k q = true

theorem PruKept.refl (p : Pru) : PruKept K p p :=
  ⟨rfl, fun _ _ => .rfl, fun _ _ => id, fun h => ⟨h, rfl, rfl⟩, fun _ => id⟩

theorem PruKept.trans {K : Cause → Prop} {p q r : Pru} (h : PruKept K p q) (k : PruKept K q r) : PruKept K p r where
  own := by rw [← h.own, ← k.own]
  view j hj := (k.view j hj).trans (h.view j hj)
  warnings j hj hw := k.warnings j hj (h.warnings j hj hw)
  active ha := by
    obtain ⟨ha, hf, hr⟩ := h.active ha
    obtain ⟨ka, kf, kr⟩ := k.active ha
    exact ⟨ka, kf.trans hf, kr.trans hr⟩
  latched j hj := k.latched j (h.latched j hj)

theorem PruKept.mono {K L : Cause → Prop} (hl : ∀ k, L k → K k) {p q : Pru} (h : PruKept K p q) : PruKept L p q :=
  ⟨h.own, fun k hk => h.view k (hl k hk), fun k hk => h.warnings k (hl k hk), h.active, h.latched⟩

theorem latchedActive_of_same {k : Cause} {p q : Pru} (h : SameEpisode p q) : latchedActive k q = latchedActive k p := by
  rw [latchedActive, latchedActive, h.active, h.latched]

theorem PruMild.pruKept {K : Cause → Prop} {p q : Pru} (h : PruMild K p q) : PruKept K p q where
  own := by rw [← h.rest]
  view := h.view
  warnings k hk := (h.warnings k hk).mpr
  active ha := ⟨h.episode.active.trans ha, h.episode.firstOut, h.episode.record⟩
  latched k hk := (latchedActive_of_same h.episode).trans hk

/-- The sequencer after trip demands. -/
abbrev Demanded : Dsq → Dsq → Prop := Relation.ReflTransGen (fun d e => ∃ c, e = dsqDemand c d)

/-- How far trip demands have taken the drive (R129). -/
def tripRank : Drive → Nat
  | .tripStop => 1
  | .tripped => 2
  | .blocked | .closing | .starting | .run | .stopping | .coast | .aux => 0

theorem dsqDemand_rank (c : Class) (d : Dsq) :
    (dsqDemand c d).drive = d.drive ∨ tripRank d.drive < tripRank (dsqDemand c d).drive := by
  unfold dsqDemand
  cases c with
  | w => exact .inl rfl
  | b =>
    cases h : d.drive with
    | tripped => exact .inl rfl
    | blocked | closing | starting | run | stopping | coast | tripStop | aux => exact .inr (Nat.le_of_ble_eq_true rfl)
  | f =>
    cases h : d.drive with
    | tripped | aux => exact .inl h
    | blocked | closing | starting | run | stopping | coast | tripStop => exact .inr (Nat.le_of_ble_eq_true rfl)
  | s =>
    cases h : d.drive with
    | tripStop | tripped | aux => exact .inl h
    | blocked | closing | starting | run | stopping | coast => exact .inr (Nat.le_of_ble_eq_true rfl)

/-- Trip demands never take the drive back. -/
theorem Demanded.rank {d e : Dsq} (h : Demanded d e) : e.drive = d.drive ∨ tripRank d.drive < tripRank e.drive := by
  induction h with
  | refl => exact .inl rfl
  | tail _ hstep ih =>
    obtain ⟨c, rfl⟩ := hstep
    rename_i e _
    rcases dsqDemand_rank c e with h | h <;> rcases ih with hi | hi
    · exact .inl (h.trans hi)
    · exact .inr (by rw [h]; exact hi)
    · exact .inr (by rw [← hi]; exact h)
    · exact .inr (hi.trans h)

/-- The kinds of `K` that messages leave alone from a state with the settings `z`: THERMAL_HOT_x may be taken again at
an apply of Qmax or Qwarn (R84). -/
def steadyKinds (K : Cause → Prop) (z : SetTable) (k : Cause) : Prop := K k ∧ (notHot k ∨ quietThermal z)

/-- What messages that leave the kinds of `K` alone leave of the part. -/
structure Carried (K : Cause → Prop) (s t : State) : Prop where
  base : SameBase s t
  links : LinksRaised s t
  set : SetSteady s.set t.set
  rcu : RcuKept s.rcu t.rcu
  stu : StuKept s.stu t.stu
  dsq : Demanded s.dsq t.dsq
  conv : ∀ x, ConvKept (s.conv x) (t.conv x)
  pru : PruKept (steadyKinds K s.set) s.pru t.pru
  hot : ∀ x, K (.thermalHot x) → HotRight x s → HotRight x t
  still : t.dsq.drive = s.dsq.drive → t.set = s.set

theorem Carried.refl {K : Cause → Prop} (s : State) : Carried K s s :=
  ⟨.refl s, .refl s, .refl _, .refl _, .refl _, .refl, fun _ => rfl, .refl _, fun _ _ => id, fun _ => rfl⟩

theorem Carried.trans {K : Cause → Prop} {s t u : State} (h : Carried K s t) (k : Carried K t u) : Carried K s u where
  base := h.base.trans k.base
  links := h.links.trans k.links
  set := h.set.trans k.set
  rcu := h.rcu.trans k.rcu
  stu := h.stu.trans k.stu
  dsq := h.dsq.trans k.dsq
  conv x := (h.conv x).trans (k.conv x)
  pru := h.pru.trans (k.pru.mono fun _ hk => ⟨hk.1, hk.2.imp id h.set.quiet⟩)
  hot x hx hs := k.hot x hx (h.hot x hx hs)
  still hd := by
    have ht : t.dsq.drive = s.dsq.drive := by
      rcases h.dsq.rank with h | h
      · exact h
      · rcases k.dsq.rank with k | k <;> rw [hd] at k
        · exact k.symm
        · omega
    exact (k.still (hd.trans ht.symm)).trans (h.still ht)

theorem Carried.mono {K L : Cause → Prop} (hl : ∀ k, L k → K k) {s t : State} (h : Carried K s t) : Carried L s t :=
  ⟨h.base, h.links, h.set, h.rcu, h.stu, h.dsq, h.conv, h.pru.mono fun _ hk => ⟨hl _ hk.1, hk.2⟩,
   fun x hx => h.hot x (hl _ hx), h.still⟩

end Sys2Proof.Machine
end

section
/-! The taking of reports (R142 to R148): what each report leaves (`Carried`), and what it latches, warns of or opens. -/

namespace Sys2Proof.Machine

variable {K : Cause → Prop}

/-! ### The latched set -/

theorem latchedActive_iff {k : Cause} {p : Pru} :
    latchedActive k p = true ↔ p.active = true ∧ k ∈ p.latched.map Latch.kind := by
  simp [latchedActive]

theorem mem_kinds_putLatch {j k : Cause} {c : Class} {ls : List Latch} :
    j ∈ (putLatch k c ls).map Latch.kind ↔ j = k ∨ j ∈ ls.map Latch.kind := by
  simp only [List.mem_map, mem_putLatch]
  constructor
  · rintro ⟨e, rfl | ⟨-, he⟩, rfl⟩
    · exact .inl rfl
    · exact .inr ⟨e, (mem_latchOf he).1, rfl⟩
  · rintro (rfl | ⟨e, he, rfl⟩)
    · exact ⟨_, .inl rfl, rfl⟩
    · by_cases hk : e.kind = k
      · exact ⟨_, .inl rfl, hk.symm⟩
      · obtain ⟨f, hf⟩ : ∃ f, latchOf e.kind ls = some f :=
          Option.isSome_iff_exists.mp (List.find?_isSome.mpr ⟨e, he, by simp⟩)
        have hfe := (mem_latchOf hf).2
        exact ⟨f, .inr ⟨hfe ▸ hk, hfe ▸ hf⟩, hfe⟩

/-! ### Notices and warnings -/

theorem SameDrive.carried {s t : State} (h : SameDrive s t) (hl : LinksRaised s t) (hr : RcuKept s.rcu t.rcu)
    (hp : PruKept (steadyKinds K s.set) s.pru t.pru) (hh : ∀ x, K (.thermalHot x) → HotRight x s → HotRight x t) :
    Carried K s t where
  base := h.toSameBase
  links := hl
  set := h.set ▸ .refl _
  rcu := hr
  stu := h.stu ▸ .refl _
  dsq := h.dsq ▸ .refl
  conv x := by
    cases x
    · exact .of_eq h.cca
    · exact .of_eq h.ccb
  pru := hp
  hot := hh
  still _ := h.set

theorem raiseTo_carried (k : Notice) (sts : List Station) (s : State) : Carried K s (raiseTo k sts s) := by
  refine (raiseTo_same k sts s).carried (raiseTo_raised k sts s) ?_ ?_ fun x _ h => ?_ <;> rw [raiseTo_eq]
  · exact .refl _
  · exact .refl _
  · exact h

theorem raise_carried (k : Notice) (st : Station) (s : State) : Carried K s (raise k st s) := raiseTo_carried k [st] s

theorem pruWarn_kept (k : Cause) (p : Pru) : PruKept K p (pruWarn k p) := by
  unfold pruWarn
  split
  · exact ⟨rfl, fun _ _ => .rfl, fun _ _ hj => mem_addCause.mpr (.inr hj), fun h => ⟨h, rfl, rfl⟩, fun _ => id⟩
  · exact .refl p

/-- A report of class W leaves the view, and may add to the warning set and the links. -/
theorem takeWarning_carried (k : Cause) (s : State) : Carried K s (takeWarning k s) := by
  refine (takeWarning_same k s).carried ?_ ?_ ?_ fun x _ h => ?_
  · unfold takeWarning
    split
    · exact .refl s
    · exact fun j => raiseTo_raised .warning [.c, .p] { s with pru := pruWarn k s.pru } j
  · unfold takeWarning
    split
    · exact .refl _
    · rw [raiseTo_eq]
      exact .refl _
  · rcases takeWarning_pru k s with h | h <;> rw [h]
    · exact .refl _
    · exact pruWarn_kept ..
  · unfold HotRight
    rw [(takeWarning_same k s).stu]
    exact takeWarning_hotView k h

/-- The kind of a report of class W is in the warning set while its condition is in the view (R142, R143). -/
theorem takeWarning_warns {k : Cause} {s : State} (h : k ∈ s.pru.view) :
    k ∈ (takeWarning k s).pru.warnings ∧
    (k ∉ s.pru.warnings → .warning ∈ (takeWarning k s).links.c.notices ∧ .warning ∈ (takeWarning k s).links.p.notices) := by
  unfold takeWarning
  split
  · rename_i hw
    exact ⟨List.contains_iff_mem.mp hw, fun hn => absurd (List.contains_iff_mem.mp hw) hn⟩
  · refine ⟨?_, fun _ => ⟨?_, ?_⟩⟩
    · rw [raiseTo_eq]
      simp [pruWarn, h]
    · exact (raiseTo_noticed .warning (st := .c) (by simp) _).1
    · exact (raiseTo_noticed .warning (st := .p) (by simp) _).1

/-! ### The record trigger -/

/-- A notice. -/
def isNotice : Msg → Prop
  | .notice _ _ => True
  | .cond _ _ | .report _ _ | .capture _ _ => False

theorem raiseAll_notices {ms : List Msg} (h : ∀ m ∈ ms, isNotice m) (s : State) :
    raiseAll ms s = { s with links := (raiseAll ms s).links } ∧ LinksRaised s (raiseAll ms s) := by
  induction ms generalizing s with
  | nil => exact ⟨rfl, .refl s⟩
  | cons m ms ih =>
    cases m with
    | notice k st =>
      obtain ⟨he, hl⟩ := ih (fun m hm => h m (List.mem_cons_of_mem _ hm)) (raise k st s)
      exact ⟨he, LinksRaised.trans (raise_raised k st s) hl⟩
    | cond _ _ | report _ _ | capture _ _ => exact (h _ List.mem_cons_self).elim

theorem lostMsgs_notices (r : Option Record) : ∀ m ∈ lostMsgs r, isNotice m := by
  unfold lostMsgs
  split
  · simp
  · simp only [List.mem_map]
    rintro m ⟨st, -, rfl⟩
    trivial

theorem sealedMsgs_notices (r : Record) : ∀ m ∈ sealedMsgs r, isNotice m := by
  simp only [sealedMsgs, List.mem_map]
  rintro m ⟨st, -, rfl⟩
  trivial

theorem truncateManual_notices (u : Rcu) : ∀ m ∈ (truncateManual u).2, isNotice m := by
  unfold truncateManual
  split
  · simp
  · split
    · simp
    · split
      · exact sealedMsgs_notices _
      · simp

theorem newRecord_notices (z : SetTable) (base : Record) (u : Rcu) : ∀ m ∈ (newRecord z base u).2, isNotice m := by
  unfold newRecord
  split
  · simp
  · intro m hm
    rcases List.mem_append.mp hm with hm | hm
    · exact lostMsgs_notices _ m hm
    · split at hm
      · exact sealedMsgs_notices _ m hm
      · cases hm

theorem rcuTrigger_notices (z : SetTable) (k : Cause) (c : Class) (d : Drive) (u : Rcu) :
    ∀ m ∈ (rcuTrigger z k c d u).2, isNotice m := fun m hm => by
  rcases List.mem_append.mp hm with hm | hm
  · exact truncateManual_notices u m hm
  · exact newRecord_notices _ _ _ m hm

/-- A record cut short leaves all of the unit but its slot, the name of the filling slot and RECORD_MARK. -/
theorem truncateManual_rest (u : Rcu) : { (truncateManual u).1 with
    slots := u.slots, filling := u.filling, mark := u.mark } = u := by
  unfold truncateManual
  split
  · rfl
  · split
    · rfl
    · split <;> rfl

/-- A new record leaves all of the unit but its slot, the order of the ages, the name of the filling slot, RECORD_MARK
and the counter. -/
theorem newRecord_rest (z : SetTable) (base : Record) (u : Rcu) : { (newRecord z base u).1 with
    slots := u.slots, age := u.age, filling := u.filling, mark := u.mark, counter := u.counter } = u := by
  unfold newRecord
  split <;> rfl

theorem rcuTrigger_kept (z : SetTable) (k : Cause) (c : Class) (d : Drive) (u : Rcu) :
    RcuKept u (rcuTrigger z k c d u).1 := by
  have ht := truncateManual_rest u
  have hn := newRecord_rest z (tripBase z k c d (truncateManual u).1) (truncateManual u).1
  generalize hv : (truncateManual u).1 = v at ht hn
  generalize hw : (newRecord z (tripBase z k c d v) v).1 = w at hn
  have h : RcuKept u w := by
    constructor <;> rw [← ht, ← hn]
  unfold rcuTrigger
  dsimp only
  rw [hv, hw]
  exact ⟨h.ring, h.cursors, h.taken⟩

/-- The record of a trigger carries the counter's number (R161). -/
theorem rcuTrigger_pinned (z : SetTable) (k : Cause) (c : Class) (d : Drive) (u : Rcu) :
    (rcuTrigger z k c d u).1.pinned = some u.counter := by
  have ht := truncateManual_rest u
  unfold rcuTrigger
  dsimp only
  generalize (truncateManual u).1 = v at ht ⊢
  rw [← ht]

/-! ### A report of class B, F or S -/

/-- What the opening of an episode leaves (R144): the protection unit with the episode and its record, the record unit
after the trigger, and notices. -/
theorem openEpisode_eq (k : Cause) (c : Class) (s : State) : openEpisode k c s =
    { s with pru := { pruOpen k c s.pru with record := some s.rcu.counter },
             rcu := (rcuTrigger s.set k c s.pru.driveView s.rcu).1,
             links := (openEpisode k c s).links } := by
  have hm := (raiseAll_notices (rcuTrigger_notices s.set k c s.pru.driveView s.rcu)
    { s with pru := { pruOpen k c s.pru with record := (rcuTrigger s.set k c s.pru.driveView s.rcu).1.pinned },
             rcu := (rcuTrigger s.set k c s.pru.driveView s.rcu).1 }).1
  rw [rcuTrigger_pinned] at hm
  have hr := raiseTo_eq .episode [.c, .p, .m] (raiseAll (rcuTrigger s.set k c s.pru.driveView s.rcu).2
    { s with pru := { pruOpen k c s.pru with record := some s.rcu.counter },
             rcu := (rcuTrigger s.set k c s.pru.driveView s.rcu).1 })
  have he : openEpisode k c s = raiseTo .episode [.c, .p, .m] (raiseAll (rcuTrigger s.set k c s.pru.driveView s.rcu).2
      { s with pru := { pruOpen k c s.pru with record := some s.rcu.counter },
               rcu := (rcuTrigger s.set k c s.pru.driveView s.rcu).1 }) := by
    rw [← rcuTrigger_pinned s.set k c s.pru.driveView s.rcu]
    rfl
  rw [he]
  generalize raiseAll _ _ = u at hm hr ⊢
  rw [hr, hm]

theorem openEpisode_raised (k : Cause) (c : Class) (s : State) : LinksRaised s (openEpisode k c s) := by
  have hm := (raiseAll_notices (rcuTrigger_notices s.set k c s.pru.driveView s.rcu)
    { s with pru := { pruOpen k c s.pru with record := (rcuTrigger s.set k c s.pru.driveView s.rcu).1.pinned },
             rcu := (rcuTrigger s.set k c s.pru.driveView s.rcu).1 }).2
  exact LinksRaised.trans hm (raiseTo_raised .episode [.c, .p, .m] _)

/-- All three stations are noticed of an episode that opens (R144). -/
theorem openEpisode_noticed (k : Cause) (c : Class) (s : State) (st : Station) :
    .episode ∈ ((openEpisode k c s).links.get st).notices ∧ ((openEpisode k c s).links.get st).attention = true :=
  raiseTo_noticed .episode (by cases st <;> simp) _

theorem latchedActive_of_inactive {p : Pru} (h : p.active = false) (k : Cause) : latchedActive k p = false := by
  simp [latchedActive, h]

theorem openEpisode_carried (k : Cause) (c : Class) {s : State} (h : s.pru.active = false) :
    Carried K s (openEpisode k c s) := by
  have he := openEpisode_eq k c s
  refine SameDrive.carried ⟨openEpisode_base k c s, ?_, ?_, ?_, ?_, ?_, ?_⟩ (openEpisode_raised k c s) ?_ ?_
    fun x _ hx => ?_ <;> rw [he]
  · exact rcuTrigger_kept ..
  · refine ⟨rfl, fun _ _ => .rfl, fun _ _ => id, fun ha => ?_, fun j hj => ?_⟩
    · rw [h] at ha
      cases ha
    · rw [latchedActive_of_inactive h] at hj
      cases hj
  · exact hx.of_same (.refl _) rfl rfl

theorem pruLatch_kept (k : Cause) (c : Class) (p : Pru) : PruKept K p (pruLatch k c p) where
  own := rfl
  view _ _ := .rfl
  warnings _ _ := id
  active h := ⟨h, rfl, rfl⟩
  latched j hj := by
    obtain ⟨ha, hm⟩ := latchedActive_iff.mp hj
    exact latchedActive_iff.mpr ⟨ha, mem_kinds_putLatch.mpr (.inr hm)⟩

theorem rcuSub_kept (k : Cause) (n : Period) (u : Rcu) : RcuKept u (rcuSub k n u) := by
  unfold rcuSub
  split
  · exact .refl u
  · split
    · exact .refl u
    · split <;> exact ⟨rfl, rfl, rfl⟩

theorem classRise_carried (c : Class) (b : Bool) (s : State) : Carried K s (classRise c b s).1 := by
  unfold classRise
  split
  · exact raiseTo_carried ..
  · exact .refl s

theorem latchReport_carried (k : Cause) (n : Period) (c : Class) (s : State) : Carried K s (latchReport k n c s).1 := by
  have hlatch : ∀ u : Rcu, RcuKept s.rcu u → Carried K s { s with pru := pruLatch k c s.pru, rcu := u } := fun u hu =>
    SameDrive.carried ⟨⟨rfl, rfl, rfl, rfl, rfl, rfl⟩, rfl, rfl, rfl, rfl, rfl, rfl⟩ (.of_eq rfl) hu (pruLatch_kept ..)
      fun _ _ hx => hx.of_same (.refl _) rfl rfl
  unfold latchReport
  split
  · exact .refl s
  · exact (hlatch s.rcu (.refl _)).trans (classRise_carried ..)
  · exact (hlatch _ (rcuSub_kept ..)).trans (classRise_carried ..)

theorem takeCause_carried (k : Cause) (n : Period) (c : Class) (s : State) : Carried K s (takeCause k n c s).1 := by
  unfold takeCause
  split
  · exact latchReport_carried ..
  · exact openEpisode_carried k c (Bool.eq_false_iff.mpr ‹_›)

theorem judge_carried (k : Cause) (n : Period) (s : State) : Carried K s (judge k n s).1 := by
  unfold judge
  split
  · exact takeWarning_carried ..
  all_goals exact takeCause_carried ..

theorem classRise_pru (c : Class) (b : Bool) (s : State) : (classRise c b s).1.pru = s.pru := by
  unfold classRise
  split
  · rw [raiseTo_eq]
  · rfl

theorem latchReport_latches (k : Cause) (n : Period) (c : Class) {s : State} (h : s.pru.active = true) :
    latchedActive k (latchReport k n c s).1.pru = true := by
  have hl : latchedActive k (pruLatch k c s.pru) = true :=
    latchedActive_iff.mpr ⟨h, mem_kinds_putLatch.mpr (.inl rfl)⟩
  unfold latchReport
  split
  · rename_i hs
    refine latchedActive_iff.mpr ⟨h, ?_⟩
    unfold latchingOf at hs
    split at hs
    · cases hs
    · obtain ⟨he, hk⟩ := mem_latchOf ‹_›
      exact hk ▸ List.mem_map_of_mem he
  · rw [classRise_pru]
    exact hl
  · rw [classRise_pru]
    exact hl

theorem takeCause_latches (k : Cause) (n : Period) (c : Class) (s : State) :
    latchedActive k (takeCause k n c s).1.pru = true := by
  unfold takeCause
  split
  · exact latchReport_latches k n c ‹_›
  · rw [openEpisode_eq]
    simp [latchedActive, pruOpen]

/-- How a report is judged, by the class in force (R142, R144, R145). -/
theorem judge_warning {k : Cause} (n : Period) {s : State} (h : s.set.classInForce k = .w) :
    judge k n s = (takeWarning k s, none) := by
  unfold judge
  split <;> simp_all

theorem judge_cause {k : Cause} (n : Period) {s : State} {c : Class} (h : s.set.classInForce k = c) (hc : c ≠ .w) :
    judge k n s = takeCause k n c s := by
  subst h
  unfold judge
  split <;> simp_all

/-- A report of a class other than W is latched (R144, R145). -/
theorem judge_latches {k : Cause} (n : Period) {s : State} (h : s.set.classInForce k ≠ .w) :
    latchedActive k (judge k n s).1.pru = true := by
  rw [judge_cause n rfl h]
  exact takeCause_latches ..

/-- A report of class W whose condition holds is in the warning set (R142). -/
theorem judge_warns {k : Cause} (n : Period) {s : State} (h : s.set.classInForce k = .w) (hv : k ∈ s.pru.view) :
    k ∈ (judge k n s).1.pru.warnings := by
  rw [judge_warning n h]
  exact (takeWarning_warns hv).1

/-! ### Demands -/

theorem Moved.carried {d : Dsq} {s t : State} (h : Moved d s t) (hs : StuKept s.stu t.stu)
    (hd : Demanded s.dsq d) (hne : d.drive ≠ s.dsq.drive) (hh : ∀ x, HotRight x s → HotRight x t) : Carried K s t where
  base := h.base
  links := h.links
  set := h.set ▸ setAtEntry_steady ..
  rcu := by
    rw [h.rcu]
    exact ⟨rfl, rfl, rfl⟩
  stu := hs
  dsq := h.dsq ▸ hd
  conv x := by
    rw [h.conv x]
    exact (convTakeEnable_kept ..).trans (convHand_kept ..)
  pru := h.pru.pruKept.mono fun _ hk => hk.2.imp id fun hq => entryIds_quiet hq _
  hot x _ := hh x
  still hs := absurd (h.dsq ▸ hs) hne

theorem demand_carried (o : Sched) (c : Class) (s : State) : Carried K s (demand o c s) := by
  have hd : Demanded s.dsq (dsqDemand c s.dsq) := .single ⟨c, rfl⟩
  unfold demand
  by_cases h : (dsqDemand c s.dsq).drive = s.dsq.drive
  · rw [moveDrive_stay o h]
    exact ⟨⟨rfl, rfl, rfl, rfl, rfl, rfl⟩, .of_eq rfl, .refl _, .refl _, .refl _, hd, fun _ => .of_eq rfl, .refl _,
      fun _ _ hx => hx.of_same (.refl _) rfl rfl, fun _ => rfl⟩
  · exact (moveDrive_moved o h).carried (moveDrive_stu ..) hd h fun x => moveDrive_hot o _

theorem takeReport_carried (o : Sched) (k : Cause) (n : Period) (s : State) : Carried K s (takeReport o k n s) := by
  unfold takeReport
  split
  · exact judge_carried ..
  · exact (judge_carried ..).trans (demand_carried ..)

theorem takeReport_eq (o : Sched) (k : Cause) (n : Period) (s : State) : takeReport o k n s = (judge k n s).1 ∨
    ∃ c, takeReport o k n s = demand o c (judge k n s).1 := by
  unfold takeReport
  split
  · exact .inl rfl
  · exact .inr ⟨_, rfl⟩

/-- A report of a class other than W is latched when it has been taken, with the demand that it sends. -/
theorem takeReport_latches (o : Sched) {k : Cause} (n : Period) {s : State} (h : s.set.classInForce k ≠ .w) :
    latchedActive k (takeReport o k n s).pru = true := by
  rcases takeReport_eq o k n s with he | ⟨c, he⟩ <;> rw [he]
  · exact judge_latches n h
  · exact (demand_carried (K := fun _ => True) o c _).pru.latched k (judge_latches n h)

/-- A report of class W is taken without a demand. -/
theorem takeReport_warning (o : Sched) {k : Cause} (n : Period) {s : State} (h : s.set.classInForce k = .w) :
    takeReport o k n s = takeWarning k s := by
  unfold takeReport
  rw [judge_warning n h]

/-- A report of class B, F or S with no episode ACTIVE opens one and sends the demand of its class (R144, R146). -/
theorem takeReport_opens (o : Sched) {k : Cause} (n : Period) {s : State} {c : Class} (h : s.set.classInForce k = c)
    (hc : c ≠ .w) (hi : s.pru.active = false) : takeReport o k n s = demand o c (openEpisode k c s) := by
  unfold takeReport
  rw [judge_cause n h hc, takeCause, hi]
  rfl

/-! ### The watch -/

theorem judge_vwa (k : Cause) (n : Period) (s : State) : (judge k n s).1.vwa = s.vwa := by
  have hrise : ∀ (c : Class) (b : Bool) (u : State), (classRise c b u).1.vwa = u.vwa := fun c b u => by
    unfold classRise
    split
    · rw [raiseTo_eq]
    · rfl
  have hcause : ∀ c : Class, (takeCause k n c s).1.vwa = s.vwa := fun c => by
    unfold takeCause
    split
    · unfold latchReport
      split
      · rfl
      · rw [hrise]
      · rw [hrise]
    · rw [openEpisode_eq]
  unfold judge
  split
  · exact (takeWarning_same k s).vwa
  all_goals exact hcause _

theorem demand_vwa (o : Sched) (c : Class) (s : State) : (demand o c s).vwa = s.vwa := (moveDrive_units ..).2

theorem takeReport_vwa (o : Sched) (k : Cause) (n : Period) (s : State) : (takeReport o k n s).vwa = s.vwa := by
  rcases takeReport_eq o k n s with he | ⟨c, he⟩ <;> rw [he]
  · exact judge_vwa ..
  · rw [demand_vwa, judge_vwa]

end Sys2Proof.Machine
end

section
/-! The taking of a block's messages (R140, R148): what is no report first, and then the reports in the order given. -/

namespace Sys2Proof.Machine

variable {K : Cause → Prop}

/-! ### Orders -/

theorem mem_firsts {α : Type} [DecidableEq α] {x : α} {l : List α} : x ∈ firsts l ↔ x ∈ l := by
  induction l with
  | nil => exact .rfl
  | cons a l ih =>
    by_cases hx : x = a
    · simp [firsts, hx]
    · simp [firsts, hx, ih]

theorem nodup_firsts {α : Type} [DecidableEq α] (l : List α) : (firsts l).Nodup := by
  induction l with
  | nil => exact List.nodup_nil
  | cons a l ih => exact List.nodup_cons.mpr ⟨by simp, ih.filter _⟩

theorem mem_orderOf {α : Type} [DecidableEq α] {x : α} {named all : List α} : x ∈ orderOf named all ↔ x ∈ all := by
  by_cases h : x ∈ named <;> simp [orderOf, mem_firsts, h]

theorem nodup_orderOf {α : Type} [DecidableEq α] (named : List α) {all : List α} (h : all.Nodup) :
    (orderOf named all).Nodup := by
  refine List.nodup_append.mpr ⟨(nodup_firsts named).filter _, h.filter _, fun x hx y hy he => ?_⟩
  subst he
  obtain ⟨hx, -⟩ := List.mem_filter.mp hx
  obtain ⟨-, hy⟩ := List.mem_filter.mp hy
  rw [mem_firsts] at hx
  simp [hx] at hy

theorem mem_chanOrder (o : Sched) (n : Chan) : n ∈ chanOrder o := mem_orderOf.mpr (by cases n <;> decide)

theorem nodup_chanOrder (o : Sched) : (chanOrder o).Nodup := nodup_orderOf _ (by decide)

/-! ### What is no report -/

/-- No message is a report. -/
def noReports (ms : List Msg) : Prop := ∀ m ∈ ms, reportKind m = none

theorem noReports_cons {m : Msg} {ms : List Msg} (h : noReports (m :: ms)) : reportKind m = none ∧ noReports ms :=
  ⟨h m List.mem_cons_self, fun j hj => h j (List.mem_cons_of_mem _ hj)⟩

/-- The kinds of which no condition is published. -/
def untold (ms : List Msg) (k : Cause) : Prop := ∀ b, .cond k b ∉ ms

theorem pruCond_view_ne {j k : Cause} (h : j ≠ k) (b : Bool) (p : Pru) :
    (j ∈ (pruCond k b p).view ↔ j ∈ p.view) ∧ (j ∈ (pruCond k b p).warnings ↔ j ∈ p.warnings) := by
  cases b <;> simp [pruCond, h]

theorem takeCond_carried (k : Cause) (b : Bool) (s : State) : Carried (· ≠ k) s (takeCond k b s) := by
  refine SameDrive.carried ⟨⟨rfl, rfl, rfl, rfl, rfl, rfl⟩, rfl, rfl, rfl, rfl, rfl, rfl⟩ (.of_eq rfl) (.refl _) ?_
    fun x hx h => pruCond_hot_ne (Ne.symm hx) b h
  refine ⟨by cases b <;> rfl, fun j hj => (pruCond_view_ne hj.1 b _).1, fun j hj => (pruCond_view_ne hj.1 b _).2.mpr,
    fun h => ?_, fun j hj => ?_⟩
  · have he := pruCond_episode k b s.pru
    exact ⟨he.active.trans h, he.firstOut, he.record⟩
  · exact (latchedActive_of_same (pruCond_episode k b s.pru)).trans hj

theorem takeCapture_carried (x : Side) (c : FaultCapture) (s : State) :
    Carried K s { s with rcu := rcuTakeCapture x c s.rcu } := by
  refine SameDrive.carried ⟨⟨rfl, rfl, rfl, rfl, rfl, rfl⟩, rfl, rfl, rfl, rfl, rfl, rfl⟩ (.of_eq rfl) ?_ (.refl _)
    fun _ _ h => h.of_same (.refl _) rfl rfl
  change RcuKept s.rcu (rcuTakeCapture x c s.rcu)
  unfold rcuTakeCapture
  split
  · exact ⟨rfl, rfl, rfl⟩
  · split <;> exact ⟨rfl, rfl, rfl⟩

theorem takeMild_carried {m : Msg} (h : reportKind m = none) (s : State) : Carried (untold [m]) s (takeMild s m) := by
  cases m with
  | cond k b => exact (takeCond_carried k b s).mono fun j hj he => hj b (by simp [he])
  | report k n => cases h
  | notice k st => exact raise_carried ..
  | capture x c => exact takeCapture_carried ..

/-- Published conditions, notices and captures leave the kinds that are not published. -/
theorem raiseAll_carried {ms : List Msg} (h : noReports ms) (s : State) : Carried (untold ms) s (raiseAll ms s) := by
  induction ms generalizing s with
  | nil => exact .refl s
  | cons m ms ih =>
    obtain ⟨hm, hms⟩ := noReports_cons h
    refine Carried.trans ((takeMild_carried hm s).mono fun k hk b hb => hk b ?_) ((ih hms (takeMild s m)).mono fun k hk b hb => hk b ?_)
    · exact List.mem_singleton.mp hb ▸ List.mem_cons_self
    · exact List.mem_cons_of_mem _ hb

theorem takeMild_vwa (s : State) (m : Msg) : (takeMild s m).vwa = s.vwa := (takeMild_same s m).vwa

/-- The view of a kind after one message that is no report of it. -/
theorem takeMild_view {m : Msg} (h : reportKind m = none) (k : Cause) (s : State) :
    (m = .cond k true → k ∈ (takeMild s m).pru.view) ∧
    (m = .cond k false → k ∉ (takeMild s m).pru.view ∧ k ∉ (takeMild s m).pru.warnings) ∧
    ((∀ b, m ≠ .cond k b) → (k ∈ (takeMild s m).pru.view ↔ k ∈ s.pru.view) ∧
      (k ∈ (takeMild s m).pru.warnings ↔ k ∈ s.pru.warnings)) := by
  refine ⟨?_, ?_, fun hn => ?_⟩
  · rintro rfl
    simp [takeMild, takeCond, pruCond]
  · rintro rfl
    simp [takeMild, takeCond, pruCond]
  · cases m with
    | cond j b => exact pruCond_view_ne (fun he => hn b (by rw [he])) b s.pru
    | report j n => cases h
    | notice j st => exact ⟨.rfl, .rfl⟩
    | capture x c => exact ⟨.rfl, .rfl⟩

theorem raiseAll_view_mono {ms : List Msg} (h : noReports ms) {k : Cause} (hk : .cond k false ∉ ms) {s : State}
    (hv : k ∈ s.pru.view) : k ∈ (raiseAll ms s).pru.view := by
  induction ms generalizing s with
  | nil => exact hv
  | cons m ms ih =>
    obtain ⟨hm, hms⟩ := noReports_cons h
    obtain ⟨hne, hk⟩ := not_or.mp (mt List.mem_cons.mpr hk)
    obtain ⟨ht, -, hn⟩ := takeMild_view hm k s
    refine ih hms hk ?_
    by_cases he : m = .cond k true
    · exact ht he
    · exact (hn fun b => by cases b <;> [exact Ne.symm hne; exact he]).1.mpr hv

theorem raiseAll_view_anti {ms : List Msg} (h : noReports ms) {k : Cause} (hk : .cond k true ∉ ms) {s : State} :
    (k ∉ s.pru.view → k ∉ (raiseAll ms s).pru.view) ∧ (k ∉ s.pru.warnings → k ∉ (raiseAll ms s).pru.warnings) := by
  induction ms generalizing s with
  | nil => exact ⟨id, id⟩
  | cons m ms ih =>
    obtain ⟨hm, hms⟩ := noReports_cons h
    obtain ⟨hne, hk⟩ := not_or.mp (mt List.mem_cons.mpr hk)
    obtain ⟨-, hf, hn⟩ := takeMild_view hm k s
    obtain ⟨iv, iw⟩ := ih hms hk (s := takeMild s m)
    by_cases he : m = .cond k false
    · exact ⟨fun _ => iv (hf he).1, fun _ => iw (hf he).2⟩
    · obtain ⟨hv, hw⟩ := hn fun b => by cases b <;> [exact he; exact Ne.symm hne]
      exact ⟨fun h => iv (mt hv.mp h), fun h => iw (mt hw.mp h)⟩

/-- A condition that is published as holding, and not as clear, is in the view. -/
theorem raiseAll_joins {ms : List Msg} (h : noReports ms) {k : Cause} (ht : .cond k true ∈ ms) (hf : .cond k false ∉ ms)
    (s : State) : k ∈ (raiseAll ms s).pru.view := by
  obtain ⟨as, bs, rfl⟩ := List.append_of_mem ht
  rw [raiseAll_append]
  have hb : noReports bs := fun m hm => h m (by simp [hm])
  refine raiseAll_view_mono (k := k) (ms := bs) hb (by simp_all) (s := takeMild (raiseAll as s) (.cond k true)) ?_
  exact (takeMild_view rfl k _).1 rfl

/-- A condition that is published as clear, and not as holding, is neither in the view nor in the warning set. -/
theorem raiseAll_leaves {ms : List Msg} (h : noReports ms) {k : Cause} (hf : .cond k false ∈ ms) (ht : .cond k true ∉ ms)
    (s : State) : k ∉ (raiseAll ms s).pru.view ∧ k ∉ (raiseAll ms s).pru.warnings := by
  obtain ⟨as, bs, rfl⟩ := List.append_of_mem hf
  rw [raiseAll_append]
  have hb : noReports bs := fun m hm => h m (by simp [hm])
  obtain ⟨hv, hw⟩ := raiseAll_view_anti (k := k) (ms := bs) hb (by simp_all) (s := takeMild (raiseAll as s) (.cond k false))
  obtain ⟨-, hc, -⟩ := takeMild_view (m := .cond k false) rfl k (raiseAll as s)
  exact ⟨hv (hc rfl).1, hw (hc rfl).2⟩

theorem raiseAll_noticed {ms : List Msg} (h : noReports ms) {k : Notice} {st : Station} (hn : .notice k st ∈ ms) (s : State) :
    k ∈ ((raiseAll ms s).links.get st).notices ∧ ((raiseAll ms s).links.get st).attention = true := by
  obtain ⟨as, bs, rfl⟩ := List.append_of_mem hn
  rw [raiseAll_append]
  have hb : noReports bs := fun m hm => h m (by simp [hm])
  have hr := (raiseAll_carried hb (raise k st (raiseAll as s))).links st
  obtain ⟨hk, ha⟩ := raise_noticed k st (raiseAll as s)
  exact ⟨hr.notices _ hk, hr.attention ha⟩

/-! ### A block's messages -/

/-- What is no report of a block's messages. -/
def calmMsgs (ms : List Msg) : List Msg := ms.filter (fun m => (reportKind m).isNone)

/-- The reports of a block's messages, in the order `o` gives (R148). -/
def reportMsgs (o : Sched) (ms : List Msg) : List Msg :=
  (firsts o.reports).flatMap (fun k => ms.filter (fun m => decide (reportKind m = some k))) ++
  ms.filter (fun m => match reportKind m with | none => false | some k => !o.reports.contains k)

theorem orderMsgs_eq (o : Sched) (ms : List Msg) : orderMsgs o ms = calmMsgs ms ++ reportMsgs o ms :=
  List.append_assoc ..

theorem calmMsgs_noReports (ms : List Msg) : noReports (calmMsgs ms) := fun m hm => by
  simpa using (List.mem_filter.mp hm).2

theorem mem_calmMsgs {m : Msg} {ms : List Msg} : m ∈ calmMsgs ms ↔ m ∈ ms ∧ reportKind m = none := by simp [calmMsgs]

theorem cond_mem_calmMsgs {k : Cause} {b : Bool} {ms : List Msg} : .cond k b ∈ calmMsgs ms ↔ .cond k b ∈ ms := by
  simp [mem_calmMsgs, reportKind]

theorem notice_mem_calmMsgs {k : Notice} {st : Station} {ms : List Msg} : .notice k st ∈ calmMsgs ms ↔ .notice k st ∈ ms := by
  simp [mem_calmMsgs, reportKind]

theorem mem_reportMsgs {o : Sched} {m : Msg} {ms : List Msg} : m ∈ reportMsgs o ms ↔ m ∈ ms ∧ ∃ k n, m = .report k n := by
  simp only [reportMsgs, List.mem_append, List.mem_flatMap, List.mem_filter, mem_firsts]
  cases m with
  | report k n =>
    by_cases h : k ∈ o.reports <;> simp [reportKind, h]
  | cond k b => simp [reportKind]
  | notice k st => simp [reportKind]
  | capture x c => simp [reportKind]

/-- The state once what is no report of a block's messages has been taken. -/
def calmed (ms : List Msg) (s : State) : State := raiseAll (calmMsgs ms) s

theorem calmed_carried (ms : List Msg) (s : State) : Carried (untold ms) s (calmed ms s) :=
  (raiseAll_carried (calmMsgs_noReports ms) s).mono fun _ hk b hb => hk b (cond_mem_calmMsgs.mp hb)

theorem calmed_same (ms : List Msg) (s : State) : SameDrive s (calmed ms s) := raiseAll_same ..

theorem calmed_joins {ms : List Msg} {k : Cause} (ht : .cond k true ∈ ms) (hf : .cond k false ∉ ms) (s : State) :
    k ∈ (calmed ms s).pru.view :=
  raiseAll_joins (calmMsgs_noReports ms) (cond_mem_calmMsgs.mpr ht) (mt cond_mem_calmMsgs.mp hf) s

theorem calmed_leaves {ms : List Msg} {k : Cause} (hf : .cond k false ∈ ms) (ht : .cond k true ∉ ms) (s : State) :
    k ∉ (calmed ms s).pru.view ∧ k ∉ (calmed ms s).pru.warnings :=
  raiseAll_leaves (calmMsgs_noReports ms) (cond_mem_calmMsgs.mpr hf) (mt cond_mem_calmMsgs.mp ht) s

theorem calmed_noticed {ms : List Msg} {k : Notice} {st : Station} (h : .notice k st ∈ ms) (s : State) :
    k ∈ ((calmed ms s).links.get st).notices ∧ ((calmed ms s).links.get st).attention = true :=
  raiseAll_noticed (calmMsgs_noReports ms) (notice_mem_calmMsgs.mpr h) s

/-- What reports leave: the watch, and what `Carried` says with every kind left alone. -/
structure Reported (s t : State) : Prop extends Carried (fun _ => True) s t where
  vwa : t.vwa = s.vwa

theorem Reported.refl (s : State) : Reported s s := ⟨.refl s, rfl⟩

theorem Reported.trans {s t u : State} (h : Reported s t) (k : Reported t u) : Reported s u :=
  ⟨h.toCarried.trans k.toCarried, k.vwa.trans h.vwa⟩

theorem Reported.carried {s t : State} (h : Reported s t) : Carried K s t := h.toCarried.mono fun _ _ => trivial

theorem takeReport_reported (o : Sched) (k : Cause) (n : Period) (s : State) : Reported s (takeReport o k n s) :=
  ⟨takeReport_carried .., takeReport_vwa ..⟩

theorem judge_reported (k : Cause) (n : Period) (s : State) : Reported s (judge k n s).1 :=
  ⟨judge_carried .., judge_vwa ..⟩

theorem demand_reported (o : Sched) (c : Class) (s : State) : Reported s (demand o c s) :=
  ⟨demand_carried .., demand_vwa ..⟩

theorem Flow.send_reported (o : Sched) (later : List Taking) (c : Class) (f : Flow) :
    Reported f.state (Flow.send o later c f).state := by
  unfold Flow.send
  split
  · exact .refl _
  · exact demand_reported ..

theorem Flow.report_reported (o : Sched) (later : List Taking) (k : Cause) (n : Period) (f : Flow) :
    Reported f.state (Flow.report o later k n f).state := by
  unfold Flow.report
  split
  · exact judge_reported ..
  · exact (judge_reported k n f.state).trans (Flow.send_reported o later _ { f with state := (judge k n f.state).1 })

/-- A report that arrives is taken or waits. -/
theorem Flow.arrive_reported (o : Sched) (later : List Taking) (k : Cause) (n : Period) (f : Flow) :
    Reported f.state (Flow.arrive o later f (.report k n)).state := by
  unfold Flow.arrive
  split
  · exact .refl _
  · exact Flow.report_reported ..

theorem Flow.arrive_calm (o : Sched) (later : List Taking) (f : Flow) {m : Msg} (h : reportKind m = none) :
    Flow.arrive o later f m = { f with state := takeMild f.state m } := by
  cases m with
  | report k n => cases h
  | cond k b | notice k st | capture x c => rfl

/-- The messages of a block's work: what is no report is taken, and then the reports arrive. -/
theorem Flow.post_eq (o : Sched) (later : List Taking) (r : State × List Msg) (f : Flow) : Flow.post o later r f =
    (reportMsgs o r.2).foldl (Flow.arrive o later) { f with state := calmed r.2 r.1 } := by
  have hcalm : ∀ (ms : List Msg) (s : State), noReports ms →
      ms.foldl (Flow.arrive o later) { f with state := s } = { f with state := raiseAll ms s } := by
    intro ms
    induction ms with
    | nil => exact fun _ _ => rfl
    | cons m ms ih =>
      intro s h
      obtain ⟨hm, hms⟩ := noReports_cons h
      rw [List.foldl_cons, Flow.arrive_calm _ _ _ hm]
      exact ih _ hms
  rw [Flow.post, orderMsgs_eq, List.foldl_append, hcalm _ _ (calmMsgs_noReports _)]
  rfl

theorem Flow.arrivals_reported (o : Sched) (later : List Taking) {ms : List Msg} (h : ∀ m ∈ ms, ∃ k n, m = .report k n)
    (f : Flow) : Reported f.state (ms.foldl (Flow.arrive o later) f).state := by
  induction ms generalizing f with
  | nil => exact .refl _
  | cons m ms ih =>
    obtain ⟨k, n, rfl⟩ := h m List.mem_cons_self
    exact (Flow.arrive_reported o later k n f).trans (ih (fun m hm => h m (List.mem_cons_of_mem _ hm)) _)

/-- The reports of a block's work leave what `Reported` says of the state with its conditions published. -/
theorem Flow.post_reported (o : Sched) (later : List Taking) (r : State × List Msg) (f : Flow) :
    Reported (calmed r.2 r.1) (Flow.post o later r f).state := by
  rw [Flow.post_eq]
  exact Flow.arrivals_reported o later (fun m hm => (mem_reportMsgs.mp hm).2) { f with state := calmed r.2 r.1 }

theorem Flow.post_carried (o : Sched) (later : List Taking) (r : State × List Msg) (f : Flow) :
    Carried (untold r.2) r.1 (Flow.post o later r f).state :=
  (calmed_carried r.2 r.1).trans (Flow.post_reported o later r f).carried

theorem Flow.post_vwa (o : Sched) (later : List Taking) (r : State × List Msg) (f : Flow) :
    (Flow.post o later r f).state.vwa = r.1.vwa :=
  (Flow.post_reported o later r f).vwa.trans (calmed_same r.2 r.1).vwa

/-- A report among the messages of a block's work, none of which waits, is taken from a state that `Reported` links to
the one with the conditions published and to the one at the end. -/
theorem Flow.post_takes (o : Sched) {later : List Taking} {r : State × List Msg} {k : Cause} {n : Period}
    (hm : .report k n ∈ r.2) (hl : .report k ∉ later) (f : Flow) :
    ∃ g : Flow, Reported (calmed r.2 r.1) g.state ∧
      Reported (Flow.report o later k n g).state (Flow.post o later r f).state := by
  obtain ⟨as, bs, he⟩ := List.append_of_mem (mem_reportMsgs (o := o).mpr ⟨hm, k, n, rfl⟩)
  have hall : ∀ m ∈ reportMsgs o r.2, ∃ k n, m = .report k n := fun m hm => (mem_reportMsgs.mp hm).2
  rw [he] at hall
  refine ⟨as.foldl (Flow.arrive o later) { f with state := calmed r.2 r.1 }, ?_, ?_⟩
  · exact Flow.arrivals_reported o later (fun m hm => hall m (by simp [hm])) { f with state := calmed r.2 r.1 }
  · rw [Flow.post_eq, he, List.foldl_append, List.foldl_cons]
    have ha : ∀ g, Flow.arrive o later g (.report k n) = Flow.report o later k n g := fun g =>
      if_neg (by simpa [mustWait] using hl)
    rw [ha]
    exact Flow.arrivals_reported o later (fun m hm => hall m (by simp [hm])) _

theorem Flow.report_latches (o : Sched) (later : List Taking) {k : Cause} (n : Period) {f : Flow}
    (h : f.state.set.classInForce k ≠ .w) : latchedActive k (Flow.report o later k n f).state.pru = true := by
  unfold Flow.report
  split
  · exact judge_latches n h
  · exact (Flow.send_reported o later _ { f with state := (judge k n f.state).1 }).pru.latched k (judge_latches n h)

theorem Flow.report_warns (o : Sched) (later : List Taking) {k : Cause} (n : Period) {f : Flow}
    (h : f.state.set.classInForce k = .w) :
    Flow.report o later k n f = { f with state := takeWarning k f.state } := by
  unfold Flow.report
  rw [judge_warning n h]

/-- A report of a class other than W that does not wait is latched (R144, R145). -/
theorem Flow.post_latches (o : Sched) {later : List Taking} {r : State × List Msg} {k : Cause} {n : Period}
    (hm : .report k n ∈ r.2) (hl : .report k ∉ later) (f : Flow)
    (hc : ∀ z, SetSteady r.1.set z → z.classInForce k ≠ .w) :
    latchedActive k (Flow.post o later r f).state.pru = true := by
  obtain ⟨g, hg, ht⟩ := Flow.post_takes o hm hl f
  refine ht.pru.latched k (Flow.report_latches o later n (hc _ ?_))
  exact (calmed_same r.2 r.1).set ▸ hg.set

/-- A report of class W that does not wait is in the warning set, where its condition is published as holding and not as
clear, and the kind is left alone at an apply of settings (R142). -/
theorem Flow.post_warns (o : Sched) {later : List Taking} {r : State × List Msg} {k : Cause} {n : Period}
    (hm : .report k n ∈ r.2) (hl : .report k ∉ later) (f : Flow) (hc : ∀ z, SetSteady r.1.set z → z.classInForce k = .w)
    (hk : notHot k ∨ quietThermal r.1.set) (ht : .cond k true ∈ r.2) (hf : .cond k false ∉ r.2) :
    k ∈ (Flow.post o later r f).state.pru.warnings := by
  obtain ⟨g, hg, hu⟩ := Flow.post_takes o hm hl f
  have hset : (calmed r.2 r.1).set = r.1.set := (calmed_same r.2 r.1).set
  have hk' : notHot k ∨ quietThermal (calmed r.2 r.1).set := hset.symm ▸ hk
  have hz : SetSteady r.1.set g.state.set := hset ▸ hg.set
  have hview : k ∈ g.state.pru.view := (hg.pru.view k ⟨trivial, hk'⟩).mpr (calmed_joins ht hf r.1)
  rw [Flow.report_warns o later n (hc _ hz)] at hu
  refine hu.pru.warnings k ⟨trivial, ?_⟩ (takeWarning_warns hview).1
  exact hk'.imp id fun hq => (takeWarning_same k g.state).set.symm ▸ hg.set.quiet hq

/-- The messages delivered outside a flow. -/
theorem deliver_eq (o : Sched) (ms : List Msg) (s : State) :
    deliver o ms s = (Flow.post o [] (s, ms) { state := s, mail := [] }).state := by
  rw [Flow.post_now]

theorem deliver_reported (o : Sched) (ms : List Msg) (s : State) : Reported (calmed ms s) (deliver o ms s) := by
  rw [deliver_eq]
  exact Flow.post_reported o [] (s, ms) { state := s, mail := [] }

theorem deliver_carried (o : Sched) (ms : List Msg) (s : State) : Carried (untold ms) s (deliver o ms s) := by
  rw [deliver_eq]
  exact Flow.post_carried o [] (s, ms) { state := s, mail := [] }

theorem deliver_latches (o : Sched) {ms : List Msg} {k : Cause} {n : Period} (hm : .report k n ∈ ms) (s : State)
    (hc : ∀ z, SetSteady s.set z → z.classInForce k ≠ .w) : latchedActive k (deliver o ms s).pru = true := by
  rw [deliver_eq]
  exact Flow.post_latches o (r := (s, ms)) hm List.not_mem_nil _ hc

theorem deliver_warns (o : Sched) {ms : List Msg} {k : Cause} {n : Period} (hm : .report k n ∈ ms) (s : State)
    (hc : ∀ z, SetSteady s.set z → z.classInForce k = .w) (hk : notHot k ∨ quietThermal s.set)
    (ht : .cond k true ∈ ms) (hf : .cond k false ∉ ms) : k ∈ (deliver o ms s).pru.warnings := by
  rw [deliver_eq]
  exact Flow.post_warns o (r := (s, ms)) hm List.not_mem_nil _ hc hk ht hf

/-- Without reports a block's messages are taken as they are. -/
theorem deliver_calm (o : Sched) {ms : List Msg} (h : noReports ms) (s : State) : deliver o ms s = raiseAll ms s := by
  have hr : reportMsgs o ms = [] := List.eq_nil_iff_forall_not_mem.mpr fun m hm => by
    obtain ⟨hm, k, n, rfl⟩ := mem_reportMsgs.mp hm
    exact absurd (h _ hm) (by simp [reportKind])
  have hc : calmMsgs ms = ms := List.filter_eq_self.mpr fun m hm => by simp [h m hm]
  rw [deliver_eq, Flow.post_eq, hr, calmed, hc]
  rfl

/-! ### Work channel by channel -/

/-- Each channel's work, and its messages, leave the kinds of `K` alone. -/
theorem eachChan_carried (o : Sched) (later : List Taking) {work : Chan → State → State × List Msg}
    (h : ∀ n s, Carried K s (work n s).1) (hm : ∀ n s k, K k → untold (work n s).2 k) (f : Flow) :
    Carried K f.state (eachChan o later work f).state := by
  unfold eachChan
  generalize chanOrder o = ns
  induction ns generalizing f with
  | nil => exact .refl _
  | cons n ns ih =>
    have hpost := (Flow.post_carried o later (work n f.state) f).mono (L := K) (hm n f.state)
    exact ((h n f.state).trans hpost).trans (ih _)

end Sys2Proof.Machine
end

section
/-! The two resets: every block at its values of release, and the report of EXT_TRIP where its line is active then. -/

namespace Sys2Proof.Machine

/-- A release of the part at `t` with the lines `p`, and the record unit that it leaves. -/
inductive Release (t : Tick) (p : Pins) (o : Sched) (s : State) : Instr → Rcu → Prop
  | powerOn : Release t p o s (.powerOn t p o) rcuRelease
  | resetLine : Release t p o s (.resetLineRelease t p o) (rcuResetLine s.rcu)

theorem Release.of_or {t : Tick} {p : Pins} {o : Sched} {s : State} {i : Instr}
    (h : i = .powerOn t p o ∨ i = .resetLineRelease t p o) : ∃ u, Release t p o s i u := by
  rcases h with rfl | rfl
  · exact ⟨_, .powerOn⟩
  · exact ⟨_, .resetLine⟩

theorem Release.exec {t : Tick} {p : Pins} {o : Sched} {s : State} {i : Instr} {u : Rcu} (h : Release t p o s i u) :
    exec i s = .next (extAtRelease o (released t p u s)) := by
  cases h <;> rfl

/-- What the record unit has after either release, its store apart (R179, R180). -/
theorem Release.rcu {t : Tick} {p : Pins} {o : Sched} {s : State} {i : Instr} {u : Rcu} (h : Release t p o s i u) :
    u = { rcuRelease with slots := u.slots, age := u.age, counter := u.counter } := by
  cases h <;> rfl

/-- With EXT_TRIP inactive nothing is reported at the release. -/
theorem extAtRelease_inactive {t : Tick} {p : Pins} (hp : p.extTrip = false) (o : Sched) (u : Rcu) (s : State) :
    extAtRelease o (released t p u s) = released t p u s := by
  unfold extAtRelease
  rw [if_neg]
  simpa [released, pruRelease, qualifierRelease] using hp

/-- The part at a release with EXT_TRIP active, its condition published and not yet reported (R154). -/
def extPublished (t : Tick) (p : Pins) (u : Rcu) (s : State) : State :=
  { released t p u s with pru := pruCond .extTrip true { pruRelease true with extCond := true } }

/-- The sequencer at a release with EXT_TRIP active (R130). -/
def dsqExtTripped : Dsq := dsqDemand .b dsqRelease

theorem setRelease_quiet (d : Drive) : quietEntry d setRelease := fun _ =>
  ⟨by decide +kernel, by decide +kernel⟩

/-- With EXT_TRIP active its report opens a class B episode, and the drive moves to TRIPPED (R130, R144, R154). -/
theorem extAtRelease_active {t : Tick} {p : Pins} (hp : p.extTrip = true) (o : Sched) (u : Rcu) (s : State) :
    extAtRelease o (released t p u s) = quietMove dsqExtTripped (openEpisode .extTrip .b (extPublished t p u s)) := by
  have hlevel : (released t p u s).pru.ext.level = true := hp
  have hpub : ({ released t p u s with pru := pruCond .extTrip true { (released t p u s).pru with extCond := true } } : State) =
      extPublished t p u s := by
    unfold extPublished released
    rw [hp]
  have hclass : setRelease.classInForce .extTrip = .b := by decide +kernel
  unfold extAtRelease
  rw [if_pos hlevel, hpub, takeReport_opens o _ hclass (by decide) rfl]
  have hdsq : (openEpisode .extTrip .b (extPublished t p u s)).dsq = dsqRelease := by
    rw [openEpisode_eq]
    rfl
  have hset : (openEpisode .extTrip .b (extPublished t p u s)).set = setRelease := by
    rw [openEpisode_eq]
    rfl
  unfold demand
  rw [hdsq]
  refine moveDrive_quiet o ?_ (hset.symm ▸ setRelease_quiet _)
  rw [hdsq]
  decide

/-- The blocks that the report of EXT_TRIP at a release leaves. -/
structure KeptAtRelease (s t : State) : Prop extends SameBase s t where
  cca : t.cca = s.cca
  ccb : t.ccb = s.ccb
  stu : t.stu = s.stu
  vwa : t.vwa = s.vwa
  active : t.set.active = s.set.active
  staged : t.set.staged = s.set.staged

theorem extAtRelease_kept (t : Tick) (p : Pins) (o : Sched) (u : Rcu) (s : State) :
    KeptAtRelease (released t p u s) (extAtRelease o (released t p u s)) := by
  cases hp : p.extTrip with
  | false =>
    rw [extAtRelease_inactive hp]
    exact ⟨.refl _, rfl, rfl, rfl, rfl, rfl, rfl⟩
  | true =>
    have hstu : stuDrive setRelease 0 .blocked .tripped stuRelease = stuRelease := by decide +kernel
    rw [extAtRelease_active hp, quietMove_eq, openEpisode_eq]
    exact ⟨⟨rfl, rfl, rfl, rfl, rfl, rfl⟩, rfl, rfl, hstu, rfl, rfl, rfl⟩

/-- Settles O3: the report of EXT_TRIP leaves the link rate, the synchroniser and the measurement unit of the release. -/
theorem resetSynchroniserAndMeasurement : Obligations.ResetSynchroniserAndMeasurement := by
  intro i t p o s hi
  obtain ⟨u, hu⟩ := Release.of_or (s := s) hi
  have hk := (extAtRelease_kept t p o u s).toSameBase
  refine ⟨_, hu.exec, hk.now, ?_, hk.msy, hk.issued, ?_⟩
  · rw [hk.rate]
    cases h1 : p.rsel1 <;> cases h0 : p.rsel0 <;> simp [released, rateOf, h1, h0]
  · rw [hk.meu]
    exact ⟨rfl, rfl, fun x => by cases x <;> exact ⟨rfl, rfl⟩, fun n => by cases n <;> rfl, rfl, rfl, rfl, rfl, rfl⟩

/-- Settles O4: the drive that EXT_TRIP moves at the release finds every value that a stop would set as it stands. -/
theorem resetConvertersTorqueAndWatch : Obligations.ResetConvertersTorqueAndWatch := by
  intro i t p o s hi
  obtain ⟨u, hu⟩ := Release.of_or (s := s) hi
  have hk := extAtRelease_kept t p o u s
  refine ⟨_, hu.exec, fun x => ?_, ?_, ?_, ?_, ?_, ?_, ?_⟩
  · cases x
    · exact hk.cca
    · exact hk.ccb
  · exact hk.stu
  · rw [hk.vwa]
    rfl
  · rw [hk.vwa]
    exact fun n => by cases n <;> rfl
  · rw [hk.vwa]
    exact fun n => by cases n <;> rfl
  · exact hk.active
  · exact hk.staged

/-! ### The record store through the reset line -/

theorem slotOf_eq_some {n : Nat} {u : Rcu} {i : SlotIx} (h : slotOf n u = some i) :
    ∃ r, u.slots.get i = some r ∧ r.number = n := by
  have hi := List.find?_some h
  cases hr : u.slots.get i with
  | none => simp [hr] at hi
  | some r => exact ⟨r, rfl, by simpa [hr] using hi⟩

theorem slotOf_eq_none {n : Nat} {u : Rcu} (h : slotOf n u = none) {i : SlotIx} {r : Record} (hr : u.slots.get i = some r) :
    r.number ≠ n := by
  have hi := List.find?_eq_none.mp h i (mem_allSlots i)
  simpa [hr] using hi

/-- A slot that is freed is the one named; the others stay. -/
theorem freeIfRead_slot_ne {i j : SlotIx} (u : Rcu) (h : j ≠ i) : (freeIfRead i u).slots.get j = u.slots.get j := by
  unfold freeIfRead
  split
  · rfl
  · split
    · exact Six.get_put_ne _ _ h
    · rfl

theorem freeIfRead_slot_none {i j : SlotIx} {u : Rcu} (h : u.slots.get j = none) : (freeIfRead i u).slots.get j = none := by
  by_cases hj : j = i
  · subst hj
    unfold freeIfRead
    rw [h]
    exact h
  · rw [freeIfRead_slot_ne u hj, h]

/-- The slot of a sealed record that is not pinned, after the test of its marks (R171). -/
theorem freeIfRead_slot {i : SlotIx} {u : Rcu} {r : Record} (h : u.slots.get i = some r) (hs : r.isSealed = true)
    (hp : u.pinned ≠ some r.number) :
    (freeIfRead i u).slots.get i = if r.interest.within r.marks then none else some r := by
  unfold freeIfRead
  rw [h]
  dsimp only
  rw [hs, decide_eq_true hp, Bool.true_and, Bool.true_and]
  split
  · exact Six.get_put ..
  · exact h

/-- The record unit at the reset line with its FILLING record sealed, before the pinned record is released (R180). -/
def sealedStore (u : Rcu) : Rcu :=
  { u with
    slots := ⟨u.slots.s0.map sealAtReset, u.slots.s1.map sealAtReset, u.slots.s2.map sealAtReset,
              u.slots.s3.map sealAtReset, u.slots.s4.map sealAtReset, u.slots.s5.map sealAtReset⟩,
    filling := none }

theorem sealedStore_slot (u : Rcu) (i : SlotIx) : (sealedStore u).slots.get i = (u.slots.get i).map sealAtReset := by
  cases i <;> rfl

theorem sealAtReset_sealed (r : Record) : (sealAtReset r).isSealed = true := by
  unfold sealAtReset
  split
  · assumption
  · rfl

theorem sealAtReset_rest (r : Record) : (sealAtReset r).number = r.number ∧ (sealAtReset r).interest = r.interest ∧
    (sealAtReset r).marks = r.marks := by
  unfold sealAtReset
  split <;> exact ⟨rfl, rfl, rfl⟩

theorem rcuResetLine_slots (u : Rcu) : (rcuResetLine u).slots = (rcuUnpin (sealedStore u)).slots := rfl

theorem rcuResetLine_age (u : Rcu) : (rcuResetLine u).age = (rcuUnpin (sealedStore u)).age := rfl

/-- The release of the pinned record leaves a slot that is FREE. -/
theorem rcuUnpin_slot_none {i : SlotIx} {u : Rcu} (h : u.slots.get i = none) : (rcuUnpin u).slots.get i = none := by
  unfold rcuUnpin
  split
  · exact h
  · split
    · exact h
    · exact freeIfRead_slot_none h

theorem rcuUnpin_counter (u : Rcu) : (rcuUnpin u).counter = u.counter := by
  unfold rcuUnpin freeIfRead
  split
  · rfl
  · split
    · rfl
    · split
      · rfl
      · split <;> rfl

/-- The release of the pinned record leaves a record that is not the pinned one. -/
theorem rcuUnpin_slot_other {i : SlotIx} {u : Rcu} {r : Record} (h : u.slots.get i = some r)
    (hp : u.pinned ≠ some r.number) : (rcuUnpin u).slots.get i = some r := by
  unfold rcuUnpin
  split
  · exact h
  · rename_i n hn
    split
    · exact h
    · rename_i j hj
      obtain ⟨q, hq, rfl⟩ := slotOf_eq_some hj
      have hne : i ≠ j := by
        rintro rfl
        cases h.symm.trans hq
        exact hp hn
      exact (freeIfRead_slot_ne _ hne).trans h

/-- The pinned record, SEALED and in one slot alone, becomes FREE where its whole interest set has read it (R171). -/
theorem rcuUnpin_slot_pinned {i : SlotIx} {u : Rcu} {r : Record} (h : u.slots.get i = some r) (hs : r.isSealed = true)
    (hp : u.pinned = some r.number) (hone : ∀ j q, u.slots.get j = some q → q.number = r.number → j = i) :
    (rcuUnpin u).slots.get i = if r.interest.within r.marks then none else some r := by
  unfold rcuUnpin
  rw [hp]
  dsimp only
  cases hj : slotOf r.number u with
  | none => exact absurd rfl (slotOf_eq_none hj h)
  | some j =>
    obtain ⟨q, hq, hn⟩ := slotOf_eq_some hj
    cases hone j q hq hn
    exact freeIfRead_slot (u := { u with pinned := none }) h hs (fun hc => by cases hc)

/-- Settles O6: the reset line seals what was FILLING and releases the pinned record, slot by slot. -/
theorem resetLineKeepsTheRecordStore : Obligations.ResetLineKeepsTheRecordStore := by
  intro t p o s hp
  refine ⟨⟨_, (Release.powerOn (t := t) (p := p) (o := o) (s := s)).exec, ?_⟩,
    ⟨_, (Release.resetLine (t := t) (p := p) (o := o) (s := s)).exec, ?_⟩⟩
  · rw [extAtRelease_inactive hp]
    exact ⟨rfl, rfl, fun i => by cases i <;> rfl⟩
  · rw [extAtRelease_inactive hp]
    change (rcuResetLine s.rcu).counter = _ ∧ (_ → (rcuResetLine s.rcu).age = _) ∧
      ∀ i, (_ → (rcuResetLine s.rcu).slots.get i = _) ∧ (∀ r, _ → _ → (rcuResetLine s.rcu).slots.get i = _) ∧
        (∀ r, _ → _ → _ → (rcuResetLine s.rcu).slots.get i = _)
    rw [rcuResetLine_slots]
    have hseal : ∀ {i : SlotIx} {r : Record}, s.rcu.slots.get i = some r →
        (sealedStore s.rcu).slots.get i = some (sealAtReset r) := fun hr => by rw [sealedStore_slot, hr]; rfl
    refine ⟨rcuUnpin_counter _, fun hn => ?_, fun i => ⟨fun hr => ?_, fun r hr hne => ?_, fun r hr he hone => ?_⟩⟩
    · have hpin : (sealedStore s.rcu).pinned = none := hn
      rw [rcuResetLine_age, rcuUnpin, hpin]
      rfl
    · exact rcuUnpin_slot_none (by rw [sealedStore_slot, hr]; rfl)
    · have hpin : (sealedStore s.rcu).pinned ≠ some (sealAtReset r).number := by
        rw [(sealAtReset_rest r).1]
        exact hne
      exact rcuUnpin_slot_other (hseal hr) hpin
    · obtain ⟨hnum, hint, hmarks⟩ := sealAtReset_rest r
      have hpin : (sealedStore s.rcu).pinned = some (sealAtReset r).number := by
        rw [hnum]
        exact he
      have h := rcuUnpin_slot_pinned (hseal hr) (sealAtReset_sealed r) hpin fun j q hq hqn => by
        rw [sealedStore_slot, Option.map_eq_some_iff] at hq
        obtain ⟨a, ha, rfl⟩ := hq
        exact hone j a ha ((sealAtReset_rest a).1.symm.trans (hqn.trans hnum))
      rwa [hint, hmarks] at h

/-! ### The sequencer, the protection unit and the links -/

theorem linkRelease_eq (t : Tick) (n : Nat) : linkRelease t n =
    { rx := .hunt, gap := none,
      low := (match n with
        | 0 => none
        | n + 1 => some { run := { span := { start := t, length := n + 1 }, dips := [] }, error := false,
                          served := false }),
      waiting := none, reply := none, cut := none, notices := [.restarted], attention := true } := by
  cases n <;> rfl

theorem linksRelease_get (t : Tick) (p : Pins) (k : Station) :
    (linksRelease t p).get k = linkRelease t (match k with | .c => p.rxC | .p => p.rxP | .m => p.rxM) := by
  cases k <;> rfl

/-- With no record FILLING there is none to cut short. -/
theorem truncateManual_free {u : Rcu} (h : u.filling = none) : truncateManual u = (u, []) := by
  unfold truncateManual
  rw [h]

/-- A slot is FREE: the lowest-numbered one is chosen (R164). -/
theorem chooseSlot_free {u : Rcu} (h : ∃ j, u.slots.get j = none) :
    ∃ j, chooseSlot u = some j ∧ u.slots.get j = none := by
  obtain ⟨k, hk⟩ := h
  obtain ⟨j, hj⟩ : ∃ j, allSlots.find? (fun i => (u.slots.get i).isNone) = some j :=
    Option.isSome_iff_exists.mp (List.find?_isSome.mpr ⟨k, mem_allSlots k, by simp [hk]⟩)
  exact ⟨j, by rw [chooseSlot, hj]; rfl, by simpa using List.find?_some hj⟩

/-- A new record in the slot chosen, where the ring is empty: it waits for its trigger entry (R165). -/
theorem newRecord_waits {z : SetTable} {base : Record} {u : Rcu} {j : SlotIx} (hj : chooseSlot u = some j)
    (hr : u.ring = []) : (newRecord z base u).1.mark = true ∧ (newRecord z base u).1.filling = some j ∧
      ∃ r, (newRecord z base u).1.slots.get j = some r ∧ r.number = base.number ∧ r.kind = base.kind ∧
        r.firstOut = base.firstOut ∧ r.entries = [] := by
  have hform : formRecord z u base = { base with
      pre := 0, post := min z.postCount recordCapacity, entries := [], trigger := none, capA := none, capB := none,
      isSealed := false } := by
    unfold formRecord
    rw [hr]
  unfold newRecord
  rw [hj]
  dsimp only
  rw [hform]
  exact ⟨rfl, rfl, _, Six.get_put .., rfl, rfl, rfl, rfl⟩

/-- Settles O5: with EXT_TRIP inactive every value is that of the release; with it active the report opens an episode of
the counter's number (`openEpisode_eq`), and its demand moves the drive (`quietMove_eq`). -/
theorem resetSequencerProtectionAndLinks : Obligations.ResetSequencerProtectionAndLinks := by
  constructor
  · intro i t p o s hi hp
    obtain ⟨u, hu⟩ := Release.of_or (s := s) hi
    refine ⟨_, hu.exec, ?_⟩
    rw [extAtRelease_inactive hp]
    refine ⟨rfl, ?_, fun k => ?_, ?_⟩
    · change pruRelease p.extTrip = _
      rw [hp]
      rfl
    · refine (linksRelease_get t p k).trans ?_
      cases k <;> exact linkRelease_eq ..
    · change u.ring = [] ∧ u.filling = none ∧ u.pinned = none ∧ u.mark = false ∧ u.latest = _ ∧ u.cursors = _ ∧
        u.driveView = _
      rw [hu.rcu]
      exact ⟨rfl, rfl, rfl, rfl, rfl, rfl, rfl⟩
  · intro i t p o s n hp hi
    obtain ⟨u, hu, hn, hfree⟩ : ∃ u, Release t p o s i u ∧ u.counter = n ∧
        (i = .powerOn t p o ∨ (∃ j, s.rcu.slots.get j = none) → ∃ j, u.slots.get j = none) := by
      rcases hi with ⟨rfl, rfl⟩ | ⟨rfl, rfl⟩
      · exact ⟨_, .powerOn, rfl, fun _ => ⟨.s0, rfl⟩⟩
      · refine ⟨_, .resetLine, rcuUnpin_counter _, fun h => ?_⟩
        rcases h with h | ⟨j, hj⟩
        · cases h
        · exact ⟨j, rcuUnpin_slot_none (u := sealedStore s.rcu) (by rw [sealedStore_slot, hj]; rfl)⟩
    refine ⟨_, hu.exec, ?_⟩
    rw [extAtRelease_active hp]
    have hlinks := (openEpisode_raised .extTrip .b (extPublished t p u s)).trans
      (quietMove_raised dsqExtTripped (openEpisode .extTrip .b (extPublished t p u s)))
    have hepisode := openEpisode_noticed .extTrip .b (extPublished t p u s)
    have hmove := quietMove_raised dsqExtTripped (openEpisode .extTrip .b (extPublished t p u s))
    have hrestarted : ∀ k, .restarted ∈ ((extPublished t p u s).links.get k).notices := fun k => by
      change Notice.restarted ∈ ((linksRelease t p).get k).notices
      rw [linksRelease_get]
      exact List.mem_singleton.mpr rfl
    generalize hv : quietMove dsqExtTripped (openEpisode .extTrip .b (extPublished t p u s)) = v at hlinks hmove ⊢
    have hpin := rcuTrigger_pinned setRelease .extTrip .b .blocked u
    have hv : v = { openEpisode .extTrip .b (extPublished t p u s) with
        dsq := v.dsq, cca := v.cca, ccb := v.ccb, stu := v.stu, pru := v.pru, rcu := v.rcu, set := v.set, links := v.links } ∧
        v.dsq = dsqExtTripped ∧
        v.pru = { pruOpen .extTrip .b (extPublished t p u s).pru with record := some u.counter, driveView := .tripped } ∧
        v.rcu = { (rcuTrigger setRelease .extTrip .b .blocked u).1 with driveView := .tripped } := by
      rw [← hv, quietMove_eq, openEpisode_eq]
      exact ⟨rfl, rfl, rfl, rfl⟩
    obtain ⟨-, hdsq, hpru, hrcu⟩ := hv
    have hview : (pruCond .extTrip true { pruRelease true with extCond := true }).view = [.extTrip] := by decide
    rw [hdsq, hpru, hrcu]
    refine ⟨rfl, rfl, hview, rfl, rfl, rfl, rfl, congrArg some hn, hpin.trans (congrArg some hn), rfl, rfl, rfl, rfl,
      rfl, fun h => ?_, fun k => ?_⟩
    · have hring : u.ring = [] := by rw [hu.rcu]; rfl
      have hfilling : u.filling = none := by rw [hu.rcu]; rfl
      obtain ⟨j, hj, -⟩ := chooseSlot_free (hfree h)
      obtain ⟨hmark, hfill, r, hr, hnum, hkind, hfirst, hentries⟩ :=
        newRecord_waits (z := setRelease) (base := tripBase setRelease .extTrip .b .blocked u) hj hring
      have htrig : (rcuTrigger setRelease .extTrip .b .blocked u).1 =
          { (newRecord setRelease (tripBase setRelease .extTrip .b .blocked u) u).1 with pinned := some u.counter } := by
        unfold rcuTrigger
        rw [truncateManual_free hfilling]
      rw [htrig]
      exact ⟨hmark, j, r, hfill, hr, hnum.trans hn, hkind, hfirst, hentries⟩
    · have hm := hmove k
      exact ⟨hm.attention (hepisode k).2, (hlinks k).notices _ (hrestarted k), hm.notices _ (hepisode k).1⟩

end Sys2Proof.Machine
end

section
/-! The mains synchroniser's commands: raw edges, qualified crossings in each sync state, the locking timeout and the
close of a window (sections 1.1 to 1.4). -/

namespace Sys2Proof.Machine

/-! ### Raw edges -/

/-- A raw edge starts a candidate, or drops it on a return to the qualified level (R3). -/
theorem qualRaw_eq (b : Bool) (t : Tick) (q : Qualifier) : qualRaw b t q =
    { level := q.level, cand := if b = q.level then none else q.cand.or (some { level := b, stamp := t }) } := by
  obtain ⟨l, c⟩ := q
  unfold qualRaw
  split
  · rfl
  · cases c <;> rfl

theorem crossingCaughtUp_early {l : ZLine} {t : Tick} {s : State}
    (h : ∀ c, (s.msy.line l).cand = some c → since t c.stamp < 256) (o : Sched) : crossingCaughtUp l t o s = s := by
  unfold crossingCaughtUp
  split
  · rfl
  · exact if_neg (Nat.not_le.mpr (h _ ‹_›))

theorem pulseCaughtUp_early {l : PulseLine} {t : Tick} {s : State}
    (h : ∀ c, (s.meu.line l).cand = some c → since t c.stamp < 200) (o : Sched) : pulseCaughtUp l t o s = s := by
  unfold pulseCaughtUp
  split
  · rfl
  · exact if_neg (Nat.not_le.mpr (h _ ‹_›))

theorem extCaughtUp_early {t : Tick} {s : State} (h : ∀ c, s.pru.ext.cand = some c → since t c.stamp < 2000) (o : Sched) :
    extCaughtUp t o s = s := by
  unfold extCaughtUp
  split
  · rfl
  · exact if_neg (Nat.not_le.mpr (h _ ‹_›))

theorem exec_zeroCrossRawEdge {l : ZLine} {t : Tick} {s : State}
    (h : ∀ c, (s.msy.line l).cand = some c → since t c.stamp < 256) (b : Bool) (o : Sched) :
    exec (.zeroCrossRawEdge l b t o) s = .next (rawCrossing l b t s) :=
  congrArg (fun u => Host.Outcome.next (rawCrossing l b t u)) (crossingCaughtUp_early h o)

theorem exec_pulseRawEdge {l : PulseLine} {t : Tick} {s : State}
    (h : ∀ c, (s.meu.line l).cand = some c → since t c.stamp < 200) (b : Bool) (o : Sched) :
    exec (.pulseRawEdge l b t o) s = .next (rawPulse l b t s) :=
  congrArg (fun u => Host.Outcome.next (rawPulse l b t u)) (pulseCaughtUp_early h o)

theorem exec_extTripRawEdge {t : Tick} {s : State} (h : ∀ c, s.pru.ext.cand = some c → since t c.stamp < 2000) (b : Bool)
    (o : Sched) : exec (.extTripRawEdge b t o) s = .next (rawExt b t s) :=
  congrArg (fun u => Host.Outcome.next (rawExt b t u)) (extCaughtUp_early h o)

/-! ### Qualified crossings -/

/-- The synchroniser becomes `r.1` at a qualified crossing of `c`, and publishes `r.2` (R3). -/
def crossed (o : Sched) (c : Candidate) (r : Msy × List SyncEvent) (s : State) : Host.Outcome State Fault Refusal :=
  .next (syncTaken o r { s with now := c.stamp + 256#32 })

theorem exec_qualifiedCrossing {l : ZLine} {s : State} {c : Candidate} (h : (s.msy.line l).cand = some c) (o : Sched) :
    exec (.qualifiedCrossing l o) s = crossed o c (msyQualify s.set.settleCount s.set.windowHalf l c s.msy) s := by
  change Host.Outcome.next (match (s.msy.line l).cand with | none => s | some c => crossingTaken l c o s) = _
  rw [h]
  rfl

/-- A crossing that publishes nothing changes the synchroniser alone. -/
theorem crossed_quiet (o : Sched) (c : Candidate) (m : Msy) (s : State) :
    crossed o c (m, []) s = .next { s with now := c.stamp + 256#32, msy := m } := rfl

theorem msyQualify_falling {l : ZLine} {c : Candidate} (h : c.level = false) (settle half : Nat) (m : Msy) :
    msyQualify settle half l c m = (m.putLine l ⟨false, none⟩, []) := by
  simp [msyQualify, qualTake, h]

theorem msyQualify_zb {c : Candidate} (h : c.level = true) (settle half : Nat) (m : Msy) :
    msyQualify settle half .zb c m = ({ m with zb := ⟨true, none⟩, lastZb := some c.stamp }, []) := by
  simp [msyQualify, qualTake, h, Msy.putLine]

theorem msyQualify_zc {c : Candidate} (h : c.level = true) (settle half : Nat) (m : Msy) :
    msyQualify settle half .zc c m = ({ m with zc := ⟨true, none⟩, lastZc := some c.stamp }, []) := by
  simp [msyQualify, qualTake, h, Msy.putLine]

/-- The synchroniser with the level of ZA qualified as high. -/
def zaHigh (m : Msy) : Msy := { m with za := ⟨true, none⟩ }

theorem msyQualify_za {c : Candidate} (h : c.level = true) (settle half : Nat) (m : Msy) :
    msyQualify settle half .za c m = msyCrossing settle half c.stamp (zaHigh m) := by
  simp [msyQualify, qualTake, h, Msy.putLine, zaHigh]

theorem msyCrossing_seek {m : Msy} (h : m.sync = .seek) (settle half : Nat) (t : Tick) :
    msyCrossing settle half t m = (msyEnterLocking t m, []) := by
  simp [msyCrossing, h]

theorem msyCrossing_locking {m : Msy} (h : m.sync = .locking) (settle half : Nat) (t : Tick) :
    msyCrossing settle half t m = msyLockingCrossing settle half t m := by
  simp [msyCrossing, h]

theorem msyCrossing_tracking {m : Msy} (h : m.sync = .locked ∨ m.sync = .holdover) (settle half : Nat) (t : Tick) :
    msyCrossing settle half t m = msyTrackingCrossing half t m := by
  rcases h with h | h <;> simp [msyCrossing, h]

/-- The settlement starts again at the crossing `t` (R6, R8). -/
def startsAgain (t : Tick) (m : Msy) : Msy :=
  { m with lockStart := some t, lockTimeout := some (t + 444444#32), count := 0, ring := [], prevValid := none }

/-- A period that is not valid starts the settlement again (R6). -/
theorem msyLockingCrossing_invalid {m : Msy} {t c0 : Tick} (h0 : m.lockStart = some c0)
    (h : periodValid m.prevValid (since t c0) = false) (settle half : Nat) :
    msyLockingCrossing settle half t m = (startsAgain t m, []) := by
  simp only [msyLockingCrossing, h0, h, Bool.false_eq_true, if_false]
  rfl

theorem periodValid_range {prev : Option Nat} {p : Nat} (h : p < 151515 ∨ 222222 < p) : periodValid prev p = false := by
  refine Bool.eq_false_iff.mpr fun hv => ?_
  simp only [periodValid, Bool.and_eq_true, decide_eq_true_eq] at hv
  have hlo : 151515 ≤ p := hv.1.1
  have hhi : p ≤ 222222 := hv.1.2
  omega

/-- A crossing outside the open window changes nothing (R12). -/
theorem msyTrackingCrossing_outside {m : Msy} {w : Prediction} (hw : m.prediction = some w) {t : Tick}
    (h : w.served = true ∨ 2 * w.half < (t - (w.pred - BitVec.ofNat 32 w.half)).toNat) (half : Nat) :
    msyTrackingCrossing half t m = (m, []) := by
  have hc : (!w.served && insideWindow w t) = false := by
    rcases h with h | h
    · simp [h]
    · have hin : insideWindow w t = false := decide_eq_false (Nat.not_le.mpr h)
      simp [hin]
  simp only [msyTrackingCrossing, hw, hc, Bool.false_eq_true, if_false]

/-- Settles O7: raw edges by `qualRaw_eq`, and each crossing by the equation of its line and sync state. -/
theorem rawEdgesAndCrossingsThatDoNotLock : Obligations.RawEdgesAndCrossingsThatDoNotLock := by
  refine ⟨⟨fun l b t o s h => ?_, fun l b t o s h => ?_, fun b t o s h => ?_⟩, fun l o s c hc => ?_⟩
  · rw [exec_zeroCrossRawEdge h, rawCrossing, qualRaw_eq]
  · rw [exec_pulseRawEdge h, rawPulse, qualRaw_eq]
  · rw [exec_extTripRawEdge h, rawExt, qualRaw_eq]
  · rw [exec_qualifiedCrossing hc]
    refine ⟨fun hl => ?falling, ?zb, ?zc, ?seek, ?locking, ?tracking⟩
    case falling => rw [msyQualify_falling hl, crossed_quiet]
    case zb =>
      rintro hl rfl
      rw [msyQualify_zb hl, crossed_quiet]
    case zc =>
      rintro hl rfl
      rw [msyQualify_zc hl, crossed_quiet]
    case seek =>
      rintro hl rfl hs
      rw [msyQualify_za hl, msyCrossing_seek (m := zaHigh s.msy) hs, crossed_quiet]
      rfl
    case locking =>
      rintro c0 hl rfl hs h0 hp
      rw [msyQualify_za hl, msyCrossing_locking (m := zaHigh s.msy) hs,
        msyLockingCrossing_invalid (m := zaHigh s.msy) h0 (periodValid_range hp), crossed_quiet]
      rfl
    case tracking =>
      rintro w hl rfl hs hw hout
      rw [msyQualify_za hl, msyCrossing_tracking (m := zaHigh s.msy) hs,
        msyTrackingCrossing_outside (m := zaHigh s.msy) hw hout, crossed_quiet]
      rfl

/-! ### The settlement -/

/-- The synchroniser with a valid period joined to the settlement (R6). -/
def goesOn (t : Tick) (p : Nat) (m : Msy) : Msy :=
  { m with lockStart := some t, lockTimeout := some (t + 444444#32), ring := pushPeriod m.ring p, prevValid := some p,
           count := m.count + 1 }

theorem periodValid_iff {prev : Option Nat} {p : Nat} (hlo : 151515 ≤ p) (hhi : p ≤ 222222) :
    periodValid prev p = true ↔ ∀ v, prev = some v → p ≤ v + v / 16 ∧ v ≤ p + v / 16 := by
  have hrange : (decide (periodMin ≤ p) && decide (p ≤ periodMax)) = true := by
    rw [Bool.and_eq_true, decide_eq_true_eq, decide_eq_true_eq]
    exact ⟨hlo, hhi⟩
  cases prev with
  | none => simp [periodValid, hrange]
  | some v => simp [periodValid, hrange]

theorem msyLockingCrossing_early {settle half : Nat} {m : Msy} {t c0 : Tick} (h0 : m.lockStart = some c0)
    (h : periodValid m.prevValid (since t c0) = true) (hc : m.count + 1 < settle) :
    msyLockingCrossing settle half t m = (goesOn t (since t c0) m, []) := by
  simp only [msyLockingCrossing, h0, h, if_true, if_neg (Nat.not_le.mpr hc)]
  rfl

theorem msyLockingCrossing_settles {settle half : Nat} {m : Msy} {t c0 : Tick} (h0 : m.lockStart = some c0)
    (h : periodValid m.prevValid (since t c0) = true) (hc : settle ≤ m.count + 1) :
    msyLockingCrossing settle half t m = msySettle half c0 t (since t c0) (goesOn t (since t c0) m) := by
  simp only [msyLockingCrossing, h0, h, if_true, if_pos hc]
  rfl

theorem phaseAngle_eq {z c0 : Tick} {p : Nat} (h : (z - c0).toNat < p) :
    phaseAngle (some z) c0 p = some ((z - c0).toNat * 49152 / p) := if_pos h

theorem phaseAngle_outside {z c0 : Tick} {p : Nat} (h : p ≤ (z - c0).toNat) : phaseAngle (some z) c0 p = none :=
  if_neg (Nat.not_lt.mpr h)

theorem withinTol_iff {x target tol : Nat} : withinTol x target tol = true ↔ target ≤ x + tol ∧ x ≤ target + tol := by
  simp [withinTol]

theorem msySettle_correct {half p : Nat} {c0 t : Tick} {m : Msy}
    (h : phaseCheck half (phaseAngle m.lastZb c0 p) (phaseAngle m.lastZc c0 p) = .correct) :
    msySettle half c0 t p m = (msyEnterLocked half t m, [.locked]) := by
  unfold msySettle
  rw [h]

theorem msySettle_reversed {half p : Nat} {c0 t : Tick} {m : Msy}
    (h : phaseCheck half (phaseAngle m.lastZb c0 p) (phaseAngle m.lastZc c0 p) = .reversed) :
    msySettle half c0 t p m = (msySeek { m with seqCond := true }, [.reversed]) := by
  unfold msySettle
  rw [h]

theorem msySettle_unclear {half p : Nat} {c0 t : Tick} {m : Msy}
    (h : phaseCheck half (phaseAngle m.lastZb c0 p) (phaseAngle m.lastZc c0 p) = .unclear) :
    msySettle half c0 t p m = ({ m with count := 0, ring := [], prevValid := none }, []) := by
  unfold msySettle
  rw [h]

theorem phaseCheck_correct {tol zb zc : Nat} (hb : withinTol zb 16384 tol = true) (hc : withinTol zc 32768 tol = true) :
    phaseCheck tol (some zb) (some zc) = .correct := by
  simp [phaseCheck, hb, hc]

theorem phaseCheck_reversed {tol zb zc : Nat} (hn : withinTol zb 16384 tol = false) (hb : withinTol zb 32768 tol = true)
    (hc : withinTol zc 16384 tol = true) : phaseCheck tol (some zb) (some zc) = .reversed := by
  simp [phaseCheck, hn, hb, hc]

/-- An angle that is missing or near neither target makes the check unclear (R8). -/
theorem phaseCheck_unclear {tol : Nat} {zb zc : Option Nat} (h : zb = none ∨ zc = none ∨
    ∃ a, (zb = some a ∨ zc = some a) ∧ withinTol a 16384 tol = false ∧ withinTol a 32768 tol = false) :
    phaseCheck tol zb zc = .unclear := by
  rcases h with rfl | rfl | ⟨a, rfl | rfl, h1, h2⟩
  · rfl
  · cases zb <;> rfl
  · cases zc
    · rfl
    · simp [phaseCheck, h1, h2]
  · cases zb
    · rfl
    · simp [phaseCheck, h1, h2]

theorem ringMean_pushPeriod (ring : List Nat) (p q : Nat) :
    ringMean (pushPeriod ring p) q = (pushPeriod ring p).sum / (pushPeriod ring p).length := by
  have hne : (pushPeriod ring p).isEmpty = false := by
    rw [List.isEmpty_eq_false_iff, ← List.length_pos_iff]
    simp [pushPeriod]
  rw [ringMean, hne]
  rfl

theorem msyPredict_free {m : Msy} (h : m.pendingEdge = none) (half : Nat) (pred : Tick) : msyPredict half pred m =
    { m with prediction := some { pred := pred, half := windowTicks half m.pEst, served := false },
             pendingEdge := some pred } := by
  unfold msyPredict
  rw [h]

theorem msyPredict_eq (m : Msy) (half : Nat) (pred : Tick) : msyPredict half pred m =
    { m with prediction := some { pred := pred, half := windowTicks half m.pEst, served := false },
             pendingEdge := (if m.pendingEdge = none then some pred else m.pendingEdge),
             waitingEdge := (if m.pendingEdge = none then m.waitingEdge else some pred) } := by
  unfold msyPredict
  split
  · rename_i h
    simp [h]
  · rename_i e h
    simp [h]

/-- What follows an entry into LOCKED beyond the synchroniser leaves the base of the part, and MAINS_SEQUENCE is out of
the view (R9, R127, R128). -/
theorem takeSync_locked (o : Sched) (s : State) : SameBase s (takeSync o s .locked) ∧
    .mainsSequence ∉ (takeSync o s .locked).pru.view := by
  have hms : noReports (dsqLocked s.set s.stu.s s.dsq).2 ∧
      .cond .mainsSequence true ∉ (dsqLocked s.set s.stu.s s.dsq).2 := by
    simp only [dsqLocked, condMsgs_false]
    split <;> simp [noReports, reportKind]
  have hcond : .mainsSequence ∉ (takeCond .mainsSequence false s).pru.view := by simp [takeCond, pruCond]
  have hmove : .mainsSequence ∉
      (moveDrive o (dsqLocked s.set s.stu.s s.dsq).1 (takeCond .mainsSequence false s)).pru.view := by
    by_cases hd : (dsqLocked s.set s.stu.s s.dsq).1.drive = (takeCond .mainsSequence false s).dsq.drive
    · rw [moveDrive_stay o hd]
      exact hcond
    · exact mt ((moveDrive_moved o hd).pru.view _ (.inl fun x h => by cases h)).mp hcond
  refine ⟨?_, ?_⟩
  · exact SameBase.after (deliver_base ..) (SameBase.after (moveDrive_base ..) ⟨rfl, rfl, rfl, rfl, rfl, rfl⟩)
  · change .mainsSequence ∉ (deliver o _ _).pru.view
    rw [deliver_calm o hms.1]
    exact (raiseAll_view_anti hms.1 hms.2).1 hmove

/-- Settles O8: the settlement's check finds the sequence correct, and the entry into LOCKED is `msyEnterLocked`. -/
theorem settlementEntersLocked : Obligations.SettlementEntersLocked := by
  intro o s c c0 zb zc p ring hza hl hs h0 hp hlo hhi hv hcount hzb hzbp hzc hzcp hb1 hb2 hc1 hc2 hring hfree
  have hvalid : periodValid (zaHigh s.msy).prevValid p = true := (periodValid_iff hlo hhi).mpr hv
  have hcheck : phaseCheck s.set.windowHalf (phaseAngle (goesOn c.stamp p (zaHigh s.msy)).lastZb c0 p)
      (phaseAngle (goesOn c.stamp p (zaHigh s.msy)).lastZc c0 p) = .correct := by
    change phaseCheck s.set.windowHalf (phaseAngle s.msy.lastZb c0 p) (phaseAngle s.msy.lastZc c0 p) = .correct
    rw [hzb, hzc, phaseAngle_eq hzbp, phaseAngle_eq hzcp]
    exact phaseCheck_correct (withinTol_iff.mpr ⟨hb1, hb2⟩) (withinTol_iff.mpr ⟨hc1, hc2⟩)
  have hsince : since c.stamp c0 = p := hp.symm
  have hqualify : msyQualify s.set.settleCount s.set.windowHalf .za c s.msy =
      (msyEnterLocked s.set.windowHalf c.stamp (goesOn c.stamp p (zaHigh s.msy)), [.locked]) := by
    rw [msyQualify_za hl, msyCrossing_locking (m := zaHigh s.msy) hs,
      msyLockingCrossing_settles (m := zaHigh s.msy) h0 (hsince.symm ▸ hvalid) hcount, hsince, msySettle_correct hcheck]
  rw [exec_qualifiedCrossing (l := .za) hza, hqualify]
  obtain ⟨hbase, hview⟩ := takeSync_locked o
    { s with now := c.stamp + 256#32, msy := msyEnterLocked s.set.windowHalf c.stamp (goesOn c.stamp p (zaHigh s.msy)) }
  refine ⟨_, rfl, hbase.now, hbase.meu, hview, hbase.msy.trans ?_⟩
  have hmean : ringMean (goesOn c.stamp p (zaHigh s.msy)).ring (goesOn c.stamp p (zaHigh s.msy)).pEst =
      ring.sum / ring.length := by
    rw [hring]
    exact ringMean_pushPeriod ..
  change msyEnterLocked s.set.windowHalf c.stamp (goesOn c.stamp p (zaHigh s.msy)) = _
  rw [msyEnterLocked, hmean, msyPredict_free (m := { goesOn c.stamp p (zaHigh s.msy) with
    sync := _, pEst := _, lastAccepted := _, gap := _, missCount := _, lockTimeout := _, seqCond := _ }) hfree]
  subst hring
  rfl

/-! ### Settlement that goes on, starts again or is reversed -/

/-- A qualified reference crossing in LOCKING. -/
theorem exec_lockingCrossing {s : State} {c : Candidate} (hza : s.msy.za.cand = some c) (hl : c.level = true)
    (hs : s.msy.sync = .locking) (o : Sched) : exec (.qualifiedCrossing .za o) s =
    crossed o c (msyLockingCrossing s.set.settleCount s.set.windowHalf c.stamp (zaHigh s.msy)) s := by
  rw [exec_qualifiedCrossing (l := .za) hza, msyQualify_za hl, msyCrossing_locking (m := zaHigh s.msy) hs]

theorem phaseAngle_some {z : Option Tick} {c0 : Tick} {p a : Nat} (h : phaseAngle z c0 p = some a) :
    ∃ y, z = some y ∧ a = (y - c0).toNat * 49152 / p := by
  cases z with
  | none => cases h
  | some y =>
    by_cases hy : (y - c0).toNat < p
    · rw [phaseAngle_eq hy] at h
      exact ⟨y, rfl, (Option.some.inj h).symm⟩
    · rw [phaseAngle_outside (Nat.not_lt.mp hy)] at h
      cases h

theorem withinTol_eq_false {x target tol : Nat} (h : x + tol < target ∨ target + tol < x) :
    withinTol x target tol = false := by
  refine Bool.eq_false_iff.mpr fun hx => ?_
  obtain ⟨h1, h2⟩ := withinTol_iff.mp hx
  omega

/-- A report of a reversed sequence is latched, and its condition is in the view (R9). -/
theorem takeSync_reversed (o : Sched) (s : State) : SameBase s (takeSync o s .reversed) ∧
    .mainsSequence ∈ (takeSync o s .reversed).pru.view ∧ latchedActive .mainsSequence (takeSync o s .reversed).pru = true := by
  have hrep := deliver_reported o [.cond .mainsSequence true, .report .mainsSequence s.msy.period] s
  refine ⟨deliver_base .., ?_, ?_⟩
  · refine (hrep.pru.view _ ⟨trivial, .inl fun x h => by cases h⟩).mpr (calmed_joins ?_ ?_ s) <;> simp
  · refine deliver_latches o (n := s.msy.period) (by simp) s fun z _ => ?_
    rw [show z.classInForce .mainsSequence = .s from rfl]
    decide

/-- Settles O9, branch by branch of a reference crossing in LOCKING. -/
theorem lockingGoesOnOrStartsAgain : Obligations.LockingGoesOnOrStartsAgain := by
  rintro o s c c0 p again hza hl hs h0 hp hlo hhi rfl
  have hsince : since c.stamp c0 = p := hp.symm
  have h0' : (zaHigh s.msy).lockStart = some c0 := h0
  rw [exec_lockingCrossing hza hl hs]
  refine ⟨fun v hv hfar => ?far, fun hvalid => ⟨fun hcount => ?early, fun hcount => ⟨?reversed, fun hz => ?unclear⟩⟩⟩
  case far =>
    have hnot : periodValid (zaHigh s.msy).prevValid (since c.stamp c0) = false := by
      rw [hsince]
      refine Bool.eq_false_iff.mpr fun h => ?_
      obtain ⟨h1, h2⟩ := (periodValid_iff hlo hhi).mp h v hv
      omega
    rw [msyLockingCrossing_invalid h0' hnot, crossed_quiet]
    rfl
  all_goals
    have hvalid' : periodValid (zaHigh s.msy).prevValid (since c.stamp c0) = true :=
      hsince.symm ▸ (periodValid_iff hlo hhi).mpr hvalid
  case early =>
    rw [msyLockingCrossing_early h0' hvalid' hcount, crossed_quiet, hsince]
    rfl
  case reversed =>
    intro zb zc hzb hzbp hzc hzcp hn hb1 hb2 hc1 hc2
    have hcheck : phaseCheck s.set.windowHalf (phaseAngle (goesOn c.stamp p (zaHigh s.msy)).lastZb c0 p)
        (phaseAngle (goesOn c.stamp p (zaHigh s.msy)).lastZc c0 p) = .reversed := by
      change phaseCheck s.set.windowHalf (phaseAngle s.msy.lastZb c0 p) (phaseAngle s.msy.lastZc c0 p) = .reversed
      rw [hzb, hzc, phaseAngle_eq hzbp, phaseAngle_eq hzcp]
      exact phaseCheck_reversed (withinTol_eq_false (.inr hn)) (withinTol_iff.mpr ⟨hb1, hb2⟩) (withinTol_iff.mpr ⟨hc1, hc2⟩)
    rw [msyLockingCrossing_settles h0' hvalid' hcount, hsince, msySettle_reversed hcheck]
    obtain ⟨hbase, hview, hlatched⟩ := takeSync_reversed o
      { s with now := c.stamp + 256#32, msy := msySeek { goesOn c.stamp p (zaHigh s.msy) with seqCond := true } }
    exact ⟨_, rfl, hbase.now, hbase.meu, hbase.msy, hview, hlatched⟩
  case unclear =>
    have hcheck : phaseCheck s.set.windowHalf (phaseAngle (goesOn c.stamp p (zaHigh s.msy)).lastZb c0 p)
        (phaseAngle (goesOn c.stamp p (zaHigh s.msy)).lastZc c0 p) = .unclear := by
      change phaseCheck s.set.windowHalf (phaseAngle s.msy.lastZb c0 p) (phaseAngle s.msy.lastZc c0 p) = .unclear
      apply phaseCheck_unclear
      rcases hz with hz | hz | ⟨z, hz, hfar⟩
      · exact .inl (by rw [hz]; rfl)
      · exact .inr (.inl (by rw [hz]; rfl))
      · have hnear : ∀ {y : Option Tick}, y = some z → phaseAngle y c0 p = none ∨ ∃ a, phaseAngle y c0 p = some a ∧
            withinTol a 16384 s.set.windowHalf = false ∧ withinTol a 32768 s.set.windowHalf = false := by
          rintro _ rfl
          by_cases hin : (z - c0).toNat < p
          · refine .inr ⟨_, phaseAngle_eq hin, withinTol_eq_false ?_, withinTol_eq_false ?_⟩ <;> omega
          · exact .inl (phaseAngle_outside (Nat.not_lt.mp hin))
        rcases hz with hz | hz <;> rcases hnear hz with h | ⟨a, h, ha⟩
        · exact .inl h
        · exact .inr (.inr ⟨a, .inl h, ha⟩)
        · exact .inr (.inl h)
        · exact .inr (.inr ⟨a, .inr h, ha⟩)
    rw [msyLockingCrossing_settles h0' hvalid' hcount, hsince, msySettle_unclear hcheck, crossed_quiet]
    rfl

/-! ### The tracking of predictions -/

/-- The ring after an acceptance is that of the periods, the last one joined (R13). -/
theorem ringAfter_eq {m : Msy} {a : Tick} (h : m.lastAccepted = some a) (c : Tick) : ringAfter m c =
    if m.gap = false ∧ 151515 ≤ (c - a).toNat ∧ (c - a).toNat ≤ 222222
    then (m.ring ++ [(c - a).toNat]).drop (m.ring.length + 1 - 4) else m.ring := by
  simp only [ringAfter, h, Bool.and_eq_true, Bool.not_eq_true', decide_eq_true_eq, and_assoc]
  rfl

theorem ringAfter_ne_nil {m : Msy} (h : m.ring ≠ []) (c : Tick) : ringAfter m c ≠ [] := by
  have hpush : ∀ p, pushPeriod m.ring p ≠ [] := fun p => by
    rw [← List.length_pos_iff]
    simp [pushPeriod]
  unfold ringAfter
  split
  · exact h
  · split
    · exact hpush _
    · exact h

theorem ringMean_eq {ring : List Nat} (h : ring ≠ []) (p : Nat) : ringMean ring p = ring.sum / ring.length := by
  rw [ringMean, List.isEmpty_eq_false_iff.mpr h]
  rfl

/-- A crossing inside the open window is accepted (R12). -/
theorem msyTrackingCrossing_inside {m : Msy} {w : Prediction} (hw : m.prediction = some w) (hserved : w.served = false)
    {t : Tick} (h : (t - (w.pred - BitVec.ofNat 32 w.half)).toNat ≤ 2 * w.half) (half : Nat) :
    msyTrackingCrossing half t m = (msyAccept half t m, if m.sync = .locked then [] else [.locked]) := by
  have hc : (!w.served && insideWindow w t) = true := by
    have hin : insideWindow w t = true := decide_eq_true h
    simp [hserved, hin]
  simp only [msyTrackingCrossing, hw, hc, if_true]

/-- A qualified reference crossing inside the open window. -/
theorem exec_acceptedCrossing {s : State} {c : Candidate} {w : Prediction} (hza : s.msy.za.cand = some c)
    (hl : c.level = true) (hs : s.msy.sync = .locked ∨ s.msy.sync = .holdover) (hw : s.msy.prediction = some w)
    (hserved : w.served = false) (hin : (c.stamp - (w.pred - BitVec.ofNat 32 w.half)).toNat ≤ 2 * w.half) (o : Sched) :
    exec (.qualifiedCrossing .za o) s = crossed o c
      (msyAccept s.set.windowHalf c.stamp (zaHigh s.msy), if s.msy.sync = .locked then [] else [.locked]) s := by
  rw [exec_qualifiedCrossing (l := .za) hza, msyQualify_za hl, msyCrossing_tracking (m := zaHigh s.msy) hs,
    msyTrackingCrossing_inside (m := zaHigh s.msy) hw hserved hin]
  rfl

theorem msyAccept_eq {m : Msy} (hring : m.ring ≠ []) {half : Nat} {c : Tick} {ring : List Nat} {p : Nat}
    (hr : ring = ringAfter m c) (hp : p = ring.sum / ring.length) : msyAccept half c m =
    { m with
      sync := .locked, ring := ring, pEst := p, lastAccepted := some c, gap := false, missCount := 0, seqCond := false,
      prediction := some { pred := c + BitVec.ofNat 32 p, half := half * p / 49152, served := false },
      pendingEdge := (if m.pendingEdge = none then some (c + BitVec.ofNat 32 p) else m.pendingEdge),
      waitingEdge := (if m.pendingEdge = none then m.waitingEdge else some (c + BitVec.ofNat 32 p)) } := by
  subst hp hr
  rw [msyAccept, msyPredict_eq, ringMean_eq (ringAfter_ne_nil hring c)]
  rfl

/-- An entry into LOCKED takes MAINS_SEQUENCE out of the view, and otherwise nothing, where the drive does not coast and
no loss of sync is reported (R9, R128). -/
theorem takeSync_locked_calm (o : Sched) {s : State} (hd : s.dsq.drive ≠ .coast) (hl : s.dsq.lossCond = false) :
    takeSync o s .locked = takeCond .mainsSequence false s := by
  have hstay : dsqLocked s.set s.stu.s s.dsq = (s.dsq, []) := by
    rw [dsqLocked, hl, if_neg (by simp [hd])]
    exact Prod.ext (by rw [← hl]) rfl
  change deliver o (dsqLocked s.set s.stu.s s.dsq).2
    (moveDrive o (dsqLocked s.set s.stu.s s.dsq).1 (takeCond .mainsSequence false s)) = _
  rw [hstay, deliver_nil]
  exact moveDrive_stay o rfl

theorem openWindow_eq {m : Msy} {w : Prediction} (hs : m.sync = .locked ∨ m.sync = .holdover)
    (hw : m.prediction = some w) (hserved : w.served = false) : openWindow m = some w := by
  have ht : (tracking m && !w.served) = true := by
    rcases hs with hs | hs <;> simp [tracking, hs, hserved]
  simp only [openWindow, hw, ht, if_true]

theorem exec_windowClose {s : State} {w : Prediction} (h : openWindow s.msy = some w) (o : Sched) :
    exec (.windowClose o) s = .next (windowCloses w o s) := by
  change Host.Outcome.next (match openWindow s.msy with | none => s | some w => windowCloses w o s) = _
  rw [h]

/-- Settles O10: an accepted crossing is `msyAccept`, a window closed within the holdover `msyMiss`. -/
theorem windowServedOrMissed : Obligations.WindowServedOrMissed := by
  refine ⟨?locked, ?holdover, ?timeout, ?missed⟩
  case locked =>
    intro o s c w a p ring hza hl hs hw hserved hin ha hne hring hp
    have hring' : ring = ringAfter (zaHigh s.msy) c.stamp :=
      hring.trans (ringAfter_eq (m := zaHigh s.msy) ha c.stamp).symm
    rw [exec_acceptedCrossing hza hl (.inl hs) hw hserved hin, if_pos hs, crossed_quiet,
      msyAccept_eq (m := zaHigh s.msy) hne hring' hp]
    simp only [zaHigh, hs]
  case holdover =>
    intro o s c w a p ring hza hl hs hw hserved hin ha hne hring hp hd hloss
    have hring' : ring = ringAfter (zaHigh s.msy) c.stamp :=
      hring.trans (ringAfter_eq (m := zaHigh s.msy) ha c.stamp).symm
    rw [exec_acceptedCrossing hza hl (.inr hs) hw hserved hin, if_neg (by simp [hs]),
      msyAccept_eq (m := zaHigh s.msy) hne hring' hp]
    exact congrArg Host.Outcome.next (takeSync_locked_calm o (s := { s with now := c.stamp + 256#32, msy := _ }) hd hloss)
  case timeout =>
    intro s t ht
    change Host.Outcome.next (match s.msy.lockTimeout with | none => s | some u => _) = _
    rw [ht]
    rfl
  case missed =>
    intro o s w hs hw hserved hmiss
    rw [exec_windowClose (openWindow_eq hs hw hserved), windowCloses, msyMiss, if_neg (Nat.not_lt.mpr hmiss), msyPredict_eq]
    rfl

/-! ### LOCKED again, and sync lost -/

theorem msyPredict_sync (half : Nat) (t : Tick) (m : Msy) : (msyPredict half t m).sync = m.sync := by
  rw [msyPredict_eq]

/-- A crossing that publishes an entry into LOCKED leaves the synchroniser in it (R8, R12). -/
theorem msyQualify_locked {settle half : Nat} {c : Candidate} {m : Msy}
    (h : (msyQualify settle half .za c m).2 = [.locked]) : (msyQualify settle half .za c m).1.sync = .locked := by
  have hsettle : ∀ (c0 : Tick) (p : Nat) (n : Msy), (msySettle half c0 c.stamp p n).2 = [.locked] →
      (msySettle half c0 c.stamp p n).1.sync = .locked := by
    intro c0 p n hn
    unfold msySettle at *
    split at hn
    · exact msyPredict_sync ..
    · cases hn
    · cases hn
  have hlocking : ∀ n : Msy, (msyLockingCrossing settle half c.stamp n).2 = [.locked] →
      (msyLockingCrossing settle half c.stamp n).1.sync = .locked := by
    intro n hn
    unfold msyLockingCrossing at *
    split at hn
    · cases hn
    · split at hn
      · rename_i hp
        rw [if_pos hp]
        split at hn
        · rename_i hs
          rw [if_pos hs]
          exact hsettle _ _ _ hn
        · cases hn
      · cases hn
  have htracking : ∀ n : Msy, (msyTrackingCrossing half c.stamp n).2 = [.locked] →
      (msyTrackingCrossing half c.stamp n).1.sync = .locked := by
    intro n hn
    unfold msyTrackingCrossing at *
    split at hn
    · cases hn
    · split at hn
      · rename_i hp
        rw [if_pos hp]
        rfl
      · cases hn
  unfold msyQualify at *
  split at h
  · rename_i hl
    rw [if_pos hl]
    generalize m.putLine .za (qualTake c) = n at *
    dsimp only at *
    unfold msyCrossing at *
    split at h
    · cases h
    · rename_i hs
      exact hlocking n h
    · exact htracking n h
    · exact htracking n h
  · cases h

/-- The sequencer's messages at an entry into LOCKED: a loss of sync that was reported is clear (R128). -/
theorem dsqLocked_calm (z : SetTable) (v : Nat) (d : Dsq) : noReports (dsqLocked z v d).2 := by
  simp only [dsqLocked, condMsgs_false]
  split <;> simp [noReports, reportKind]

/-- The drive state that an entry into LOCKED takes the coast to (R128). -/
def relockDrive (z : SetTable) (v : Nat) : Drive := if z.breakSpeed ≤ v then .run else .starting

theorem dsqLocked_coast {d : Dsq} {k : Nat} (hd : d.drive = .coast) (hc : d.coast = .running k) (z : SetTable) (v : Nat) :
    (dsqLocked z v d).1 = { d with drive := relockDrive z v, enable := true, coast := .stopped, exit := .relocked,
                                   lossCond := false } := by
  have hrun : (decide (d.drive = .coast) && coastRunning d.coast) = true := by simp [hd, hc, coastRunning]
  rw [dsqLocked, if_pos hrun]
  unfold relockDrive
  split <;> rfl

/-- The relock as a whole: MAINS_SEQUENCE is clear, the drive moves, and MAINS_LOSS is clear. -/
def relocked (s : State) : State :=
  raiseAll (dsqLocked s.set s.stu.s s.dsq).2 (quietMove (dsqLocked s.set s.stu.s s.dsq).1 (takeCond .mainsSequence false s))

theorem takeSync_relocked (o : Sched) {s : State} {k : Nat} (hd : s.dsq.drive = .coast) (hc : s.dsq.coast = .running k) :
    takeSync o s .locked = relocked s := by
  have hdrive : (dsqLocked s.set s.stu.s s.dsq).1.drive = relockDrive s.set s.stu.s := by rw [dsqLocked_coast hd hc]
  have hrun : relockDrive s.set s.stu.s ≠ .coast ∧ stoppedState (relockDrive s.set s.stu.s) = false := by
    unfold relockDrive
    split <;> exact ⟨by decide, rfl⟩
  change deliver o (dsqLocked s.set s.stu.s s.dsq).2
    (moveDrive o (dsqLocked s.set s.stu.s s.dsq).1 (takeCond .mainsSequence false s)) = _
  rw [deliver_calm o (dsqLocked_calm s.set s.stu.s s.dsq), moveDrive_quiet]
  · rfl
  · rw [hdrive]
    exact fun h => hrun.1 (h.trans hd)
  · rw [hdrive]
    exact quietEntry_running hrun.2 _

theorem relocked_same (s : State) : SameDrive (quietMove (dsqLocked s.set s.stu.s s.dsq).1 (takeCond .mainsSequence false s))
    (relocked s) := raiseAll_same ..

theorem relocked_noticed (s : State) {j : Station} (h : j ≠ .m) : .driveState ∈ ((relocked s).links.get j).notices :=
  ((raiseAll_carried (dsqLocked_calm s.set s.stu.s s.dsq) _).links j).notices _ (quietMove_noticed _ _ h).1

theorem SameDrive.conv {s t : State} (h : SameDrive s t) (x : Side) : t.conv x = s.conv x := by
  cases x
  · exact h.cca
  · exact h.ccb

theorem quietMove_stu (d : Dsq) (s : State) :
    (quietMove d s).stu = stuDrive s.set s.vwa.level s.dsq.drive d.drive s.stu := by rw [quietMove_eq]

theorem quietMove_dsq (d : Dsq) (s : State) : (quietMove d s).dsq = d := by rw [quietMove_eq]

theorem quietMove_base (d : Dsq) (s : State) : SameBase s (quietMove d s) := by
  rw [quietMove_eq]
  exact ⟨rfl, rfl, rfl, rfl, rfl, rfl⟩

/-- The enable given in LOCKED: a converter in OFF with its fault line inactive enters FIRING (R40). -/
theorem convTakeEnable_given {c : Conv} (hs : c.state = .off) (hf : c.fault = false) {sync : SyncState}
    (h : firingAllowed sync = true) : convTakeEnable false true sync c = { c with state := .firing, integ := integMin } := by
  simp [convTakeEnable, convEnable, hs, hf, h]

theorem stuDrive_coast_run (z : SetTable) (level : Nat) (u : Stu) :
    stuDrive z level .coast .run u = { u with rr := u.s, grace := true } := by
  simp [stuDrive, stuEntry, graceEntry, drives]

theorem stuReform_rest (z : SetTable) (level : Nat) (drive : Drive) (u : Stu) :
    (stuReform z level drive u).window = u.window ∧ (stuReform z level drive u).grace = u.grace := by
  have h := (stuReform_hand z level drive u).rest
  generalize stuReform z level drive u = w at h ⊢
  constructor <;> rw [← h]

theorem stuDrive_coast_starting (z : SetTable) (level : Nat) (u : Stu) :
    (stuDrive z level .coast .starting u).grace = true ∧
    (u.motors.a.thermal ≠ .hot → u.motors.b.thermal ≠ .hot → (stuDrive z level .coast .starting u).window = some 0) := by
  have hentry : stuEntry .coast .starting u = { u with grace := true } := by simp [stuEntry, graceEntry, drives]
  rw [stuDrive, if_pos rfl, hentry, stuOpenWindow]
  refine ⟨?_, fun ha hb => ?_⟩
  · split
    · rfl
    · exact (stuReform_rest ..).2
  · rw [if_neg (not_or.mpr ⟨ha, hb⟩)]
    exact (stuReform_rest ..).1

/-! ### The close of a window that loses the sync -/

/-- The controller as sync lost leaves it: OFF, and nothing of the enable or of an apply can change it (R42, R43). -/
theorem convOff_stays (b : Bool) (z : SetTable) (old : Bool) (sync : SyncState) (c : Conv) :
    convHand b z (convTakeEnable old false sync (convOff c)) = convOff c := by
  have htake : convTakeEnable old false sync (convOff c) = convOff c := by cases old <;> rfl
  rw [htake]
  cases b <;> rfl

/-- The part once both controllers have taken sync lost. -/
def bothLost (o : Sched) (s : State) : State := convTakeLost o .b (convTakeLost o .a s)

theorem convTakeLost_rest (o : Sched) (x : Side) (s : State) : SameBase s (convTakeLost o x s) ∧
    (convTakeLost o x s).dsq = s.dsq ∧
    ∀ y, (convTakeLost o x s).conv y = if y = x then convOff (s.conv y) else s.conv y := by
  rw [convTakeLost_eq]
  cases x <;> split <;> exact ⟨⟨rfl, rfl, rfl, rfl, rfl, rfl⟩, rfl, fun y => by cases y <;> rfl⟩

theorem bothLost_rest (o : Sched) (s : State) : SameBase s (bothLost o s) ∧ (bothLost o s).dsq = s.dsq ∧
    ∀ x, (bothLost o s).conv x = convOff (s.conv x) := by
  obtain ⟨hb, hd, ha⟩ := convTakeLost_rest o .a s
  obtain ⟨kb, kd, kc⟩ := convTakeLost_rest o .b (convTakeLost o .a s)
  refine ⟨hb.trans kb, kd.trans hd, fun x => ?_⟩
  cases x
  · exact (kc .a).trans (ha .a)
  · exact (kc .b).trans (congrArg convOff (ha .b))

/-- The enable of the drive state that sync lost leads to, where that is another one (R120, R126). -/
theorem dsqSyncLost_enable {d : Dsq} (h : (dsqSyncLost d).drive ≠ d.drive) : (dsqSyncLost d).enable = false := by
  unfold dsqSyncLost at *
  split at h
  any_goals rfl
  all_goals exact absurd rfl h

theorem takeSync_lost (o : Sched) (s : State) : SameBase s (takeSync o s .lost) ∧
    (takeSync o s .lost).dsq = dsqSyncLost s.dsq ∧ ∀ x, (takeSync o s .lost).conv x = convOff (s.conv x) := by
  obtain ⟨hb, hd, hc⟩ := bothLost_rest o s
  change SameBase s (moveDrive o (dsqSyncLost s.dsq) (bothLost o s)) ∧
    (moveDrive o (dsqSyncLost s.dsq) (bothLost o s)).dsq = _ ∧
    ∀ x, (moveDrive o (dsqSyncLost s.dsq) (bothLost o s)).conv x = _
  refine ⟨hb.trans (moveDrive_base ..), (moveDrive_units ..).1, fun x => ?_⟩
  by_cases h : (dsqSyncLost s.dsq).drive = (bothLost o s).dsq.drive
  · rw [moveDrive_stay o h]
    exact hc x
  · rw [(moveDrive_moved o h).conv x, hc x, dsqSyncLost_enable (hd ▸ h), convOff_stays]

/-- Settles O11: the relock is `relocked`, and the lost sync reaches the converters before the drive moves. -/
theorem relockAndSyncLoss : Obligations.RelockAndSyncLoss := by
  refine ⟨fun o s c k hza hq hd hk hen => ?relock, fun o s w hs hw hserved hmiss => ?lost⟩
  case relock =>
    have hsync := msyQualify_locked hq
    generalize hm : (msyQualify s.set.settleCount s.set.windowHalf .za c s.msy).1 = m at hsync
    have hexec : exec (.qualifiedCrossing .za o) s = .next (relocked { s with now := c.stamp + 256#32, msy := m }) := by
      rw [exec_qualifiedCrossing (l := .za) hza, crossed, syncTaken, hq, hm]
      exact congrArg Host.Outcome.next (takeSync_relocked o (s := { s with now := c.stamp + 256#32, msy := m }) hd hk)
    generalize hu : relocked { s with now := c.stamp + 256#32, msy := m } = u at hexec
    have hsame := relocked_same { s with now := c.stamp + 256#32, msy := m }
    rw [hu] at hsame
    have hdsq := dsqLocked_coast hd hk s.set s.stu.s
    have hstu : u.stu = stuDrive s.set s.vwa.level s.dsq.drive (relockDrive s.set s.stu.s) s.stu := by
      rw [hsame.stu, quietMove_stu]
      change stuDrive _ _ _ (dsqLocked s.set s.stu.s s.dsq).1.drive _ = _
      rw [hdsq]
      rfl
    rw [hd] at hstu
    refine ⟨u, hexec, ?_, ?_, fun x hoff hfault => ?_, fun hfast => ?_, fun hslow => ?_, fun j hj => ?_⟩
    · rw [hsame.msy, (quietMove_base ..).msy]
      exact hsync
    · rw [hsame.dsq, quietMove_dsq]
      exact hdsq
    · rw [hsame.conv x, quietMove_conv]
      change convTakeEnable s.dsq.enable (dsqLocked s.set s.stu.s s.dsq).1.enable m.sync _ = _
      rw [hen, hdsq, hsync]
      exact (convTakeEnable_given hoff hfault rfl).trans (by cases x <;> rfl)
    · rw [hstu, relockDrive, if_pos hfast, stuDrive_coast_run]
    · rw [hstu, relockDrive, if_neg (Nat.not_le.mpr hslow)]
      exact stuDrive_coast_starting ..
    · rw [← hu]
      exact relocked_noticed _ hj
  case lost =>
    have hopen := openWindow_eq hs hw hserved
    have hsyncLost : exec (.syncLost o) s = .next (windowCloses w o s) := by
      change Host.Outcome.next (match openWindow s.msy with
        | none => s
        | some w => if s.set.holdover < s.msy.missCount + 1 then windowCloses w o s else s) = _
      rw [hopen]
      exact congrArg Host.Outcome.next (if_pos hmiss)
    have hlost := hsyncLost
    rw [windowCloses, msyMiss, if_pos hmiss] at hlost
    obtain ⟨hbase, hdsq, hconv⟩ := takeSync_lost o
      { s with now := closeInstant w, msy := msyLose w.pred { s.msy with missCount := s.msy.missCount + 1, gap := true } }
    have hlost : exec (.syncLost o) s = .next (takeSync o { s with
      now := closeInstant w,
      msy := msyLose w.pred { s.msy with missCount := s.msy.missCount + 1, gap := true } } .lost) := hlost
    generalize takeSync o _ .lost = u at hlost hbase hdsq hconv
    replace hdsq : u.dsq = dsqSyncLost s.dsq := hdsq
    refine ⟨(exec_windowClose hopen o).trans (hsyncLost.symm), u, hlost, hbase.now, hbase.meu, hbase.msy.trans ?_,
      fun x => (hconv x).trans (by cases x <;> rfl), ?_, fun h => ?_, fun h hcon hwait => ?_⟩
    · have hkind : (fun g : Origin => decide (g.kind ≠ .real)) = fun g => decide (g.kind = .substitute) := by
        funext g
        cases g.kind <;> rfl
      change msyLose w.pred _ = _
      rw [msyLose, hkind]
      rfl
    · rw [hdsq]
      unfold dsqSyncLost
      cases hdr : s.dsq.drive
      case starting | run | closing | stopping | tripStop => rfl
      case blocked | coast | tripped | aux => exact hdr
    · rw [hdsq]
      rcases h with h | h <;> simp [dsqSyncLost, h, dsqEnter, coastAtEntry, enableOf]
    · rw [hdsq]
      rcases h with h | h <;> simp [dsqSyncLost, h, dsqEnter, waitAtEntry, enableOf, hcon, hwait]

end Sys2Proof.Machine
end

section
/-! The period event (R2, R11, R17, R19): what a taking keeps of the part, and that every block has then taken it. -/

namespace Sys2Proof.Machine

variable {K : Cause → Prop}

/-! ### What the takings of a period event keep -/

/-- The history ring ends with the entry of the period event `n` (R159). -/
structure RingTakes (n : Period) (u : Rcu) : Prop where
  last : (u.ring.getLast?).map Entry.period = some n
  length : u.ring.length ≤ 256

/-- What the takings of the period event `n` leave: the timebase, the synchroniser, the links but for notices, and the
numbers of the blocks' last takings but for those that become `n`. -/
structure EventKept (n : Period) (s t : State) : Prop where
  now : t.now = s.now
  msy : t.msy = s.msy
  issued : s.msy.period = n → t.issued = s.issued
  links : LinksRaised s t
  taken : ∀ b, t.takenBy b = s.takenBy b ∨ t.takenBy b = n
  ring : (t.rcu.ring = s.rcu.ring ∧ t.rcu.periodTaken = s.rcu.periodTaken) ∨ RingTakes n t.rcu

theorem EventKept.refl (n : Period) (s : State) : EventKept n s s :=
  ⟨rfl, rfl, fun _ => rfl, .refl s, fun _ => .inl rfl, .inl ⟨rfl, rfl⟩⟩

theorem EventKept.trans {n : Period} {s t u : State} (h : EventKept n s t) (k : EventKept n t u) : EventKept n s u where
  now := k.now.trans h.now
  msy := k.msy.trans h.msy
  issued hn := (k.issued (h.msy ▸ hn)).trans (h.issued hn)
  links := h.links.trans k.links
  taken b := by
    rcases k.taken b with hk | hk
    · rcases h.taken b with hh | hh
      · exact .inl (hk.trans hh)
      · exact .inr (hk.trans hh)
    · exact .inr hk
  ring := by
    rcases k.ring with ⟨hr, hp⟩ | hk
    · rcases h.ring with ⟨hr', hp'⟩ | ⟨hl, hlen⟩
      · exact .inl ⟨hr.trans hr', hp.trans hp'⟩
      · exact .inr ⟨by rw [hr]; exact hl, by rw [hr]; exact hlen⟩
    · exact .inr hk

/-- What a block has taken stays taken. -/
theorem EventKept.takes {n : Period} {s t : State} (h : EventKept n s t) {b : Block} (hb : s.takenBy b = n) :
    t.takenBy b = n := by
  rcases h.taken b with ht | ht
  · exact ht.trans hb
  · exact ht

theorem dsqDemand_periodTaken (c : Class) (d : Dsq) : (dsqDemand c d).periodTaken = d.periodTaken := by
  cases c <;> cases hd : d.drive <;> simp only [dsqDemand, hd, dsqTripped, dsqEnter]

theorem Demanded.periodTaken {d e : Dsq} (h : Demanded d e) : e.periodTaken = d.periodTaken := by
  induction h with
  | refl => rfl
  | tail _ hc ih =>
    obtain ⟨c, rfl⟩ := hc
    rw [dsqDemand_periodTaken, ih]

theorem StuKept.periodTaken {u w : Stu} (h : StuKept u w) : w.periodTaken = u.periodTaken := by
  have hp := congrArg Stu.periodTaken h.rest
  exact hp

theorem PruKept.periodTaken {p q : Pru} (h : PruKept K p q) : q.periodTaken = p.periodTaken := by
  have hp := congrArg Pru.periodTaken h.own
  exact hp

theorem PruMild.periodTaken {p q : Pru} (h : PruMild K p q) : q.periodTaken = p.periodTaken := by
  have hp := congrArg Pru.periodTaken h.rest
  exact hp

theorem Carried.takenBy {s t : State} (h : Carried K s t) (hv : t.vwa.periodTaken = s.vwa.periodTaken) (b : Block) :
    t.takenBy b = s.takenBy b := by
  cases b with
  | meu => exact congrArg Meu.periodTaken h.base.meu
  | stu => exact h.stu.periodTaken
  | vwa => exact hv
  | dsq => exact h.dsq.periodTaken
  | pru => exact h.pru.periodTaken
  | set => exact h.set.taken
  | rcu => exact h.rcu.taken

theorem Carried.eventKept {s t : State} (h : Carried K s t) (hv : t.vwa.periodTaken = s.vwa.periodTaken) (n : Period) :
    EventKept n s t :=
  ⟨h.base.now, h.base.msy, fun _ => h.base.issued, h.links, fun b => .inl (h.takenBy hv b), .inl ⟨h.rcu.ring, h.rcu.taken⟩⟩

theorem Reported.eventKept {s t : State} (h : Reported s t) (n : Period) : EventKept n s t :=
  h.toCarried.eventKept (congrArg Vwa.periodTaken h.vwa) n

/-! ### Messages within a flow -/

theorem Flow.take_kept (o : Sched) (later : List Taking) (f : Flow) (m : Msg) (n : Period) :
    EventKept n f.state (Flow.take o later f m).state := by
  cases m with
  | report k j => exact (Flow.report_reported o later k j f).eventKept n
  | cond k b => exact (takeCond_carried k b f.state).eventKept rfl n
  | notice k st => exact (raise_carried (K := fun _ => True) k st f.state).eventKept rfl n
  | capture x c => exact (takeCapture_carried (K := fun _ => True) x c f.state).eventKept rfl n

theorem Flow.post_kept (o : Sched) (later : List Taking) (r : State × List Msg) (f : Flow) (n : Period) :
    EventKept n r.1 (Flow.post o later r f).state :=
  (Flow.post_carried o later r f).eventKept (congrArg Vwa.periodTaken (Flow.post_vwa o later r f)) n

/-- What a fold over a flow keeps, where each of its steps does. -/
theorem foldl_kept {α : Type} {step : Flow → α → Flow} {n : Period} (h : ∀ f a, EventKept n f.state (step f a).state)
    (l : List α) (f : Flow) : EventKept n f.state (l.foldl step f).state := by
  induction l generalizing f with
  | nil => exact .refl n _
  | cons a l ih => exact (h f a).trans (ih _)

theorem Flow.perform_kept (o : Sched) (later : List Taking) (r : State × List Msg) (f : Flow) (n : Period) :
    EventKept n r.1 (Flow.perform o later r f).state :=
  foldl_kept (fun g m => Flow.take_kept o later g m n) r.2 { f with state := r.1 }

theorem Flow.collect_kept (o : Sched) (later : List Taking) (due : Mail → Bool) (f : Flow) (n : Period) :
    EventKept n f.state (Flow.collect o later due f).state := by
  refine foldl_kept (step := Flow.open o later) (fun g m => ?_) (f.mail.filter due)
    { f with mail := f.mail.filter (fun m => !due m) }
  cases m with
  | msg m => exact Flow.take_kept o later g m n
  | demand c => exact (Flow.send_reported o later c g).eventKept n

/-- A channel's work and its messages. -/
theorem eachChan_kept (o : Sched) (later : List Taking) {work : Chan → State → State × List Msg} {n : Period}
    (h : ∀ k s, EventKept n s (work k s).1) (f : Flow) : EventKept n f.state (eachChan o later work f).state :=
  foldl_kept (fun g k => (h k g.state).trans (Flow.post_kept o later (work k g.state) g n)) (chanOrder o) f

theorem chanPut_kept (k : Chan) (c : VChan) (s : State) (n : Period) : EventKept n s (chanPut k c s).1 :=
  ⟨rfl, rfl, fun _ => rfl, .refl s, fun b => .inl (by cases b <;> rfl), .inl ⟨rfl, rfl⟩⟩

theorem chanStaged_kept (k : Chan) (s : State) (n : Period) : EventKept n s (chanStaged k s).1 := by
  unfold chanStaged
  split
  · exact .refl n s
  · rename_i v hv
    refine EventKept.trans (t := { s with set := profileTaken k v s.set }) ?_
      (EventKept.trans ((raiseTo_carried (K := fun _ => True) .applied (ownersOf [profileId k]) _).eventKept ?_ n)
        (chanPut_kept ..))
    · exact ⟨rfl, rfl, fun _ => rfl, .refl s, fun b => .inl (by cases b <;> rfl), .inl ⟨rfl, rfl⟩⟩
    · rw [raiseTo_eq]

theorem chanSpeeds_kept (k : Chan) (s : State) (n : Period) : EventKept n s (chanSpeeds k s).1 :=
  ⟨rfl, rfl, fun _ => rfl, .refl s, fun b => .inl (by cases b <;> rfl), .inl ⟨rfl, rfl⟩⟩

theorem chanPeriod_kept (woken : Quad (Option SetValue)) (k : Chan) (s : State) (n : Period) :
    EventKept n s (chanPeriod woken k s).1 := by
  unfold chanPeriod
  split
  · exact chanStaged_kept ..
  · exact .refl n s

theorem chanAction_kept (ids : List Nat) (k : Chan) (s : State) (n : Period) : EventKept n s (chanAction ids k s).1 := by
  unfold chanAction
  split
  · exact chanPut_kept ..
  · exact .refl n s

theorem stallClass_kept (j : Period) (s : State) (n : Period) : EventKept n s (stallClass j s).1 := by
  unfold stallClass
  split
  · exact ⟨rfl, rfl, fun _ => rfl, .refl s, fun b => .inl (by cases b <;> rfl), .inl ⟨rfl, rfl⟩⟩
  · exact .refl n s

/-! ### The blocks' period work -/

theorem stuPeriod_periodTaken (z : SetTable) (v : StuView) (u : Stu) : (stuPeriod z v u).1.periodTaken = v.number := rfl

/-- The speed and torque unit's work keeps what `EventKept` says, and takes the event. -/
theorem workStu_kept (o : Sched) (n : Period) (t : Tick) (later : List Taking) (f : Flow) :
    EventKept n f.state (workStu o n t later f).state ∧ (workStu o n t later f).state.takenBy .stu = n := by
  have hown : EventKept n f.state { f.state with stu := (stuPeriod f.state.set (f.state.stuView n t) f.state.stu).1 } :=
    ⟨rfl, rfl, fun _ => rfl, .refl _, fun b => by cases b <;> [left; right; left; left; left; left; left] <;> rfl,
      .inl ⟨rfl, rfl⟩⟩
  have hrest := (Flow.post_kept o later ({ f.state with stu := (stuPeriod f.state.set (f.state.stuView n t) f.state.stu).1 },
    (stuPeriod f.state.set (f.state.stuView n t) f.state.stu).2) f n).trans
    (eachChan_kept o later (fun k s => chanSpeeds_kept k s n) _)
  exact ⟨hown.trans hrest, hrest.takes (stuPeriod_periodTaken ..)⟩

theorem workVwa_kept (o : Sched) (n : Period) (later : List Taking) (f : Flow) :
    EventKept n f.state (workVwa o n later f).state ∧ (workVwa o n later f).state.takenBy .vwa = n := by
  have hown : EventKept n f.state { f.state with vwa := { f.state.vwa with woken := noneWoken, periodTaken := n } } :=
    ⟨rfl, rfl, fun _ => rfl, .refl _, fun b => by cases b <;> [left; left; right; left; left; left; left] <;> rfl,
      .inl ⟨rfl, rfl⟩⟩
  have hrest := eachChan_kept o later (fun k s => chanPeriod_kept f.state.vwa.woken k s n)
    { f with state := { f.state with vwa := { f.state.vwa with woken := noneWoken, periodTaken := n } } }
  exact ⟨hown.trans hrest, hrest.takes rfl⟩

theorem dsqWork_periodTaken (z : SetTable) (v : DsqView) (d : Dsq) : (dsqWork z v d).periodTaken = v.number := by
  have hwait : ∀ e : Dsq, (waitStep z v e).periodTaken = e.periodTaken := by
    intro e
    unfold waitStep
    split
    · rfl
    · (repeat' split) <;> rfl
    · (repeat' split) <;> rfl
  have hclear : ∀ e : Dsq, (decayClear v e).periodTaken = e.periodTaken := by
    intro e
    unfold decayClear
    split <;> rfl
  have hdrive : ∀ e : Dsq, (driveStep z v e).periodTaken = e.periodTaken := by
    intro e
    unfold driveStep closingStep coastStep
    split <;> (repeat' split) <;> rfl
  rw [dsqWork, hdrive, hclear, hwait]

/-- A move of the drive keeps what `EventKept` says but for the sequencer's own number. -/
theorem moveDrive_kept (o : Sched) (d : Dsq) (s : State) {n : Period} (hd : d.periodTaken = n) :
    EventKept n s (moveDrive o d s) ∧ (moveDrive o d s).takenBy .dsq = n := by
  have hdsq : (moveDrive o d s).takenBy .dsq = n := by
    change (moveDrive o d s).dsq.periodTaken = n
    rw [(moveDrive_units o d s).1, hd]
  refine ⟨?_, hdsq⟩
  have hb := moveDrive_base o d s
  by_cases h : d.drive = s.dsq.drive
  · rw [moveDrive_stay o h] at hdsq ⊢
    exact ⟨rfl, rfl, fun _ => rfl, .refl _, fun b => by
      cases b <;> [exact .inl rfl; exact .inl rfl; exact .inl rfl; exact .inr hdsq; exact .inl rfl; exact .inl rfl; exact .inl rfl],
      .inl ⟨rfl, rfl⟩⟩
  · have hm := moveDrive_moved o h
    have hrcu : (moveDrive o d s).rcu.ring = s.rcu.ring ∧ (moveDrive o d s).rcu.periodTaken = s.rcu.periodTaken := by
      rw [hm.rcu]
      exact ⟨rfl, rfl⟩
    refine ⟨hb.now, hb.msy, fun _ => hb.issued, hm.links, fun b => ?_, .inl ?_⟩
    · cases b with
      | meu => exact .inl (congrArg Meu.periodTaken hb.meu)
      | stu => exact .inl (moveDrive_stu o d s).periodTaken
      | vwa => exact .inl (congrArg Vwa.periodTaken hm.vwa)
      | dsq => exact .inr hdsq
      | pru => exact .inl hm.pru.periodTaken
      | set => exact .inl ((congrArg SetTable.periodTaken hm.set).trans (setAtEntry_steady ..).taken)
      | rcu => exact .inl hrcu.2
    · exact hrcu

theorem workDsq_kept (o : Sched) (n : Period) (later : List Taking) (f : Flow) :
    EventKept n f.state (Flow.post o later (workDsq o n f.state) f).state ∧
    (Flow.post o later (workDsq o n f.state) f).state.takenBy .dsq = n := by
  obtain ⟨hown, ht⟩ := moveDrive_kept o (dsqPeriod f.state.set (f.state.dsqView n) f.state.dsq).1 f.state (n := n)
    (dsqWork_periodTaken ..)
  have hrest := Flow.post_kept o later (workDsq o n f.state) f n
  exact ⟨hown.trans hrest, hrest.takes ht⟩

theorem workPru_kept (o : Sched) (n : Period) (later : List Taking) (f : Flow) :
    EventKept n f.state (Flow.perform o later (workPru n f.state) f).state ∧
    (Flow.perform o later (workPru n f.state) f).state.takenBy .pru = n := by
  have hpru : ∀ p : Pru, p.periodTaken = n → EventKept n f.state { f.state with pru := p } := fun p hp =>
    ⟨rfl, rfl, fun _ => rfl, .refl _, fun b => by
      cases b <;> [exact .inl rfl; exact .inl rfl; exact .inl rfl; exact .inl rfl; exact .inr hp; exact .inl rfl; exact .inl rfl],
      .inl ⟨rfl, rfl⟩⟩
  have hown : EventKept n f.state (workPru n f.state).1 ∧ (workPru n f.state).1.takenBy .pru = n := by
    unfold workPru lossOf
    split
    · dsimp only
      split
      · exact ⟨hpru (pruCond .permitLost true { pruAbsent f.state.pru with periodTaken := n, lostCond := true }) rfl, rfl⟩
      · exact ⟨hpru { pruAbsent f.state.pru with periodTaken := n } rfl, rfl⟩
    · exact ⟨hpru { pruCount f.state.pru with periodTaken := n } rfl, rfl⟩
  have hrest := Flow.perform_kept o later (workPru n f.state) f n
  exact ⟨hown.1.trans hrest, hrest.takes hown.2⟩

theorem applyClasses_periodTaken (choose : ApplyClass → Bool) (z : SetTable) :
    (applyClasses choose z).periodTaken = z.periodTaken := rfl

theorem handStopped_kept (d : Drive) (ids : List Nat) (s : State) (n : Period) :
    EventKept n s (handStopped d ids s) := by
  obtain ⟨hbase, hdsq, hvwa, hset⟩ := handStopped_same d ids s
  have h := handStopped_handed d ids s
  refine ⟨hbase.now, hbase.msy, fun _ => hbase.issued, h.links, fun b => .inl ?_, .inl ?_⟩
  · cases b with
    | meu => exact congrArg Meu.periodTaken hbase.meu
    | stu => exact h.stu.kept.periodTaken
    | vwa => exact congrArg Vwa.periodTaken hvwa
    | dsq => exact congrArg Dsq.periodTaken hdsq
    | pru => exact h.pru.periodTaken
    | set => exact congrArg SetTable.periodTaken hset
    | rcu => exact congrArg Rcu.periodTaken h.rcu
  · exact ⟨congrArg Rcu.ring h.rcu, congrArg Rcu.periodTaken h.rcu⟩

theorem handPeriod_kept (o : Sched) (j : Period) (ids : List Nat) (later : List Taking) (f : Flow) (n : Period) :
    EventKept n f.state (handPeriod o j ids later f).state := by
  have hchans := (handStopped_kept f.state.dsq.drive ids f.state n).trans
    (eachChan_kept o later (fun k s => chanAction_kept ids k s n)
      { f with state := handStopped f.state.dsq.drive ids f.state })
  unfold handPeriod
  dsimp only
  split
  · exact hchans.trans ((stallClass_kept j _ n).trans (Flow.perform_kept ..))
  · exact hchans

theorem workSet_kept (o : Sched) (n : Period) (later : List Taking) (f : Flow) :
    EventKept n f.state (workSet o n later f).state ∧ (workSet o n later f).state.takenBy .set = n := by
  have hown : EventKept n f.state { f.state with
      set := { applyClasses (atPeriod f.state.set.driveView) f.state.set with periodTaken := n } } :=
    ⟨rfl, rfl, fun _ => rfl, .refl _, fun b => by cases b <;> [left; left; left; left; left; right; left] <;> rfl,
      .inl ⟨rfl, rfl⟩⟩
  have hrest : ∀ (ids : List Nat) (s : State), EventKept n s (handPeriod o n ids later { f with state := tellOwners ids s }).state :=
    fun ids s => ((raiseTo_carried (K := fun _ => True) .applied (ownersOf ids) s).eventKept (by rw [raiseTo_eq]) n).trans
      (handPeriod_kept o n ids later { f with state := tellOwners ids s } n)
  exact ⟨hown.trans (hrest ..), (hrest ..).takes rfl⟩

theorem rcuFill_ring (e : Entry) (u : Rcu) : (rcuFill e u).1.ring = u.ring ∧ (rcuFill e u).1.periodTaken = u.periodTaken := by
  unfold rcuFill
  split
  · exact ⟨rfl, rfl⟩
  · split
    · exact ⟨rfl, rfl⟩
    · split <;> exact ⟨rfl, rfl⟩

theorem pushEntry_takes (e : Entry) (ring : List Entry) :
    ((pushEntry e ring).getLast?).map Entry.period = some e.period ∧ (pushEntry e ring).length ≤ 256 := by
  have hlen : (pushEntry e ring).length ≤ 256 := by
    simp only [pushEntry, ringCapacity, List.length_drop, List.length_append, List.length_singleton]
    omega
  refine ⟨?_, hlen⟩
  have hlt : ring.length + 1 - ringCapacity < (ring ++ [e]).length := by
    simp only [ringCapacity, List.length_append, List.length_singleton]
    omega
  rw [pushEntry, List.getLast?_drop, if_neg (Nat.not_le.mpr hlt), List.getLast?_append]
  rfl

theorem rcuFill_notices (e : Entry) (u : Rcu) : ∀ m ∈ (rcuFill e u).2, isNotice m := by
  intro m hm
  unfold rcuFill at hm
  split at hm
  · exact absurd hm List.not_mem_nil
  · split at hm
    · exact absurd hm List.not_mem_nil
    · split at hm
      · exact sealedMsgs_notices _ m hm
      · exact absurd hm List.not_mem_nil

theorem workRcu_eq (n : Period) (s : State) : workRcu n s =
    { s with rcu := (rcuPeriod (s.entry n) s.rcu).1, links := (workRcu n s).links } ∧ LinksRaised s (workRcu n s) :=
  raiseAll_notices (rcuFill_notices _ _) { s with rcu := (rcuPeriod (s.entry n) s.rcu).1 }

theorem rcuPeriod_takes (e : Entry) (u : Rcu) : RingTakes e.period (rcuPeriod e u).1 ∧
    (rcuPeriod e u).1.periodTaken = e.period := by
  obtain ⟨hl, hlen⟩ := pushEntry_takes e u.ring
  unfold rcuPeriod
  generalize pushEntry e u.ring = ring at hl hlen ⊢
  obtain ⟨hr, hp⟩ := rcuFill_ring e { u with ring := ring, periodTaken := e.period }
  exact ⟨⟨by rw [hr]; exact hl, by rw [hr]; exact hlen⟩, hp⟩

theorem workRcu_kept (n : Period) (s : State) : EventKept n s (workRcu n s) ∧ (workRcu n s).takenBy .rcu = n := by
  obtain ⟨he, hl⟩ := workRcu_eq n s
  obtain ⟨hring, htaken⟩ := rcuPeriod_takes (s.entry n) s.rcu
  generalize (workRcu n s).links = l at he
  rw [he] at hl ⊢
  refine ⟨⟨rfl, rfl, fun _ => rfl, hl, fun b => ?_, .inr hring⟩, htaken⟩
  cases b <;> [left; left; left; left; left; left; exact .inr htaken] <;> rfl

/-- Each block's period work keeps what `EventKept` says, and takes the event. -/
theorem periodWork_kept (o : Sched) (n : Period) (t : Tick) (b : Block) (later : List Taking) (f : Flow) :
    EventKept n f.state (periodWork o n t b later f).state ∧ (periodWork o n t b later f).state.takenBy b = n := by
  cases b with
  | meu =>
    exact ⟨⟨rfl, rfl, fun _ => rfl, .refl _, fun b => by cases b <;> [right; left; left; left; left; left; left] <;> rfl,
      .inl ⟨rfl, rfl⟩⟩, rfl⟩
  | stu => exact workStu_kept ..
  | vwa => exact workVwa_kept ..
  | dsq => exact workDsq_kept ..
  | pru => exact workPru_kept ..
  | set => exact workSet_kept ..
  | rcu => exact workRcu_kept ..

/-! ### The takings of an event -/

theorem takePeriod_kept (o : Sched) (n : Period) (t : Tick) (b : Block) (later : List Taking) (f : Flow) :
    EventKept n f.state (takePeriod o n t b later f).state ∧ (takePeriod o n t b later f).state.takenBy b = n := by
  unfold takePeriod
  split
  · exact ⟨.refl n _, ‹_›⟩
  · exact periodWork_kept ..

theorem Flow.issue_kept (n : Period) (t : Tick) (f : Flow) : EventKept n f.state (Flow.issue n t f).state := by
  unfold Flow.issue
  split
  · exact .refl n _
  · rename_i hn
    exact ⟨rfl, rfl, fun h => absurd h hn, .refl _, fun b => .inl (by cases b <;> rfl), .inl ⟨rfl, rfl⟩⟩

theorem takeOrigin_kept (g : Origin) (r : OriginTaker) (s : State) (n : Period) : EventKept n s (takeOrigin g r s).1 := by
  cases r <;> exact ⟨rfl, rfl, fun _ => rfl, .refl s, fun b => .inl (by cases b <;> rfl), .inl ⟨rfl, rfl⟩⟩

theorem takeOne_kept (o : Sched) (n : Period) (t : Tick) (g : Option Origin) (k : Taking) (later : List Taking)
    (f : Flow) : EventKept n f.state (takeOne o n t g k later f).state ∧
      ∀ b, k = .period b → (takeOne o n t g k later f).state.takenBy b = n := by
  cases k with
  | period b =>
    obtain ⟨hk, ht⟩ := takePeriod_kept o n t b later (Flow.issue n t f)
    refine ⟨(Flow.issue_kept n t f).trans hk, fun c hc => ?_⟩
    cases hc
    exact ht
  | origin r =>
    refine ⟨?_, fun b hb => by cases hb⟩
    cases g with
    | none => exact .refl n _
    | some g => exact (takeOrigin_kept g r f.state n).trans (Flow.post_kept ..)
  | report c => exact ⟨Flow.collect_kept .., fun b hb => by cases hb⟩
  | demand => exact ⟨Flow.collect_kept .., fun b hb => by cases hb⟩

/-- Every block that is among the takings has then taken the event (R2). -/
theorem runTakings_kept (o : Sched) (n : Period) (t : Tick) (g : Option Origin) (l : List Taking) (f : Flow) :
    EventKept n f.state (runTakings o n t g l f).state ∧
    ∀ b, .period b ∈ l → (runTakings o n t g l f).state.takenBy b = n := by
  induction l generalizing f with
  | nil => exact ⟨Flow.collect_kept .., fun b hb => absurd hb List.not_mem_nil⟩
  | cons k later ih =>
    obtain ⟨hk, ht⟩ := takeOne_kept o n t g k later f
    obtain ⟨ik, it⟩ := ih (takeOne o n t g k later f)
    refine ⟨hk.trans ik, fun b hb => ?_⟩
    rcases List.mem_cons.mp hb with rfl | hb
    · exact ik.takes (ht b rfl)
    · exact it b hb

theorem mem_takingsOf {k : Taking} {all : List Taking} (h : k ∈ all) (o : Sched) : k ∈ takingsOf all o := by
  by_cases hk : k ∈ o.takings <;> simp [takingsOf, mem_firsts, h, hk]

theorem mem_allBlocks (b : Block) : b ∈ allBlocks := by cases b <;> decide

theorem mem_periodTakings (o : Sched) (b : Block) : .period b ∈ periodTakings o :=
  mem_takingsOf (List.mem_map_of_mem (mem_allBlocks b)) o

theorem mem_bothTakings (o : Sched) (b : Block) : .period b ∈ bothTakings o :=
  mem_takingsOf (List.mem_append_left _ (List.mem_map_of_mem (mem_allBlocks b))) o

/-- The part that takes a period event: the first pending origin has left where it is taken with the event. -/
def eventState (o : Sched) (t : Tick) (s : State) : State :=
  match coinciding o t s.msy with
  | none => s
  | some _ => { s with msy := { s.msy with origins := s.msy.origins.tail } }

/-- The period event: every block has taken it, and what `EventKept` says is kept (R2). -/
theorem periodEvent_kept (o : Sched) (t : Tick) (s : State) :
    EventKept s.msy.period (eventState o t s) (periodEvent o t s) ∧
    ∀ b, (periodEvent o t s).takenBy b = s.msy.period := by
  cases hc : coinciding o t s.msy with
  | none =>
    obtain ⟨hk, ht⟩ := runTakings_kept o s.msy.period t none (periodTakings o) { state := s, mail := [] }
    simp only [periodEvent, eventState, hc]
    exact ⟨hk, fun b => ht b (mem_periodTakings o b)⟩
  | some g =>
    obtain ⟨hk, ht⟩ := runTakings_kept o s.msy.period t (some g) (bothTakings o)
      { state := { s with msy := { s.msy with origins := s.msy.origins.tail } }, mail := [] }
    simp only [periodEvent, eventState, hc]
    exact ⟨hk, fun b => ht b (mem_bothTakings o b)⟩

theorem coinciding_none {o : Sched} (h : namesOrigin o = false) (t : Tick) (m : Msy) : coinciding o t m = none := by
  unfold coinciding
  split
  · rfl
  · exact if_neg (by simp [h])

theorem periodEvent_alone {o : Sched} (h : namesOrigin o = false) (t : Tick) (s : State) : periodEvent o t s =
    (runTakings o s.msy.period t none (periodTakings o) { state := s, mail := [] }).state := by
  rw [periodEvent, coinciding_none h]

/-! ### The commands of a period event -/

theorem edgeDue_eq {m : Msy} (h : m.sync = .locked ∨ m.sync = .holdover) : edgeDue m = m.pendingEdge := by
  have ht : tracking m = true := by rcases h with h | h <;> simp [tracking, h]
  rw [edgeDue, if_pos ht]

theorem exec_referenceEdge {s : State} {e : Tick} (hs : s.msy.sync = .locked ∨ s.msy.sync = .holdover)
    (he : s.msy.pendingEdge = some e) (o : Sched) :
    exec (.referenceEdge o) s = .next (periodEvent o e (periodFalls e (msyEdge (s.issueAt e) s.msy) s)) := by
  change Host.Outcome.next (match edgeDue s.msy with
    | none => s
    | some t => periodEvent o t (periodFalls t (msyEdge (s.issueAt t) s.msy) s)) = _
  rw [edgeDue_eq hs, he]

theorem exec_substitutePeriodEvent {s : State} {e : Tick} (he : s.msy.subst = some (e - 200000#32)) (o : Sched) :
    exec (.substitutePeriodEvent o) s = .next (periodEvent o e (periodFalls e (msySubstitute e s.msy) s)) := by
  change Host.Outcome.next (match substDue s.msy with
    | none => s
    | some t => periodEvent o t (periodFalls t (msySubstitute t s.msy) s)) = _
  have hdue : substDue s.msy = some e := by
    rw [substDue, he]
    exact congrArg some (BitVec.sub_add_cancel e 200000#32)
  rw [hdue]

/-! ### The lines of the links -/

theorem linkAt_cut (rate : LinkRate) (t : Tick) (l : Link) : (linkAt rate t l).cut =
    l.cut.filter (fun r => decide ((t - r.started).toNat < r.frame.length * byteTicks rate)) := by
  cases hc : l.cut with
  | none => simp [linkAt, hc]
  | some r =>
    by_cases h : r.frame.length * byteTicks rate ≤ (t - r.started).toNat
    · have hcut : cutAt rate t r = none := if_pos h
      simp only [linkAt, hc, Option.bind_some, hcut, Option.filter_some, decide_eq_true_eq, if_neg (Nat.not_lt.mpr h)]
    · have hcut : cutAt rate t r = some r := if_neg h
      simp only [linkAt, hc, Option.bind_some, hcut, Option.filter_some, decide_eq_true_eq, if_pos (Nat.not_le.mp h)]

/-- A low line at `t` bears on what the link receives until the line has been high for eleven bit times (R191). -/
theorem lowAt_eq (rate : LinkRate) (t : Tick) (w : LowLine) : lowAt rate t w =
    if w.run.span.length + ((w.run.dips.map (fun d => d.high + d.low)).sum + byteTicks rate + byteTicks rate / 10) ≤
      (t - w.run.span.start).toNat then none else some (lowLeft t (stretchAt t w)) := by
  have hsum : runTicks w.run + byteTicks rate + bitTicks rate =
      w.run.span.length + ((w.run.dips.map (fun d => d.high + d.low)).sum + byteTicks rate + byteTicks rate / 10) := by
    simp only [runTicks, bitTicks]
    omega
  rw [lowAt, hsum]
  rfl

theorem lowLeft_served {t : Tick} {w : LowLine} (hs : w.served = true) (h : (t - w.run.span.start).toNat < w.run.span.length) :
    lowLeft t w = { w with run := { w.run with
      span := { start := t, length := w.run.span.length - (t - w.run.span.start).toNat } } } :=
  if_pos (Bool.and_eq_true_iff.mpr ⟨hs, decide_eq_true h⟩)

theorem lowLeft_kept {t : Tick} {w : LowLine}
    (h : w.served = false ∨ w.run.span.length ≤ (t - w.run.span.start).toNat) : lowLeft t w = w := by
  refine if_neg fun hc => ?_
  obtain ⟨hs, hl⟩ := Bool.and_eq_true_iff.mp hc
  have hl : (t - w.run.span.start).toNat < w.run.span.length := of_decide_eq_true hl
  rcases h with h | h
  · simp [h] at hs
  · omega

/-! ### The origins of an event -/

theorem insertOrigin_perm (g : Origin) (l : List Origin) : (insertOrigin g l).Perm (g :: l) := by
  induction l with
  | nil => exact .refl _
  | cons k ks ih =>
    unfold insertOrigin
    split
    · exact .refl _
    · exact (ih.cons k).trans (.swap g k ks)

/-- The origins of an edge join those pending (R17, R18). -/
theorem addOrigins_perm (pred : Tick) (offset pEst : Nat) (n : Period) (kind : OriginKind) (gs : List Origin) :
    (addOrigins pred offset pEst n kind gs).Perm (gs ++ allThys.map (originOf pred offset pEst n kind)) := by
  unfold addOrigins
  generalize allThys = ys
  induction ys generalizing gs with
  | nil => simp
  | cons y ys ih =>
    refine (ih _).trans ?_
    rw [List.map_cons]
    exact ((insertOrigin_perm _ gs).append_right _).trans List.perm_middle.symm

/-- The part that takes a period event differs in the pending origins only. -/
theorem eventState_rest (o : Sched) (t : Tick) (s : State) : (eventState o t s).links = s.links ∧
    (eventState o t s).rcu = s.rcu ∧ (eventState o t s).now = s.now ∧
    { (eventState o t s).msy with origins := s.msy.origins } = s.msy := by
  unfold eventState
  split <;> exact ⟨rfl, rfl, rfl, rfl⟩

/-- A period event that the synchroniser has issued as `m` at `e`, as `PeriodEventAndItsOrigins` states it of the links,
the blocks and the ring. -/
theorem periodFalls_taken (o : Sched) (e : Tick) (m : Msy) (s : State) : ∃ u, periodEvent o e (periodFalls e m s) = u ∧
    u.now = e ∧ (∃ gs, u.msy = { m with origins := gs }) ∧ (∀ b, u.takenBy b = m.period) ∧
    (∀ k, LinkRaised (linkAt s.rate e (s.links.get k)) (u.links.get k)) ∧
    (s.rcu.periodTaken ≠ m.period → RingTakes m.period u.rcu) := by
  obtain ⟨hk, ht⟩ := periodEvent_kept o e (periodFalls e m s)
  obtain ⟨hlinks, hrcu, hnow, hmsy⟩ := eventState_rest o e (periodFalls e m s)
  refine ⟨_, rfl, hk.now.trans hnow, ⟨(periodEvent o e (periodFalls e m s)).msy.origins, ?_⟩, ht, fun k => ?_, fun hn => ?_⟩
  · rw [hk.msy]
    exact congrArg (fun n : Msy => { n with origins := (eventState o e (periodFalls e m s)).msy.origins }) hmsy
  · have hl := hk.links k
    rw [hlinks] at hl
    exact linksAt_get s.rate e s.links k ▸ hl
  · refine hk.ring.resolve_left fun h => hn ?_
    rw [hrcu] at h
    exact h.2.symm.trans (ht .rcu)

theorem LinkRaised.lines {l m : Link} (h : LinkRaised l m) : m.reply = l.reply ∧ m.cut = l.cut ∧ m.low = l.low := by
  rw [← h.rest]
  exact ⟨rfl, rfl, rfl⟩

/-- What the coming edge is issued with where the note is of another edge. -/
theorem State.issueAt_other {s : State} {t : Tick}
    (h : ∀ x, s.issued = some x → x.period ≠ s.msy.period + 1#32 ∨ x.pred ≠ t) :
    s.issueAt t = { period := s.msy.period + 1#32, pred := t, offset := s.set.originOffset, pEst := s.msy.pEst } := by
  have hnone : s.issued.filter (fun x => decide (x.period = s.msy.period + 1#32) && decide (x.pred = t)) = none := by
    refine Option.filter_eq_none_iff.mpr fun x hx => ?_
    rcases h x hx with h | h <;> simp [h]
  rw [State.issueAt, hnone]

/-- A block takes the coming period event ahead. -/
theorem takeAhead_due {b : Block} {due : Period → Tick → Bool} {s : State} {t : Tick}
    (hn : nextPeriodEvent s.msy = some t) (hb : s.takenBy b ≠ s.msy.period + 1#32)
    (hd : due (s.msy.period + 1#32) t = true) (o : Sched) : takeAhead b o due s =
      (periodWork o (s.msy.period + 1#32) t b [] { state := { s with now := t, issued := s.edgeNoted t }, mail := [] }).state := by
  have hc : (decide (s.takenBy b ≠ s.msy.period + 1#32) && due (s.msy.period + 1#32) t) = true := by simp [hb, hd]
  simp only [takeAhead, hn, hc, if_true]

/-- Settles O12: `runTakings_kept` through the takings, and the origins by `addOrigins_perm`. -/
theorem periodEventAndItsOrigins : Obligations.PeriodEventAndItsOrigins := by
  refine ⟨fun i o s e hi => ?event, fun o s e hsub ho => ?substitute, fun o s e offset pEst hs he ho hnew hnoted => ?edge,
    fun b o due s t hnext hb hdue => ?ahead⟩
  case event =>
    have hmsy : ∃ m : Msy, exec i s = .next (periodEvent o e (periodFalls e m s)) ∧ m.period = s.msy.period + 1#32 ∧
        (i = .referenceEdge o → m.subst = none ∧ m.pendingEdge = s.msy.waitingEdge ∧ m.waitingEdge = none) ∧
        (i = .substitutePeriodEvent o → m.subst = some e ∧ m.pendingEdge = s.msy.pendingEdge) := by
      rcases hi with ⟨rfl, hs, he⟩ | ⟨rfl, he⟩
      · exact ⟨_, exec_referenceEdge hs he o, rfl, fun _ => ⟨rfl, rfl, rfl⟩, (fun h => nomatch h)⟩
      · exact ⟨_, exec_substitutePeriodEvent he o, rfl, (fun h => nomatch h), fun _ => ⟨rfl, rfl⟩⟩
    obtain ⟨m, hexec, hperiod, href, hsub⟩ := hmsy
    obtain ⟨u, rfl, hnow, ⟨gs, hu⟩, htaken, hlinks, hring⟩ := periodFalls_taken o e m s
    rw [hperiod] at htaken hring
    refine ⟨_, hexec, hnow, by rw [hu]; exact hperiod, htaken, fun h => by rw [hu]; exact href h,
      fun h => by rw [hu]; exact hsub h, fun k => ?_, fun hn => ⟨(hring hn).last, (hring hn).length⟩⟩
    obtain ⟨hreply, hcut, hlow⟩ := (hlinks k).lines
    refine ⟨hreply, hcut.trans (linkAt_cut ..), fun hn => hlow.trans ?_, fun w x rest hw hx hrest => ?_⟩
    · change (s.links.get k).low.bind _ = none
      rw [hn]
      rfl
    · have hat : ((periodEvent o e (periodFalls e m s)).links.get k).low = lowAt s.rate e w := by
        refine hlow.trans ?_
        change (s.links.get k).low.bind _ = _
        rw [hw]
        rfl
      rw [hat, lowAt_eq]
      subst hx hrest
      refine ⟨fun h => if_pos h, fun h => ?_⟩
      rw [if_neg (Nat.not_le.mpr h)]
      exact ⟨fun h1 h2 => by rw [lowLeft_served h1 h2], fun h1 => by rw [lowLeft_kept h1]⟩
  case substitute =>
    obtain ⟨u, hu, -, ⟨gs, hm⟩, -⟩ := periodFalls_taken o e (msySubstitute e s.msy) s
    have hkept := (runTakings_kept o (s.msy.period + 1#32) e none (periodTakings o)
      { state := periodFalls e (msySubstitute e s.msy) s, mail := [] }).1
    rw [periodEvent_alone ho] at hu
    have hmsy : u.msy = msySubstitute e s.msy := by
      rw [← hu]
      exact hkept.msy
    refine ⟨u, (exec_substitutePeriodEvent hsub o).trans (congrArg _ ((periodEvent_alone ho ..).trans hu)), ?_, ?_⟩
    · rw [hmsy]
      exact hu.symm
    · rw [hmsy]
      exact addOrigins_perm ..
  case edge =>
    have hissue : s.issueAt e = { period := s.msy.period + 1#32, pred := e, offset := offset, pEst := pEst } := by
      by_cases hx : ∃ x, s.issued = some x ∧ x.period = s.msy.period + 1#32 ∧ x.pred = e
      · obtain ⟨x, hx, hp, hpred⟩ := hx
        obtain ⟨rfl, rfl⟩ := hnoted x hx hp hpred
        rw [s.issueAt_noted e x hx hp hpred, ← hp, ← hpred]
      · have hother : ∀ x, s.issued = some x → x.period ≠ s.msy.period + 1#32 ∨ x.pred ≠ e := by
          intro x h
          by_contra hc
          obtain ⟨h1, h2⟩ := not_or.mp hc
          exact hx ⟨x, h, not_not.mp h1, not_not.mp h2⟩
        obtain ⟨rfl, rfl⟩ := hnew hother
        exact State.issueAt_other hother
    have hexec := exec_referenceEdge hs he o
    rw [hissue] at hexec
    generalize hm : msyEdge { period := s.msy.period + 1#32, pred := e, offset := offset, pEst := pEst } s.msy = m at hexec
    have hperiod : m.period = s.msy.period + 1#32 := by rw [← hm]; rfl
    have hkept := (runTakings_kept o m.period e none (periodTakings o) { state := periodFalls e m s, mail := [] }).1
    rw [periodEvent_alone ho] at hexec
    change exec _ s = .next (runTakings o m.period e none (periodTakings o) { state := periodFalls e m s, mail := [] }).state
      at hexec
    refine ⟨_, hexec, hkept.issued rfl, ?_, ?_⟩
    · rw [hkept.msy, ← hperiod]
      rfl
    · rw [hkept.msy]
      change m.origins.Perm _
      rw [← hm]
      have hkind : (fun g : Origin => decide (g.kind ≠ .substitute)) = fun g => decide (g.kind = .real) := by
        funext g
        cases g.kind <;> rfl
      rw [← hkind]
      exact addOrigins_perm ..
  case ahead =>
    rw [takeAhead_due hnext hb hdue]
    obtain ⟨-, -, hmsy, hissued, -⟩ := periodWork_base o (s.msy.period + 1#32) t b []
      { state := { s with now := t, issued := s.edgeNoted t }, mail := [] }
    replace hissued : _ = s.edgeNoted t := hissued
    refine ⟨fun hs he => ?_, fun he => hissued.trans ?_, hmsy⟩
    · have hdue : s.edgeNoted t = some (s.issueAt t) := if_pos ((edgeDue_eq hs).trans he)
      exact ⟨fun hother => by rw [hissued, hdue, State.issueAt_other hother],
        fun x hx hp hpred => by rw [hissued, hdue, s.issueAt_noted t x hx hp hpred, hx]⟩
    · refine if_neg fun h => he ?_
      unfold edgeDue at h
      split at h
      · exact h
      · cases h

end Sys2Proof.Machine
end

section
/-! The converter controllers: the regulator's step, the taking of origins, firings and their bursts (chapter 3). -/

namespace Sys2Proof.Machine

/-! ### The regulator's numbers -/

theorem clampInt_eq {lo hi : Int} (h : lo ≤ hi) (x : Int) : clampInt lo hi x = max lo (min hi x) := by
  unfold clampInt
  split
  · omega
  · split <;> omega

theorem clampInt_ge {lo hi : Int} (h : lo ≤ hi) (x : Int) : lo ≤ clampInt lo hi x := by
  rw [clampInt_eq h]
  exact le_max_left ..

/-- The delay and the dither accumulator with the carry written out (R51). -/
theorem ditherDelay_eq (angle length dither : Nat) : ditherDelay angle length dither =
    (angle * length / 49152 + (if 49152 ≤ dither + angle * length % 49152 then 1 else 0),
     dither + angle * length % 49152 - (if 49152 ≤ dither + angle * length % 49152 then 1 else 0) * 49152) := by
  unfold ditherDelay
  change (if 49152 ≤ dither + angle * length % 49152 then _ else _) = _
  split <;> rfl

/-- A firing of the numbers of R51 joins the end of those pending that lie before it (R53). -/
theorem convSchedule_eq {al m carry : Nat} {g : Origin} {c : Conv} {f : Firing} (hm : m = al * g.length % 49152)
    (hc : carry = if 49152 ≤ c.dither + m then 1 else 0)
    (hf : f = { thy := g.thy, originStamp := g.stamp, period := g.period, angle := al,
                stamp := g.stamp + BitVec.ofNat 32 (al * g.length / 49152 + carry) }) :
    convSchedule al g c = { c with
      lastAngle := al, dither := c.dither + m - carry * 49152,
      firings := c.firings.filter (fun q => before q.stamp f.stamp) ++ [f] } := by
  subst hm hc hf
  rw [convSchedule, ditherDelay_eq]
  rfl

theorem rawAngle_eq (u : Int) : rawAngle u =
    if (u + 16384).toNat / 128 = 256 then 0
    else arccosAt ((u + 16384).toNat / 128) -
      ((arccosAt ((u + 16384).toNat / 128) - arccosAt ((u + 16384).toNat / 128 + 1)) * ((u + 16384).toNat % 128) + 64) / 128 :=
  rfl

theorem integHeld_iff {amin amax araw : Nat} {e : Int} :
    integHeld amin amax araw e = true ↔ (amax < araw ∧ e < 0) ∨ (araw < amin ∧ 0 < e) := by
  simp [integHeld]

theorem convOrigin_substitute {g : Origin} (h : g.kind = .substitute) (z : SetTable) (iref imeas : Nat) (c : Conv) :
    convOrigin z iref imeas g c = { c with lastOrigin := some g } := by
  rw [convOrigin, h]

theorem convOrigin_real {g : Origin} (h : g.kind = .real) (z : SetTable) (iref imeas : Nat) (c : Conv) :
    convOrigin z iref imeas g c = convRealOrigin z iref imeas g { c with lastOrigin := some g } := by
  rw [convOrigin, h]

theorem convOrigin_firing {g : Origin} {c : Conv} (h : g.kind = .real) (hs : c.state = .firing) (z : SetTable)
    (iref imeas : Nat) : convOrigin z iref imeas g c = convRegulate z iref imeas g { c with lastOrigin := some g } := by
  simp only [convOrigin_real h, convRealOrigin, hs]

theorem convOrigin_off {g : Origin} {c : Conv} (h : g.kind = .real) (hs : c.state = .off) (z : SetTable)
    (iref imeas : Nat) : convOrigin z iref imeas g c = { c with lastOrigin := some g } := by
  simp only [convOrigin_real h, convRealOrigin, hs]

theorem convRealOrigin_retard {z : SetTable} {iref imeas : Nat} {g : Origin} {c : Conv} (hs : c.state = .retard) :
    convRealOrigin z iref imeas g c = if retardDone z imeas c then convOff c else convSchedule z.alphaMax g c := by
  simp only [convRealOrigin, hs]

/-- RETARD stops at a current at or below the zero threshold, or with its firings counted out (R44). -/
theorem convOrigin_stops {g : Origin} {c : Conv} (h : g.kind = .real) (hs : c.state = .retard) {z : SetTable} {imeas : Nat}
    (hd : imeas ≤ z.zeroThreshold ∨ z.retardLimit ≤ c.retardCount) (iref : Nat) :
    convOrigin z iref imeas g c = convOff { c with lastOrigin := some g } := by
  have hdone : retardDone z imeas { c with lastOrigin := some g } = true := by simpa [retardDone] using hd
  rw [convOrigin_real h, convRealOrigin_retard (c := { c with lastOrigin := some g }) hs, if_pos hdone]

/-- HELD, and RETARD above its stop test, fire at αmax (R44, R45). -/
theorem convOrigin_late {g : Origin} {c : Conv} (h : g.kind = .real) {z : SetTable} {imeas : Nat}
    (hs : c.state = .held ∨ (c.state = .retard ∧ z.zeroThreshold < imeas ∧ c.retardCount < z.retardLimit)) (iref : Nat) :
    convOrigin z iref imeas g c = convSchedule z.alphaMax g { c with lastOrigin := some g } := by
  rcases hs with hs | ⟨hs, hi, hr⟩
  · simp only [convOrigin_real h, convRealOrigin, hs]
  · have hdone : retardDone z imeas { c with lastOrigin := some g } = false := by simp [retardDone, hi, hr]
    rw [convOrigin_real h, convRealOrigin_retard (c := { c with lastOrigin := some g }) hs, if_neg (by simp [hdone])]

/-- Settles O20: `convRegulate` with its intermediate values named. -/
theorem regulatorStepByItsNumbers : Obligations.RegulatorStepByItsNumbers := by
  refine ⟨?_, by decide +kernel, by decide +kernel⟩
  rintro z iref imeas g c w al m carry f hreal hle rfl hm hc hf
  refine ⟨?_, fun hs hal => ?_⟩
  · rintro e i' u k r raw hs rfl rfl rfl rfl rfl hraw hal
    rw [← rawAngle_eq] at hraw
    have hi : integCandidate z.ki ((iref : Int) - imeas) c.integ =
        max (-4194304) (min 4194304 (c.integ + (z.ki : Int) * ((iref : Int) - imeas))) := clampInt_eq (by decide) _
    have hu : rawAngle (demandU z.kp ((iref : Int) - imeas)
        (max (-4194304) (min 4194304 (c.integ + (z.ki : Int) * ((iref : Int) - imeas))))) = raw := by
      rw [hraw]
      exact congrArg rawAngle (clampInt_eq (by decide) _)
    rw [convOrigin_firing hreal hs, convRegulate]
    dsimp only
    rw [hi, hu, show clampNat z.alphaMin z.alphaMax raw = al from hal.symm, convSchedule_eq (c := { c with
      lastOrigin := some g, integ := _ }) hm hc hf]
    simp only [integHeld_iff]
  · rw [convOrigin_late hreal hs, ← hal, convSchedule_eq (c := { c with lastOrigin := some g }) hm hc hf]

/-! ### Firings and bursts -/

/-- The controller that issues its first pending firing `f`, before it is counted (R54 to R56). -/
def issued (z : SetTable) (f : Firing) (c : Conv) : Conv :=
  { c with firings := c.firings.tail, burst := some (startBurst z f.thy f.stamp), gates := gatePair f.thy,
           retardCount := if c.state = .retard then min (c.retardCount + 1) 60 else c.retardCount }

theorem convIssue_counted {z : SetTable} {f : Firing} {c : Conv} (h : c.since + 1 < 64) :
    convIssue z f c = { issued z f c with since := c.since + 1 } := if_neg (Nat.not_le.mpr h)

theorem convIssue_decays {z : SetTable} {f : Firing} {c : Conv} (h : 64 ≤ c.since + 1) : convIssue z f c =
    { issued z f c with since := 0, esc := c.esc - 1, transCond := c.transCond && decide (1 < c.esc) } := if_pos h

theorem gatePair_eq (y : Thy) : gatePair y = match y with
    | .t1 => 0b100001#6
    | .t2 => 0b000011#6
    | .t3 => 0b000110#6
    | .t4 => 0b001100#6
    | .t5 => 0b011000#6
    | .t6 => 0b110000#6 := by cases y <;> rfl

/-- What a controller's conditions give, where CONV_x_FAULT stays and CONV_x_TRANSIENT does not come to hold. -/
theorem convMsgs_decay {x : Side} {c d : Conv} (hf : d.faultCond = c.faultCond) (b : Bool)
    (ht : d.transCond = (c.transCond && b)) :
    convMsgs x c d = if c.transCond && !b then [.cond (.convTransient x) false] else [] := by
  rw [convMsgs, hf, ht]
  cases c.transCond <;> cases b <;> cases c.faultCond <;> rfl

theorem exec_firingIssue {x : Side} {s : State} {f : Firing} {fs : List Firing} (h : (s.conv x).firings = f :: fs) :
    exec (.firingIssue x) s = .next (issueFiring x f s) := by
  change Host.Outcome.next (match (s.conv x).firings with | [] => s | f :: _ => issueFiring x f s) = _
  rw [h]

theorem exec_escalationDecay {x : Side} {s : State} {f : Firing} {fs : List Firing} (h : (s.conv x).firings = f :: fs)
    (hs : 64 ≤ (s.conv x).since + 1) : exec (.escalationDecay x) s = .next (issueFiring x f s) := by
  change Host.Outcome.next (match (s.conv x).firings with
    | [] => s
    | f :: _ => if 64 ≤ (s.conv x).since + 1 then issueFiring x f s else s) = _
  rw [h]
  exact congrArg Host.Outcome.next (if_pos hs)

theorem exec_burstPhaseEnd {x : Side} {s : State} {b : Burst} (h : (s.conv x).burst = some b) :
    exec (.burstPhaseEnd x) s = .next ({ s with now := b.phaseEnd }.putConv x (convPhaseEnd b (s.conv x))) := by
  change Host.Outcome.next (match (s.conv x).burst with
    | none => s
    | some b => { s with now := b.phaseEnd }.putConv x (convPhaseEnd b (s.conv x))) = _
  rw [h]

theorem putConv_conv (s : State) (x : Side) (c : Conv) (y : Side) :
    (s.putConv x c).conv y = if y = x then c else s.conv y := by cases x <;> cases y <;> rfl

/-- Settles O21, by the equations of `convIssue` and `convPhaseEnd`. -/
theorem firingAndItsBurst : Obligations.FiringAndItsBurst := by
  refine ⟨fun x s f fs c hf hc => ⟨fun hs => ?counted, fun hs => ?decays⟩, fun x s b hb => ?burst⟩
  case burst =>
    rw [exec_burstPhaseEnd hb]
    refine ⟨fun hon => ?_, fun hoff hlast => ?_, fun hoff hmore => ?_⟩
    · rw [convPhaseEnd, if_pos hon]
      rfl
    · rw [convPhaseEnd, if_neg (by simp [hoff]), if_pos hlast]
    · rw [convPhaseEnd, if_neg (by simp [hoff]), if_neg (Nat.not_le.mpr hmore)]
      rfl
  all_goals
    have hissued : c = issued s.set f (s.conv x) := by
      rw [hc, issued, hf, gatePair_eq]
      rfl
  case counted =>
    have hmsgs : convMsgs x (s.conv x) (convIssue s.set f (s.conv x)) = [] := by
      rw [convMsgs_decay (b := true) (by rw [convIssue_counted hs]; rfl) (by rw [convIssue_counted hs, Bool.and_true]; rfl),
        Bool.not_true, Bool.and_false]
      rfl
    rw [exec_firingIssue hf, issueFiring, hmsgs, convIssue_counted hs, hissued]
    rfl
  case decays =>
    have hmsgs : convMsgs x (s.conv x) (convIssue s.set f (s.conv x)) =
        if (s.conv x).transCond && !decide (1 < (s.conv x).esc) then [.cond (.convTransient x) false] else [] :=
      convMsgs_decay (by rw [convIssue_decays hs]; rfl) _ (by rw [convIssue_decays hs])
    rw [exec_firingIssue hf, exec_escalationDecay hf hs]
    refine ⟨rfl, _, rfl, ?_⟩
    rw [issueFiring, hmsgs, convIssue_decays hs, ← hissued]
    split
    · refine ⟨by cases x <;> rfl, by cases x <;> rfl, fun _ _ => ?_, by cases x <;> rfl, by cases x <;> rfl⟩
      constructor <;> simp [raiseAll, takeMild, takeCond, pruCond]
    · rename_i hn
      refine ⟨by cases x <;> rfl, by cases x <;> rfl, fun ht he => absurd ?_ hn, by cases x <;> rfl, by cases x <;> rfl⟩
      simpa [ht] using he

/-! ### An origin and its receivers -/

/-- The receiver of converter `x`. -/
def takerOf : Side → OriginTaker
  | .a => .cca
  | .b => .ccb

/-- The receivers of `l` have taken the origin `g`, and nothing waits. -/
structure OriginTook (g : Origin) (s : State) (l : List Taking) (f : Flow) : Prop where
  mail : f.mail = []
  rest : f.state = { s with meu := f.state.meu, cca := f.state.cca, ccb := f.state.ccb, pru := f.state.pru }
  meu : f.state.meu = if .origin .meu ∈ l then (meuOrigin s.set g s.meu).1 else s.meu
  taken : ∀ x, .origin (takerOf x) ∈ l → ∃ avg,
    (avg = (s.meu.sides.get x).average ∨ avg = ((meuOrigin s.set g s.meu).1.sides.get x).average) ∧
    f.state.conv x = convOrigin s.set (s.stu.motors.get x).iref avg g (s.conv x)
  left : ∀ x, .origin (takerOf x) ∉ l → f.state.conv x = s.conv x

/-- Conditions that are only cleared give no report. -/
theorem condMsgs_clears {k : Cause} {n : Period} {old new : Bool} (h : new = true → old = true) :
    ∀ m ∈ condMsgs k n old new, m = .cond k false := by
  cases old <;> cases new
  · exact fun m hm => absurd hm List.not_mem_nil
  · exact absurd (h rfl) Bool.false_ne_true
  · exact fun m hm => List.mem_singleton.mp hm
  · exact fun m hm => absurd hm List.not_mem_nil

/-- Messages that only clear conditions. -/
def clears (ms : List Msg) : Prop := ∀ m ∈ ms, ∃ k, m = .cond k false

theorem clears_append {ms ns : List Msg} (h : clears ms) (k : clears ns) : clears (ms ++ ns) := fun m hm =>
  (List.mem_append.mp hm).elim (h m) (k m)

theorem clears_condMsgs {k : Cause} {n : Period} {old new : Bool} (h : new = true → old = true) :
    clears (condMsgs k n old new) := fun m hm => ⟨k, condMsgs_clears h m hm⟩

theorem clears.noReports {ms : List Msg} (h : clears ms) : noReports ms := fun m hm => by
  obtain ⟨k, rfl⟩ := h m hm
  rfl

theorem orderMsgs_of_noReports (o : Sched) {ms : List Msg} (h : noReports ms) : orderMsgs o ms = ms := by
  have hr : reportMsgs o ms = [] := List.eq_nil_iff_forall_not_mem.mpr fun m hm => by
    obtain ⟨hm, k, n, rfl⟩ := mem_reportMsgs.mp hm
    exact absurd (h _ hm) (by simp [reportKind])
  have hc : calmMsgs ms = ms := List.filter_eq_self.mpr fun m hm => by simp [h m hm]
  rw [orderMsgs_eq, hr, hc, List.append_nil]

/-- What only clears conditions changes the protection unit alone. -/
theorem raiseAll_clears {ms : List Msg} (h : clears ms) (s : State) :
    raiseAll ms s = { s with pru := (raiseAll ms s).pru } := by
  induction ms generalizing s with
  | nil => rfl
  | cons m ms ih =>
    obtain ⟨k, rfl⟩ := h m List.mem_cons_self
    exact (ih (fun j hj => h j (List.mem_cons_of_mem _ hj)) (takeCond k false s)).trans rfl

theorem Flow.post_clears (o : Sched) (later : List Taking) {r : State × List Msg} (h : clears r.2) (f : Flow) :
    Flow.post o later r f = { f with state := { r.1 with pru := (Flow.post o later r f).state.pru } } := by
  have hr : reportMsgs o r.2 = [] := List.eq_nil_iff_forall_not_mem.mpr fun m hm => by
    obtain ⟨hm, k, n, rfl⟩ := mem_reportMsgs.mp hm
    exact absurd (h.noReports _ hm) (by simp [reportKind])
  have hc : calmMsgs r.2 = r.2 := List.filter_eq_self.mpr fun m hm => by simp [h.noReports m hm]
  rw [Flow.post_eq, hr, List.foldl_nil, calmed, hc]
  have he := raiseAll_clears h r.1
  generalize raiseAll r.2 r.1 = u at he ⊢
  rw [he]

theorem sideClose_conds (z : SetTable) (x : Side) (n cur volt : Nat) (d : MeuSide) :
    (sideClose z x n cur volt d).sensorCond = d.sensorCond ∧
    ((sideClose z x n cur volt d).overCond = true → d.overCond = true) ∧
    ((sideClose z x n cur volt d).voltCond = true → d.voltCond = true) := by
  unfold sideClose
  split
  · exact ⟨rfl, id, id⟩
  · exact ⟨rfl, fun h => (Bool.and_eq_true_iff.mp h).1, fun h => (Bool.and_eq_true_iff.mp h).1⟩

theorem sideMsgs_clears {x : Side} {n : Period} {old new : MeuSide} (hs : new.sensorCond = old.sensorCond)
    (ho : new.overCond = true → old.overCond = true) (hv : new.voltCond = true → old.voltCond = true) :
    clears (sideMsgs x n old new) :=
  clears_append (clears_append (clears_condMsgs (by rw [hs]; exact id)) (clears_condMsgs ho)) (clears_condMsgs hv)

/-- The close of an interval reports nothing (R26, R29, R30). -/
theorem meuOrigin_clears (z : SetTable) (g : Origin) (m : Meu) : clears (meuOrigin z g m).2 := by
  have hside : ∀ (x : Side) (n cur volt : Nat) (p : Period) (d : MeuSide),
      clears (sideMsgs x p d (sideClose z x n cur volt d)) := fun x n cur volt p d => by
    obtain ⟨hs, ho, hv⟩ := sideClose_conds z x n cur volt d
    exact sideMsgs_clears hs ho hv
  unfold meuOrigin closeSides
  split
  · exact clears_append (sideMsgs_clears rfl id id) (sideMsgs_clears rfl id id)
  · rename_i q hq
    exact clears_append (hside .a q.count q.curA q.voltA _ _) (hside .b q.count q.curB q.voltB _ _)

theorem convSchedule_conds (al : Nat) (g : Origin) (c : Conv) :
    (convSchedule al g c).faultCond = c.faultCond ∧ (convSchedule al g c).transCond = c.transCond ∧
    (convSchedule al g c).lastOrigin = c.lastOrigin ∧ (convSchedule al g c).state = c.state := ⟨rfl, rfl, rfl, rfl⟩

/-- An origin becomes the last origin, and may clear CONV_x_FAULT (R39, R63). -/
theorem convOrigin_conds (z : SetTable) (iref imeas : Nat) (g : Origin) (c : Conv) :
    (convOrigin z iref imeas g c).lastOrigin = some g ∧ (convOrigin z iref imeas g c).transCond = c.transCond ∧
    ((convOrigin z iref imeas g c).faultCond = true → c.faultCond = true) := by
  unfold convOrigin convRealOrigin
  split
  · split
    · exact ⟨rfl, rfl, id⟩
    · exact ⟨rfl, rfl, id⟩
    · split
      · exact ⟨rfl, rfl, fun h => (Bool.and_eq_true_iff.mp h).1⟩
      · exact ⟨rfl, rfl, id⟩
    · exact ⟨rfl, rfl, id⟩
  · exact ⟨rfl, rfl, id⟩

theorem takeOrigin_clears (g : Origin) (r : OriginTaker) (s : State) : clears (takeOrigin g r s).2 := by
  have hconv : ∀ x, clears (convTakeOrigin x g s).2 := fun x => by
    obtain ⟨-, ht, hf⟩ := convOrigin_conds s.set (s.stu.motors.get x).iref (s.meu.sides.get x).average g (s.conv x)
    exact clears_append (clears_condMsgs (by rw [ht]; exact id)) (clears_condMsgs hf)
  cases r with
  | meu => exact meuOrigin_clears s.set g s.meu
  | cca => exact hconv .a
  | ccb => exact hconv .b

theorem Flow.collect_empty (o : Sched) (later : List Taking) (due : Mail → Bool) {f : Flow} (h : f.mail = []) :
    Flow.collect o later due f = f := by
  obtain ⟨s, m⟩ := f
  subst h
  rfl

/-- A receiver that has not taken the origin takes it. -/
theorem OriginTook.next {g : Origin} {s : State} {l : List Taking} {f : Flow} (h : OriginTook g s l f) {r : OriginTaker}
    (hr : .origin r ∉ l) (o : Sched) (later : List Taking) :
    OriginTook g s (l ++ [.origin r]) (Flow.post o later (takeOrigin g r f.state) f) := by
  rw [Flow.post_clears o later (takeOrigin_clears g r f.state)]
  generalize (Flow.post o later (takeOrigin g r f.state) f).state.pru = p
  obtain ⟨hmail, hrest, hmeu, htaken, hleft⟩ := h
  have hset : f.state.set = s.set := (congrArg State.set hrest :)
  have hstu : f.state.stu = s.stu := (congrArg State.stu hrest :)
  have hmem : ∀ k, .origin k ∈ l ++ [.origin r] ↔ .origin k ∈ l ∨ k = r := fun k => by simp
  have hcase : r = .meu ∨ ∃ x, r = takerOf x := by
    cases r with
    | meu => exact .inl rfl
    | cca => exact .inr ⟨.a, rfl⟩
    | ccb => exact .inr ⟨.b, rfl⟩
  rcases hcase with rfl | ⟨x, rfl⟩
  · rw [if_neg hr] at hmeu
    have hx : ∀ x, .origin (takerOf x) ∈ l ++ [.origin .meu] ↔ .origin (takerOf x) ∈ l := fun x => by
      cases x <;> simp [takerOf]
    refine ⟨hmail, ?_, ?_, fun x h => ?_, fun x h => ?_⟩
    · generalize f.state = u at hrest
      rw [hrest]
      rfl
    · rw [if_pos ((hmem _).mpr (.inr rfl)), ← hset, ← hmeu]
      rfl
    · obtain ⟨avg, ha, hc⟩ := htaken x ((hx x).mp h)
      exact ⟨avg, ha, by rw [← hc]; cases x <;> rfl⟩
    · rw [← hleft x (mt (hx x).mpr h)]
      cases x <;> rfl
  · have hstate : ∀ y, ({ (takeOrigin g (takerOf x) f.state).1 with pru := p } : State).conv y =
        if y = x then convOrigin s.set (s.stu.motors.get x).iref (f.state.meu.sides.get x).average g (s.conv x)
        else f.state.conv y := fun y => by
      rw [← hleft x hr, ← hset, ← hstu]
      cases x <;> cases y <;> rfl
    refine ⟨hmail, ?_, ?_, fun y h => ?_, fun y h => ?_⟩
    · generalize f.state = u at hrest
      rw [hrest]
      cases x <;> rfl
    · have hm : .origin .meu ∈ l ++ [.origin (takerOf x)] ↔ .origin .meu ∈ l := by cases x <;> simp [takerOf]
      simp only [hm]
      rw [← hmeu]
      cases x <;> rfl
    · by_cases hy : y = x
      · subst hy
        refine ⟨(f.state.meu.sides.get y).average, ?_, (hstate y).trans (if_pos rfl)⟩
        rw [hmeu]
        split
        · exact .inr rfl
        · exact .inl rfl
      · have hl : .origin (takerOf y) ∈ l := by
          refine ((hmem _).mp h).resolve_right fun he => hy ?_
          cases x with
          | a => cases y with
            | a => rfl
            | b => cases he
          | b => cases y with
            | a => cases he
            | b => rfl
        obtain ⟨avg, ha, hc⟩ := htaken y hl
        exact ⟨avg, ha, ((hstate y).trans (if_neg hy)).trans hc⟩
    · have hy : y ≠ x := by
        rintro rfl
        exact h ((hmem _).mpr (.inr rfl))
      exact ((hstate y).trans (if_neg hy)).trans (hleft y fun hl => h ((hmem _).mpr (.inl hl)))

/-- The takings of an origin one after the other (R18, R25, R47). -/
theorem runTakings_took {g : Origin} {s : State} {l done : List Taking} {f : Flow} (h : OriginTook g s done f)
    (hl : ∀ k ∈ l, collects k = true ∨ ∃ r, k = .origin r) (hn : (done ++ l).Nodup) (o : Sched) (n : Period) (t : Tick) :
    OriginTook g s (done ++ l) (runTakings o n t (some g) l f) := by
  induction l generalizing done f with
  | nil =>
    rw [List.append_nil]
    change OriginTook g s done (Flow.collect o [] _ f)
    rw [Flow.collect_empty _ _ _ h.mail]
    exact h
  | cons k later ih =>
    have hcons : done ++ k :: later = (done ++ [k]) ++ later := by simp
    rw [hcons] at hn ⊢
    have hnext : OriginTook g s (done ++ [k]) (takeOne o n t (some g) k later f) := by
      rcases hl k List.mem_cons_self with hk | ⟨r, rfl⟩
      · have hsame : takeOne o n t (some g) k later f = f := by
          cases k with
          | period b => cases hk
          | origin r => cases hk
          | report c => exact Flow.collect_empty _ _ _ h.mail
          | demand => exact Flow.collect_empty _ _ _ h.mail
        have hmem : ∀ r, .origin r ∈ done ++ [k] ↔ .origin r ∈ done := fun r => by
          have hr : Taking.origin r ≠ k := by
            rintro rfl
            cases hk
          simp [hr]
        rw [hsame]
        refine ⟨h.mail, h.rest, ?_, fun x hx => h.taken x ((hmem _).mp hx), fun x hx => h.left x (mt (hmem _).mpr hx)⟩
        simp only [hmem]
        exact h.meu
      · exact h.next (List.disjoint_of_nodup_append (List.nodup_append.mp hn).1 · (by simp)) o later
    exact ih hnext (fun j hj => hl j (List.mem_cons_of_mem _ hj)) hn

theorem nodup_takingsOf {all : List Taking} (h : all.Nodup) (o : Sched) : (takingsOf all o).Nodup := by
  refine List.nodup_append.mpr ⟨(nodup_firsts _).filter _, h.filter _, fun x hx y hy he => ?_⟩
  subst he
  obtain ⟨hx, -⟩ := List.mem_filter.mp hx
  obtain ⟨-, hy⟩ := List.mem_filter.mp hy
  rw [mem_firsts] at hx
  simp [hx] at hy

theorem mem_originTakings_iff {o : Sched} {k : Taking} (h : k ∈ originTakings o) : collects k = true ∨ ∃ r, k = .origin r := by
  have hall : ∀ {k : Taking}, k ∈ allOriginTakers.map Taking.origin → ∃ r, k = .origin r := fun hk => by
    obtain ⟨r, -, rfl⟩ := List.mem_map.mp hk
    exact ⟨r, rfl⟩
  rcases List.mem_append.mp h with h | h
  · obtain ⟨-, h⟩ := List.mem_filter.mp h
    exact (Bool.or_eq_true_iff.mp h).imp id fun h => hall (List.contains_iff_mem.mp h)
  · exact .inr (hall (List.mem_of_mem_filter h))

theorem mem_originTakings (o : Sched) (r : OriginTaker) : .origin r ∈ originTakings o :=
  mem_takingsOf (List.mem_map_of_mem (by cases r <;> decide)) o

/-- An origin, taken by all its receivers. -/
theorem issueOrigin_took (o : Sched) (g : Origin) (s : State) :
    OriginTook g { s with msy := { s.msy with origins := s.msy.origins.tail } } (originTakings o)
      { state := issueOrigin o g s, mail := [] } := by
  have h := runTakings_took (g := g) (s := { s with msy := { s.msy with origins := s.msy.origins.tail } }) (done := [])
    (f := { state := { s with msy := { s.msy with origins := s.msy.origins.tail } }, mail := [] })
    ⟨rfl, rfl, rfl, fun _ hx => absurd hx List.not_mem_nil, fun _ _ => rfl⟩ (fun k hk => mem_originTakings_iff hk)
    (nodup_takingsOf (by decide) o) o s.msy.period s.now
  exact ⟨rfl, h.rest, h.meu, h.taken, h.left⟩

theorem closeSides_of_count (z : SetTable) {m : Meu} {q : Interval} (hq : m.interval = some q) (hc : 0 < q.count) :
    (closeSides z m).a.average = q.curA / q.count ∧ (closeSides z m).b.average = q.curB / q.count ∧
    (closeSides z m).a.accSum = m.sides.a.accSum + q.curA / q.count ∧
    (closeSides z m).a.accCount = m.sides.a.accCount + 1 := by
  simp only [closeSides, hq, sideClose, if_neg (Nat.ne_of_gt hc), and_self]

theorem convRegulate_scheduled (z : SetTable) (iref imeas : Nat) (g : Origin) (c : Conv) : ∃ al i,
    convRegulate z iref imeas g c = convSchedule al g { c with integ := i } ∧
    (z.alphaMin ≤ z.alphaMax → z.alphaMin ≤ al ∧ al ≤ z.alphaMax) ∧
    (-4194304 ≤ c.integ → c.integ ≤ 4194304 → -4194304 ≤ i ∧ i ≤ 4194304) := by
  refine ⟨_, _, rfl, fun h => ⟨clampNat_ge h _, clampNat_le h _⟩, fun hlo hhi => ?_⟩
  split
  · exact ⟨hlo, hhi⟩
  · exact ⟨clampInt_ge (by decide) _, clampInt_le (by decide) _⟩

/-- A scheduled firing is the last pending one, and all others lie before it (R53). -/
theorem convSchedule_firings (al : Nat) (g : Origin) (c : Conv) : ∃ f,
    (convSchedule al g c).firings.getLast? = some f ∧ f.thy = g.thy ∧ f.period = g.period ∧ f.originStamp = g.stamp ∧
    f.angle = al ∧ ∀ k ∈ (convSchedule al g c).firings.dropLast, before k.stamp f.stamp = true := by
  refine ⟨_, List.getLast?_concat, rfl, rfl, rfl, rfl, fun k hk => ?_⟩
  change k ∈ (_ ++ [_]).dropLast at hk
  rw [List.dropLast_concat] at hk
  exact (List.mem_filter.mp hk).2

/-- Settles O19: each receiver takes the origin once, in any order, and the controllers by `convOrigin`. -/
theorem originIsTakenByItsReceivers : Obligations.OriginIsTakenByItsReceivers := by
  refine ⟨fun o s g gs hgs => ?receivers, fun z iref imeas g c hreal hle => ?controller⟩
  case receivers =>
    have hexec : exec (.origin o) s = .next (issueOrigin o g { s with now := g.stamp }) := by
      change Host.Outcome.next (match s.msy.origins with | [] => s | g :: _ => issueOrigin o g { s with now := g.stamp }) = _
      rw [hgs]
    obtain ⟨-, hrest, hmeu, htaken, -⟩ := issueOrigin_took o g { s with now := g.stamp }
    rw [if_pos (mem_originTakings o .meu)] at hmeu
    generalize issueOrigin o g { s with now := g.stamp } = u at hexec hrest hmeu htaken
    replace hmeu : u.meu = (meuOrigin s.set g s.meu).1 := hmeu
    have hconv : ∀ x, ∃ avg, (avg = (s.meu.sides.get x).average ∨ avg = (u.meu.sides.get x).average) ∧
        u.conv x = convOrigin s.set (s.stu.motors.get x).iref avg g (s.conv x) := fun x => by
      rw [hmeu]
      obtain ⟨avg, ha, hc⟩ := htaken x (mem_originTakings o _)
      exact ⟨avg, ha, hc.trans (by cases x <;> rfl)⟩
    refine ⟨u, hexec, (congrArg State.now hrest :), ?_, by rw [hmeu]; rfl, fun q hq hc => ?_, fun x => ?_, fun hsub x => ?_,
      (congrArg State.stu hrest :), (congrArg State.dsq hrest :), (congrArg State.vwa hrest :), (congrArg State.rcu hrest :),
      (congrArg State.set hrest :), (congrArg State.links hrest :)⟩
    · refine ((congrArg State.msy hrest :)).trans ?_
      change { s.msy with origins := s.msy.origins.tail } = _
      rw [hgs]
      rfl
    · rw [hmeu]
      exact closeSides_of_count s.set hq hc
    · obtain ⟨avg, ha, hc⟩ := hconv x
      exact ⟨by rw [hc]; exact (convOrigin_conds ..).1, avg, ha, hc⟩
    · obtain ⟨avg, -, hc⟩ := hconv x
      rw [hc, convOrigin_substitute hsub]
  case controller =>
    refine ⟨fun hs hlo hhi => ?_, fun hs => convOrigin_off hreal hs .., fun hs hd => convOrigin_stops hreal hs hd .., fun hs => ?_⟩
    · obtain ⟨al, i, he, ha, hi⟩ := convRegulate_scheduled z iref imeas g { c with lastOrigin := some g }
      obtain ⟨f, hlast, hthy, hperiod, hstamp, hangle, hbefore⟩ :=
        convSchedule_firings al g { c with lastOrigin := some g, integ := i }
      rw [convOrigin_firing hreal hs, he]
      exact ⟨f, hlast, hthy, hperiod, hstamp, hangle, hangle ▸ (ha hle).1, hangle ▸ (ha hle).2, hs, hbefore, hi hlo hhi⟩
    · obtain ⟨f, hlast, -, -, -, hangle, -⟩ := convSchedule_firings z.alphaMax g { c with lastOrigin := some g }
      rw [convOrigin_late hreal hs, hlast, Option.map_some, hangle]
      exact ⟨rfl, rfl, rfl, rfl⟩

end Sys2Proof.Machine
end

section
/-! Fault arrivals and the clearing of a fault line (R45, R57 to R63, R90): the one report of class F among a block's
messages, the demand that it sends, and the answers of the controller. -/

namespace Sys2Proof.Machine

/-! ### The reports among a block's messages -/

/-- A report of one of the kinds `ks`. -/
def reportsOne (ks : List Cause) (m : Msg) : Bool := (reportKind m).any (fun k => decide (k ∈ ks))

/-- The reports of the kinds of `ks`, kind by kind, are those of the messages. -/
theorem flatMap_reports_perm {ks : List Cause} (h : ks.Nodup) (ms : List Msg) :
    (ks.flatMap (fun k => ms.filter (fun m => decide (reportKind m = some k)))).Perm (ms.filter (reportsOne ks)) := by
  induction ks with
  | nil =>
    have hf : ms.filter (reportsOne []) = [] :=
      List.filter_eq_nil_iff.mpr fun m _ => by cases hm : reportKind m <;> simp [reportsOne, hm]
    rw [hf]
    exact .refl _
  | cons a ks ih =>
    obtain ⟨ha, hks⟩ := List.nodup_cons.mp h
    have h1 : ms.filter (fun m => decide (reportKind m = some a)) =
        (ms.filter (reportsOne (a :: ks))).filter (fun m => decide (reportKind m = some a)) := by
      rw [List.filter_filter]
      refine List.filter_congr fun m _ => ?_
      cases hm : reportKind m with
      | none => simp
      | some k => by_cases hk : k = a <;> simp [reportsOne, hm, hk]
    have h2 : ms.filter (reportsOne ks) =
        (ms.filter (reportsOne (a :: ks))).filter (fun m => !decide (reportKind m = some a)) := by
      rw [List.filter_filter]
      refine List.filter_congr fun m _ => ?_
      cases hm : reportKind m with
      | none => simp [reportsOne, hm]
      | some k =>
        by_cases hk : k = a
        · subst hk
          simp [reportsOne, hm, ha]
        · simp [reportsOne, hm, hk]
    rw [List.flatMap_cons, h1]
    exact ((ih hks).append_left _).trans (h2 ▸ List.filter_append_perm ..)

/-- The reports in the order given are the reports of the messages. -/
theorem reportMsgs_perm (o : Sched) (ms : List Msg) :
    (reportMsgs o ms).Perm (ms.filter (fun m => (reportKind m).isSome)) := by
  have hsplit := List.filter_append_perm (reportsOne o.reports) (ms.filter (fun m => (reportKind m).isSome))
  refine .trans (.append ((flatMap_reports_perm (nodup_firsts o.reports) ms).trans (.of_eq ?_)) (.of_eq ?_)) hsplit
  · rw [List.filter_filter]
    refine List.filter_congr fun m _ => ?_
    cases hm : reportKind m <;> simp [reportsOne, hm, mem_firsts]
  · rw [List.filter_filter]
    refine List.filter_congr fun m _ => ?_
    cases hm : reportKind m <;> simp [reportsOne, hm]

theorem deliver_reports (o : Sched) (ms : List Msg) (s : State) :
    deliver o ms s = (reportMsgs o ms).foldl (takeMsg o) (calmed ms s) := by
  have hcalm : ∀ {ms : List Msg} (s : State), noReports ms → ms.foldl (takeMsg o) s = raiseAll ms s := by
    intro ms
    induction ms with
    | nil => exact fun _ _ => rfl
    | cons m ms ih =>
      intro s h
      obtain ⟨hm, hms⟩ := noReports_cons h
      have hone : takeMsg o s m = takeMild s m := by
        cases m with
        | report k n => cases hm
        | cond k b | notice k st | capture x c => rfl
      rw [List.foldl_cons, hone]
      exact ih _ hms
  rw [deliver, orderMsgs_eq, List.foldl_append, hcalm _ (calmMsgs_noReports ms)]
  rfl

/-- The reports of a list other than that of `k` are of class W, whatever the settings. -/
def othersWarn (k : Cause) (ms : List Msg) : Prop := ∀ j n, .report j n ∈ ms → j ≠ k → ∀ z : SetTable, z.classInForce j = .w

theorem takeReports_warn (o : Sched) {ms : List Msg} (h : ∀ m ∈ ms, ∃ j n, m = .report j n ∧ ∀ z : SetTable, z.classInForce j = .w)
    (s : State) : SameDrive s (ms.foldl (takeMsg o) s) := by
  induction ms generalizing s with
  | nil => exact .refl s
  | cons m ms ih =>
    obtain ⟨j, n, rfl, hj⟩ := h m List.mem_cons_self
    have hone : SameDrive s (takeMsg o s (.report j n)) := by
      change SameDrive s (takeReport o j n s)
      rw [takeReport_warning o n (hj _)]
      exact takeWarning_same ..
    exact hone.trans (ih (fun m hm => h m (List.mem_cons_of_mem _ hm)) _)

/-- With one report that is not of class W, the messages are taken with it and warnings before and after. -/
theorem deliver_one (o : Sched) {ms : List Msg} {k : Cause} {n : Period}
    (hk : ms.filter (fun m => decide (reportKind m = some k)) = [.report k n]) (hw : othersWarn k ms) (s : State) :
    ∃ g, SameDrive (calmed ms s) g ∧ SameDrive (takeReport o k n g) (deliver o ms s) := by
  have hrep : (reportMsgs o ms).filter (fun m => decide (reportKind m = some k)) = [.report k n] := by
    refine List.perm_singleton.mp (((reportMsgs_perm o ms).filter _).trans (.of_eq ?_))
    rw [List.filter_filter, ← hk]
    refine List.filter_congr fun m _ => ?_
    cases reportKind m <;> simp
  have hmem : .report k n ∈ reportMsgs o ms := List.mem_of_mem_filter (hrep ▸ List.mem_singleton_self _)
  obtain ⟨as, bs, he⟩ := List.append_of_mem hmem
  have hnot : ∀ m ∈ as ++ bs, reportKind m ≠ some k := by
    intro m hm hmk
    rw [he, List.filter_append, List.filter_cons_of_pos (by simp [reportKind])] at hrep
    have hlen := congrArg List.length hrep
    rw [List.length_append, List.length_cons] at hlen
    have hz : (as.filter (fun m => decide (reportKind m = some k))).length = 0 ∧
        (bs.filter (fun m => decide (reportKind m = some k))).length = 0 := by
      simp only [List.length_singleton] at hlen
      omega
    rcases List.mem_append.mp hm with hm | hm
    · exact List.filter_eq_nil_iff.mp (List.length_eq_zero_iff.mp hz.1) m hm (by simp [hmk])
    · exact List.filter_eq_nil_iff.mp (List.length_eq_zero_iff.mp hz.2) m hm (by simp [hmk])
  have hwarn : ∀ m ∈ as ++ bs, ∃ j n, m = .report j n ∧ ∀ z : SetTable, z.classInForce j = .w := by
    intro m hm
    have hin : m ∈ reportMsgs o ms := by
      rw [he]
      rcases List.mem_append.mp hm with hm | hm <;> simp [hm]
    obtain ⟨hin, j, i, rfl⟩ := mem_reportMsgs.mp hin
    exact ⟨j, i, rfl, hw j i hin fun hj => hnot _ hm (by rw [hj]; rfl)⟩
  refine ⟨as.foldl (takeMsg o) (calmed ms s), takeReports_warn o (fun m hm => hwarn m (by simp [hm])) _, ?_⟩
  rw [deliver_reports, he, List.foldl_append, List.foldl_cons]
  exact takeReports_warn o (fun m hm => hwarn m (by simp [hm])) (takeReport o k n _)

/-! ### A report's demand and the converters -/

theorem latchReport_same (k : Cause) (n : Period) (c : Class) (s : State) : SameDrive s (latchReport k n c s).1 := by
  have hrise : ∀ (b : Bool) (v : State), SameDrive v (classRise c b v).1 := fun b v => by
    unfold classRise
    split
    · exact raiseTo_same ..
    · exact .refl v
  unfold latchReport
  split
  · exact .refl s
  · exact SameDrive.trans (t := { s with pru := pruLatch k c s.pru }) ⟨⟨rfl, rfl, rfl, rfl, rfl, rfl⟩, rfl, rfl, rfl, rfl, rfl, rfl⟩
      (hrise _ _)
  · exact SameDrive.trans (t := { s with pru := pruLatch k c s.pru, rcu := rcuSub k n s.rcu })
      ⟨⟨rfl, rfl, rfl, rfl, rfl, rfl⟩, rfl, rfl, rfl, rfl, rfl, rfl⟩ (hrise _ _)

theorem openEpisode_same (k : Cause) (c : Class) (s : State) : SameDrive s (openEpisode k c s) := by
  rw [openEpisode_eq]
  exact ⟨⟨rfl, rfl, rfl, rfl, rfl, rfl⟩, rfl, rfl, rfl, rfl, rfl, rfl⟩

theorem classRise_class (c : Class) (b : Bool) (s : State) : (classRise c b s).2 = none ∨ (classRise c b s).2 = some c := by
  unfold classRise
  split
  · exact .inr rfl
  · exact .inl rfl

/-- A report taken leaves the drive and the units to the demand that it sends, which is of its class. -/
theorem takeCause_same (k : Cause) (n : Period) (c : Class) (s : State) : SameDrive s (takeCause k n c s).1 ∧
    ((takeCause k n c s).2 = none ∨ (takeCause k n c s).2 = some c) := by
  unfold takeCause
  split
  · refine ⟨latchReport_same .., ?_⟩
    unfold latchReport
    split
    · exact .inl rfl
    · exact classRise_class ..
    · exact classRise_class ..
  · exact ⟨openEpisode_same .., .inr rfl⟩

theorem takeReport_moves (o : Sched) {k : Cause} (n : Period) {s : State} {c : Class} (h : s.set.classInForce k = c)
    (hc : c ≠ .w) : ∃ v, SameDrive s v ∧ (takeReport o k n s = v ∨ takeReport o k n s = moveDrive o (dsqDemand c v.dsq) v) := by
  obtain ⟨hs, hd⟩ := takeCause_same k n c s
  rw [takeReport, judge_cause n h hc]
  refine ⟨_, hs, ?_⟩
  rcases hd with hd | hd <;> rw [hd]
  · exact .inl rfl
  · exact .inr rfl

/-- Angle limits are staged. -/
def stagedAngles (z : SetTable) : Bool := z.staged[20]?.join.isSome || z.staged[21]?.join.isSome

theorem mem_appliedIds_iff {choose : ApplyClass → Bool} {z : SetTable} (hz : FullTable z) {id : Nat} {r : SetSpec}
    (hr : catalogue[id - 1]? = some r) (h1 : 1 ≤ id) :
    id ∈ appliedIds choose z ↔ choose r.cls = true ∧ z.staged[id - 1]?.join.isSome = true := by
  have hlt : id - 1 < 87 := by
    have hlen := (List.getElem?_eq_some_iff.mp hr).1
    exact hlen
  obtain ⟨v, hv⟩ : ∃ v, z.active[id - 1]? = some v := ⟨_, List.getElem?_eq_getElem (hz.active ▸ hlt)⟩
  obtain ⟨w, hw⟩ : ∃ w, z.staged[id - 1]? = some w := ⟨_, List.getElem?_eq_getElem (hz.staged ▸ hlt)⟩
  have hrow := (setRows_getElem? z (id - 1) r v w).mpr ⟨hr, hv, hw⟩
  rw [hw]
  simp only [appliedIds, List.mem_filterMap]
  constructor
  · rintro ⟨⟨⟨r', v', w'⟩, i⟩, hm, hi⟩
    dsimp only at hi
    split at hi
    · rename_i hcond
      cases hi
      obtain ⟨-, hx⟩ := List.mk_mem_zipIdx_iff_le_and_getElem?_sub.mp hm
      rw [hrow] at hx
      cases hx
      exact Bool.and_eq_true_iff.mp hcond
    · cases hi
  · rintro ⟨hc, hsome⟩
    have hsome : w.isSome = true := hsome
    refine ⟨⟨⟨r, v, w⟩, id⟩, List.mk_mem_zipIdx_iff_le_and_getElem?_sub.mpr ⟨h1, hrow⟩, ?_⟩
    simp [hc, hsome]

theorem anglesApply_entry {z : SetTable} (hz : FullTable z) (d : Drive) :
    anglesApply (entryIds d z) = (stoppedState d && stagedAngles z) := by
  have hin : ∀ id r, catalogue[id - 1]? = some r → 1 ≤ id → atEntry r.cls = true →
      (appliedIds atEntry z).contains id = z.staged[id - 1]?.join.isSome := by
    intro id r hr h1 hc
    have h := mem_appliedIds_iff (choose := atEntry) hz hr h1
    rw [Bool.eq_iff_iff, List.contains_iff_mem, h]
    simp [hc]
  unfold entryIds
  split
  · rename_i hd
    rw [anglesApply, hin 21 _ rfl (by decide) (by decide), hin 22 _ rfl (by decide) (by decide), hd]
    rfl
  · rename_i hd
    rw [Bool.not_eq_true] at hd
    rw [hd]
    rfl

theorem dsqDemand_f_enable {d : Dsq} (h : (dsqDemand .f d).drive ≠ d.drive) : (dsqDemand .f d).enable = false := by
  cases hd : d.drive <;> simp_all [dsqDemand, dsqTripped, dsqEnter, enableOf]

/-- An idle controller at a demand of class F: staged angle limits that apply with it withdraw its firings outside them
(R65, R185). -/
theorem demand_f_conv (o : Sched) {s : State} (hz : FullTable s.set) (x : Side)
    (hi : (s.conv x).state = .retard ∨ (s.conv x).state = .off) :
    (moveDrive o (dsqDemand .f s.dsq) s).conv x =
      { s.conv x with firings :=
        (if stoppedState (moveDrive o (dsqDemand .f s.dsq) s).dsq.drive = true ∧
            (moveDrive o (dsqDemand .f s.dsq) s).dsq.drive ≠ s.dsq.drive ∧ stagedAngles s.set = true
         then (s.conv x).firings.filter (fun f =>
          decide ((moveDrive o (dsqDemand .f s.dsq) s).set.num 21 ≤ f.angle) &&
          decide (f.angle ≤ (moveDrive o (dsqDemand .f s.dsq) s).set.num 22))
         else (s.conv x).firings) } := by
  by_cases hd : (dsqDemand .f s.dsq).drive = s.dsq.drive
  · rw [moveDrive_stay o hd, if_neg (fun h => h.2.1 hd)]
    cases x <;> rfl
  · have hm := moveDrive_moved o hd
    have htake : convTakeEnable s.dsq.enable (dsqDemand .f s.dsq).enable s.msy.sync (s.conv x) = s.conv x := by
      rw [dsqDemand_f_enable hd]
      unfold convTakeEnable convDisable
      cases s.dsq.enable <;> rcases hi with h | h <;> simp [h]
    rw [hm.conv x, htake, anglesApply_entry hz, hm.dsq, hm.set]
    by_cases hc : stoppedState (dsqDemand .f s.dsq).drive = true ∧ stagedAngles s.set = true
    · rw [if_pos ⟨hc.1, hd, hc.2⟩, hc.1, hc.2]
      rfl
    · rw [if_neg (fun h => hc ⟨h.1, h.2.2⟩)]
      have hb : (stoppedState (dsqDemand .f s.dsq).drive && stagedAngles s.set) = false := by
        rw [← Bool.not_eq_true, Bool.and_eq_true]
        exact hc
      rw [hb]
      rfl

/-! ### The arrival of a fault -/

theorem exec_faultArrival {t : Tick} {o : Sched} {s : State} (h : nextPeriodEvent s.msy ≠ some t ∨ o.takings = []) (x : Side) :
    exec (.faultArrival x t o) s = .next (deliver o (convArrival s.set x t (s.meu.sides.get x).lastSample (s.conv x)).2
      ({ s with now := t }.putConv x (convArrival s.set x t (s.meu.sides.get x).lastSample (s.conv x)).1)) := by
  have hahead : aheadOf o t s.msy = [] := by
    unfold aheadOf
    rcases h with h | h
    · exact if_neg h
    · split
      · rw [aheadTakings, h]
        rfl
      · rfl
  change Host.Outcome.next (runTakings o (s.msy.period + 1#32) t none (aheadOf o t s.msy) (Flow.post o (aheadOf o t s.msy) _ _)).state = _
  rw [hahead, Flow.post_now, runTakings_end]

/-- The controller as a fault arrival finds it: the capture is held, and the firings since arrival count from 0 (R57). -/
def arrived (k : FaultCapture) (c : Conv) : Conv := { c with fault := true, since := 0, capture := some k }

theorem convArrival_active {c : Conv} {g : Origin} (hf : c.fault = false) (hs : c.state = .firing ∨ c.state = .retard)
    (hg : c.lastOrigin = some g) (z : SetTable) (x : Side) (t : Tick) (i : Nat) : convArrival z x t i c =
      (convRespond z x (arrived (captureOf t i g) c),
       .capture x (captureOf t i g) :: convMsgs x c (convRespond z x (arrived (captureOf t i g) c))) := by
  have ha : convArrivalActive z x t i c = (convRespond z x (arrived (captureOf t i g) c),
      .capture x (captureOf t i g) :: convMsgs x c (convRespond z x (arrived (captureOf t i g) c))) := by
    have hcap : arrivalCapture t i c = some (captureOf t i g) := congrArg (Option.map _) hg
    simp only [convArrivalActive, hcap, Option.some_or]
    rfl
  rcases hs with hs | hs <;> simp only [convArrival, hf, hs, ha, Bool.false_eq_true, if_false]

/-- The last origin, which the controller keeps through any response (R59). -/
theorem convRespond_lastOrigin (z : SetTable) (x : Side) (c : Conv) : (convRespond z x c).lastOrigin = c.lastOrigin := by
  have hblock : ∀ d : Conv, (convRetardBlock d).lastOrigin = d.lastOrigin := fun d => by
    unfold convRetardBlock
    split <;> rfl
  unfold convRespond
  split
  · split
    · exact hblock _
    · rfl
  · split
    · exact hblock _
    · split <;> rfl
  · exact hblock _
  · rfl

theorem convMsgs_of_origin {x : Side} {c d : Conv} {g : Origin} (h : d.lastOrigin = some g) : convMsgs x c d =
    condMsgs (.convTransient x) g.period c.transCond d.transCond ++ condMsgs (.convFault x) g.period c.faultCond d.faultCond := by
  rw [convMsgs, h]

/-- The part after a fault arrival, before what the controller reports is taken: the controller and the capture. -/
def faulted (x : Side) (t : Tick) (k : FaultCapture) (d : Conv) (s : State) : State :=
  { { s with now := t }.putConv x d with rcu := rcuTakeCapture x k s.rcu }

theorem faulted_rest (x : Side) (t : Tick) (k : FaultCapture) (d : Conv) (s : State) :
    (faulted x t k d s).now = t ∧ (faulted x t k d s).msy = s.msy ∧ (faulted x t k d s).meu = s.meu ∧
    (faulted x t k d s).pru = s.pru ∧ (faulted x t k d s).links = s.links ∧ (faulted x t k d s).dsq = s.dsq ∧
    (faulted x t k d s).set = s.set ∧ (faulted x t k d s).conv x = d ∧
    (faulted x t k d s).conv (otherSide x) = s.conv (otherSide x) := by
  cases x <;> exact ⟨rfl, rfl, rfl, rfl, rfl, rfl, rfl, rfl, rfl⟩

/-- The capture is the latest of the converter, and joins the FILLING record where its field is absent (R168). -/
theorem rcuTakeCapture_latest (x : Side) (k : FaultCapture) (u : Rcu) : (rcuTakeCapture x k u).latest.get x = some k ∧
    ∀ (i : SlotIx) (r : Record), u.filling = some i → u.slots.get i = some r →
      (rcuTakeCapture x k u).slots.get i = some (match x with
        | .a => { r with capA := some (r.capA.getD k) }
        | .b => { r with capB := some (r.capB.getD k) }) := by
  refine ⟨?_, fun i r hi hr => ?_⟩
  · unfold rcuTakeCapture
    split
    · exact Pair.get_put ..
    · split <;> exact Pair.get_put ..
  · simp only [rcuTakeCapture, hi, hr, Six.get_put]
    cases x <;> cases hc : r.capA <;> cases hb : r.capB <;> simp [fillCapture, hc, hb]

/-- What a response does to the conditions decides what is delivered: the warning of CONV_x_TRANSIENT, and the report of
CONV_x_FAULT. -/
theorem deliver_arrival (o : Sched) (x : Side) (t : Tick) (k : FaultCapture) (d : Conv) (s : State)
    (ms : List Msg) : deliver o (.capture x k :: ms) ({ s with now := t }.putConv x d) = deliver o ms (faulted x t k d s) := by
  have hcalm : calmed (.capture x k :: ms) ({ s with now := t }.putConv x d) = calmed ms (faulted x t k d s) := by
    cases x <;> rfl
  have hrep : reportMsgs o (.capture x k :: ms) = reportMsgs o ms := by
    simp [reportMsgs, reportKind]
  rw [deliver_reports, hcalm, hrep, ← deliver_reports]

/-- A response that leaves CONV_x_FAULT as it is: CONV_x_TRANSIENT warns where it was clear (R62). -/
theorem deliver_transient (o : Sched) (x : Side) (n : Period) (b : Bool) (s : State) :
    deliver o (condMsgs (.convTransient x) n b true) s =
      if b then s else takeWarning (.convTransient x) (takeCond (.convTransient x) true s) := by
  cases b
  · rw [deliver_reports]
    have hrep : reportMsgs o (condMsgs (.convTransient x) n false true) = [.report (.convTransient x) n] :=
      List.perm_singleton.mp (reportMsgs_perm ..)
    rw [hrep]
    exact takeReport_warning o (k := .convTransient x) n (s := calmed (condMsgs (.convTransient x) n false true) s) rfl
  · exact deliver_nil ..

theorem takeWarning_convTransient (x : Side) (s : State) :
    SameDrive s (takeWarning (.convTransient x) (takeCond (.convTransient x) true s)) ∧
    (takeWarning (.convTransient x) (takeCond (.convTransient x) true s)).rcu = s.rcu ∧
    .convTransient x ∈ (takeWarning (.convTransient x) (takeCond (.convTransient x) true s)).pru.view ∧
    .convTransient x ∈ (takeWarning (.convTransient x) (takeCond (.convTransient x) true s)).pru.warnings := by
  have hview : .convTransient x ∈ (takeCond (.convTransient x) true s).pru.view := by simp [takeCond, pruCond]
  refine ⟨SameDrive.trans (takeMild_same s (.cond _ true)) (takeWarning_same ..), ?_, ?_, (takeWarning_warns hview).1⟩
  · unfold takeWarning
    split
    · rfl
    · rw [raiseTo_eq]
      rfl
  · exact ((takeWarning_carried (K := fun _ => True) (.convTransient x) _).pru.view _
      ⟨trivial, .inl (fun y h => by cases h)⟩).mpr hview



/-! ### The latest captures through reports -/

theorem rcuTrigger_latest (z : SetTable) (k : Cause) (c : Class) (d : Drive) (u : Rcu) :
    (rcuTrigger z k c d u).1.latest = u.latest := by
  have ht := truncateManual_rest u
  unfold rcuTrigger
  dsimp only
  generalize (truncateManual u).1 = v at ht ⊢
  have hn := newRecord_rest z (tripBase z k c d v) v
  generalize (newRecord z (tripBase z k c d v) v).1 = w at hn ⊢
  rw [← ht, ← hn]

theorem rcuSub_latest (k : Cause) (n : Period) (u : Rcu) : (rcuSub k n u).latest = u.latest := by
  unfold rcuSub
  split
  · rfl
  · split
    · rfl
    · split <;> rfl

theorem raiseTo_rcu (k : Notice) (sts : List Station) (s : State) : (raiseTo k sts s).rcu = s.rcu := by
  rw [raiseTo_eq]

theorem takeWarning_rcu (k : Cause) (s : State) : (takeWarning k s).rcu = s.rcu := by
  unfold takeWarning
  split
  · rfl
  · exact raiseTo_rcu ..

theorem takeCause_latest (k : Cause) (n : Period) (c : Class) (s : State) :
    (takeCause k n c s).1.rcu.latest = s.rcu.latest := by
  have hrise : ∀ (b : Bool) (v : State), (classRise c b v).1.rcu = v.rcu := fun b v => by
    unfold classRise
    split
    · exact raiseTo_rcu ..
    · rfl
  unfold takeCause latchReport
  split
  · split
    · rfl
    · rw [hrise]
    · rw [hrise]
      exact rcuSub_latest ..
  · rw [openEpisode_eq]
    exact rcuTrigger_latest ..

theorem moveDrive_latest (o : Sched) (d : Dsq) (s : State) : (moveDrive o d s).rcu.latest = s.rcu.latest := by
  by_cases h : d.drive = s.dsq.drive
  · rw [moveDrive_stay o h]
  · rw [(moveDrive_moved o h).rcu]

theorem takeReport_latest (o : Sched) (k : Cause) (n : Period) (s : State) :
    (takeReport o k n s).rcu.latest = s.rcu.latest := by
  have hj : (judge k n s).1.rcu.latest = s.rcu.latest := by
    unfold judge
    split
    · rw [takeWarning_rcu]
    · exact takeCause_latest ..
    · exact takeCause_latest ..
    · exact takeCause_latest ..
  rcases takeReport_eq o k n s with he | ⟨c, he⟩ <;> rw [he]
  · exact hj
  · exact (moveDrive_latest ..).trans hj

/-- Without a capture among the messages the latest captures stay. -/
theorem deliver_latest (o : Sched) {ms : List Msg} (h : ∀ x c, .capture x c ∉ ms) (s : State) :
    (deliver o ms s).rcu.latest = s.rcu.latest := by
  have hfold : ∀ (l : List Msg) (v : State), (∀ m ∈ l, m ∈ ms) → (l.foldl (takeMsg o) v).rcu.latest = v.rcu.latest := by
    intro l
    induction l with
    | nil => exact fun _ _ => rfl
    | cons m l ih =>
      intro v hl
      refine (ih (takeMsg o v m) fun j hj => hl j (List.mem_cons_of_mem _ hj)).trans ?_
      cases m with
      | report k n => exact takeReport_latest ..
      | cond k b => rfl
      | notice k st => exact congrArg Rcu.latest (raiseTo_rcu k [st] v)
      | capture x c => exact absurd (hl _ List.mem_cons_self) (h x c)
  refine hfold _ s fun m hm => ?_
  rw [orderMsgs_eq] at hm
  exact (List.mem_append.mp hm).elim (fun h => (mem_calmMsgs.mp h).1) fun h => (mem_reportMsgs.mp h).1

/-! ### The answers -/

theorem demand_f_hand (o : Sched) {s : State} (x : Side) (hi : (s.conv x).state = .retard ∨ (s.conv x).state = .off) :
    ∃ b z, (moveDrive o (dsqDemand .f s.dsq) s).conv x = convHand b z (s.conv x) := by
  by_cases hd : (dsqDemand .f s.dsq).drive = s.dsq.drive
  · rw [moveDrive_stay o hd]
    exact ⟨false, s.set, by cases x <;> rfl⟩
  · refine ⟨_, _, ((moveDrive_moved o hd).conv x).trans (congrArg _ ?_)⟩
    rw [dsqDemand_f_enable hd]
    unfold convTakeEnable convDisable
    cases s.dsq.enable <;> rcases hi with h | h <;> simp [h]

/-- A fault arrival whose answer reports CONV_x_FAULT: the controller has become `d`. -/
structure FaultReported (x : Side) (t : Tick) (k : FaultCapture) (d : Conv) (s u : State) : Prop where
  now : u.now = t
  msy : u.msy = s.msy
  meu : u.meu = s.meu
  latest : u.rcu.latest.get x = some k
  view : .convFault x ∈ u.pru.view
  latched : latchedActive (.convFault x) u.pru = true
  hand : ∃ b z, u.conv x = convHand b z d
  conv : FullTable s.set → u.conv x = { d with firings :=
    (if stoppedState u.dsq.drive = true ∧ u.dsq.drive ≠ s.dsq.drive ∧ stagedAngles s.set = true
     then d.firings.filter (fun f => decide (u.set.num 21 ≤ f.angle) && decide (f.angle ≤ u.set.num 22))
     else d.firings) }

theorem deliver_fault (o : Sched) (x : Side) (t : Tick) (k : FaultCapture) {d : Conv} (s : State) {b : Bool} (n : Period)
    (hd : d.state = .retard ∨ d.state = .off) : FaultReported x t k d s
      (deliver o (condMsgs (.convTransient x) n b d.transCond ++ condMsgs (.convFault x) n false true) (faulted x t k d s)) := by
  generalize hms : condMsgs (.convTransient x) n b d.transCond ++ condMsgs (.convFault x) n false true = ms
  have hmem : ∀ m ∈ ms, m = .cond (.convTransient x) d.transCond ∨ m = .report (.convTransient x) n ∨
      m = .cond (.convFault x) true ∨ m = .report (.convFault x) n := by
    intro m hm
    rw [← hms] at hm
    rcases List.mem_append.mp hm with hm | hm <;> rcases mem_condMsgs hm with ⟨rfl, -⟩ | ⟨rfl, -⟩ <;> simp
  have hcond : .cond (.convFault x) true ∈ ms := by
    rw [← hms]
    simp [condMsgs]
  have hrep : .report (.convFault x) n ∈ ms := by
    rw [← hms]
    simp [condMsgs]
  have hfalse : .cond (.convFault x) false ∉ ms := fun h => by
    rcases hmem _ h with h | h | h | h <;> simp at h
  have hone : ms.filter (fun m => decide (reportKind m = some (.convFault x))) = [.report (.convFault x) n] := by
    rw [← hms, List.filter_append]
    cases b <;> cases d.transCond <;> simp [condMsgs, reportKind]
  have hothers : othersWarn (.convFault x) ms := fun j i hj hne z => by
    rcases hmem _ hj with h | h | h | h <;> cases h
    · rfl
    · exact absurd rfl hne
  obtain ⟨hnow, hmsy, hmeu, hpru, hlinks, hdsq, hset, hconv, -⟩ := faulted_rest x t k d s
  have hbase := deliver_base o ms (faulted x t k d s)
  have hrep' := deliver_reported o ms (faulted x t k d s)
  obtain ⟨g, hg, hu⟩ := deliver_one o hone hothers (faulted x t k d s)
  replace hg := (calmed_same ms (faulted x t k d s)).trans hg
  have hclass : Class.f ≠ .w := by decide
  obtain ⟨v, hv, hmoved⟩ := takeReport_moves o n (k := .convFault x) (s := g) rfl hclass
  replace hv := hg.trans hv
  have hvconv : v.conv x = d := (hv.conv x).trans hconv
  have hvdsq : v.dsq = s.dsq := hv.dsq.trans hdsq
  have hvset : v.set = s.set := hv.set.trans hset
  generalize hfin : deliver o ms (faulted x t k d s) = u at hbase hrep' hu
  refine ⟨hbase.now.trans hnow, hbase.msy.trans hmsy, hbase.meu.trans hmeu, ?_, ?_, ?_, ?_, fun hz => ?_⟩
  · rw [← hfin, deliver_latest o (fun y c h => by rcases hmem _ h with h | h | h | h <;> cases h)]
    exact (rcuTakeCapture_latest x k s.rcu).1
  · exact (hrep'.pru.view _ ⟨trivial, .inl (fun y h => by cases h)⟩).mpr (calmed_joins hcond hfalse _)
  · rw [← hfin]
    exact deliver_latches o hrep _ fun z _ => hclass
  · rw [hu.conv x]
    rcases hmoved with hm | hm <;> rw [hm]
    · exact ⟨false, s.set, hvconv⟩
    · obtain ⟨b, z, h⟩ := demand_f_hand o (s := v) x (by rw [hvconv]; exact hd)
      exact ⟨b, z, h.trans (by rw [hvconv])⟩
  · rw [hu.conv x, hu.dsq, hu.set]
    rcases hmoved with hm | hm <;> rw [hm]
    · rw [hvdsq, if_neg (fun h => h.2.1 rfl), hvconv]
    · have h := demand_f_conv o (s := v) (hvset ▸ hz) x (by rw [hvconv]; exact hd)
      rw [hvconv, hvdsq, hvset] at h
      rw [hvdsq]
      exact h

/-- A fault arrival that reports CONV_x_FAULT (R63). -/
theorem arrival_reports {x : Side} {t : Tick} {o : Sched} {s : State} {g : Origin} {k : FaultCapture} {d : Conv}
    (ht : nextPeriodEvent s.msy ≠ some t ∨ o.takings = []) (hf : (s.conv x).fault = false)
    (hs : (s.conv x).state = .firing ∨ (s.conv x).state = .retard) (hg : (s.conv x).lastOrigin = some g)
    (hk : k = captureOf t (s.meu.sides.get x).lastSample g) (hd : convRespond s.set x (arrived k (s.conv x)) = d)
    (hc : (s.conv x).faultCond = false) (hdc : d.faultCond = true) (hidle : d.state = .retard ∨ d.state = .off) :
    ∃ u, exec (.faultArrival x t o) s = .next u ∧ FaultReported x t k d s u := by
  have hlast : d.lastOrigin = some g := by
    rw [← hd, convRespond_lastOrigin]
    exact hg
  rw [exec_faultArrival ht, convArrival_active hf hs hg, ← hk, hd, deliver_arrival, convMsgs_of_origin hlast, hc, hdc]
  exact ⟨_, rfl, deliver_fault o x t _ s g.period hidle⟩

/-- A fault arrival that leaves CONV_x_FAULT as it is (R62, R63). -/
theorem arrival_quiet {x : Side} {t : Tick} {o : Sched} {s : State} {g : Origin} {k : FaultCapture} {d : Conv}
    (ht : nextPeriodEvent s.msy ≠ some t ∨ o.takings = []) (hf : (s.conv x).fault = false)
    (hs : (s.conv x).state = .firing ∨ (s.conv x).state = .retard) (hg : (s.conv x).lastOrigin = some g)
    (hk : k = captureOf t (s.meu.sides.get x).lastSample g) (hd : convRespond s.set x (arrived k (s.conv x)) = d)
    (hc : d.faultCond = (s.conv x).faultCond) :
    (d.transCond = (s.conv x).transCond → exec (.faultArrival x t o) s = .next (faulted x t k d s)) ∧
    ((s.conv x).transCond = false → d.transCond = true → exec (.faultArrival x t o) s =
      .next (takeWarning (.convTransient x) (takeCond (.convTransient x) true (faulted x t k d s)))) := by
  have hlast : d.lastOrigin = some g := by
    rw [← hd, convRespond_lastOrigin]
    exact hg
  rw [exec_faultArrival ht, convArrival_active hf hs hg, ← hk, hd, deliver_arrival, convMsgs_of_origin hlast, hc, condMsgs_same, List.append_nil]
  refine ⟨fun h => ?_, fun h1 h2 => ?_⟩
  · rw [h, condMsgs_same, deliver_nil]
  · rw [h1, h2, deliver_transient]
    rfl

/-- The answer of a controller in RETARD to an arrival, or of one in FIRING that enters it: with the retard firing count
0 where it entered (R59). -/
def blocked (c : Conv) : Conv :=
  { c with state := .retard, retardCount := (if c.state = .firing then 0 else c.retardCount), faultCond := true }

theorem convRetardBlock_eq {c : Conv} (h : c.state = .firing ∨ c.state = .retard) : convRetardBlock c = blocked c := by
  obtain ⟨st⟩ := c
  rcases h with rfl | rfl <;> rfl

/-- The answers SKIP and RETARD_RESUME below the escalation limit (R59, R61, R62). -/
def excused (r : Response) (g : Origin) (c : Conv) : Conv :=
  { c with
    esc := min (c.esc + 1) 16, transCond := true,
    state := (if r = .retardResume ∧ c.state = .firing then .held else c.state),
    firings := (if r = .skip ∧ g.kind = .real
      then c.firings.filter (fun f => decide ¬ (f.thy = g.thy ∧ f.period = g.period))
      else c.firings) }

theorem suppressFiring_eq {c : Conv} {g : Origin} (h : c.lastOrigin = some g) : suppressFiring c =
    if g.kind = .real then c.firings.filter (fun f => decide ¬ (f.thy = g.thy ∧ f.period = g.period)) else c.firings := by
  have hf : (fun f : Firing => !(decide (f.thy = g.thy) && decide (f.period = g.period))) =
      fun f => decide ¬ (f.thy = g.thy ∧ f.period = g.period) := by
    funext f
    simp
  unfold suppressFiring
  rw [h]
  dsimp only
  split <;> rename_i hk
  · rw [if_pos hk, hf]
  · rw [if_neg (by simp [hk])]

theorem convRespond_excused {z : SetTable} {x : Side} {c : Conv} {g : Origin} (hs : c.state = .firing ∨ c.state = .retard)
    (hg : c.lastOrigin = some g) (hr : z.response x = .skip ∨ z.response x = .retardResume)
    (hl : min (c.esc + 1) 16 < z.escLimit) : convRespond z x c = excused (z.response x) g c := by
  have hlim : ¬ z.escLimit ≤ (escalated c).esc := Nat.not_le.mpr hl
  rcases hr with hr | hr
  · simp only [convRespond, hr, if_neg hlim, excused, suppressFiring_eq hg, true_and, reduceCtorEq, false_and, if_false]
    rfl
  · obtain ⟨st⟩ := c
    rcases hs with rfl | rfl <;> simp only [convRespond, hr, if_neg hlim, excused, true_and, reduceCtorEq, false_and,
      if_false, if_true] <;> rfl

theorem convRespond_escalated {z : SetTable} {x : Side} {c : Conv} (hs : c.state = .firing ∨ c.state = .retard)
    (hr : z.response x = .skip ∨ z.response x = .retardResume) (hl : z.escLimit ≤ min (c.esc + 1) 16) :
    convRespond z x c = blocked (escalated c) := by
  have hlim : z.escLimit ≤ (escalated c).esc := hl
  have hb := convRetardBlock_eq (c := escalated c) hs
  rcases hr with hr | hr <;> simp only [convRespond, hr, if_pos hlim, hb]

theorem convRespond_retardBlock {z : SetTable} {x : Side} {c : Conv} (hs : c.state = .firing ∨ c.state = .retard)
    (hr : z.response x = .retardBlock) : convRespond z x c = blocked c := by
  simp only [convRespond, hr, convRetardBlock_eq hs]

theorem convRespond_block {z : SetTable} {x : Side} {c : Conv} (hr : z.response x = .block) :
    convRespond z x c = convOff { c with faultCond := true } := by
  simp only [convRespond, hr]

theorem convHand_firings (b : Bool) (z : SetTable) (c : Conv) :
    ∃ fs, convHand b z c = { c with firings := fs } ∧ (c.firings = [] → fs = []) := by
  cases b
  · exact ⟨c.firings, rfl, id⟩
  · exact ⟨_, rfl, fun h => by rw [h, List.filter_nil]⟩

/-! ### The clearing of a fault line -/

theorem exec_faultClear (x : Side) (t : Tick) (s : State) : exec (.faultClear x t) s =
    .next (raiseAll (convMsgs x (s.conv x) (convClear (s.conv x))) ({ s with now := t }.putConv x (convClear (s.conv x)))) :=
  rfl

theorem convClear_held {c : Conv} (hf : c.fault = true) (hs : c.state = .held) :
    convClear c = { c with fault := false, state := .firing, integ := -4194304 } := by
  simp only [convClear, hf, hs, if_true]
  rfl

theorem convClear_firing {c : Conv} (hf : c.fault = true) (hs : c.state = .firing ∨ c.state = .retard) :
    convClear c = { c with fault := false } := by
  rcases hs with hs | hs <;> simp only [convClear, hf, hs, if_true]

theorem convClear_off {c : Conv} (hf : c.fault = true) (hs : c.state = .off) :
    convClear c = { c with fault := false, faultCond := false } := by
  simp only [convClear, hf, hs, if_true]

theorem convMsgs_same {x : Side} {c d : Conv} (ht : d.transCond = c.transCond) (hf : d.faultCond = c.faultCond) :
    convMsgs x c d = [] := by
  rw [convMsgs, ht, hf, condMsgs_same, condMsgs_same]
  rfl

theorem exec_faultClear_quiet {x : Side} {s : State} {d : Conv} (hd : convClear (s.conv x) = d)
    (ht : d.transCond = (s.conv x).transCond) (hf : d.faultCond = (s.conv x).faultCond) (t : Tick) :
    exec (.faultClear x t) s = .next ({ s with now := t }.putConv x d) := by
  rw [exec_faultClear, hd, convMsgs_same ht hf]
  rfl

/-- Settles O22: the arrival by `arrival_reports` and `arrival_quiet`, the clearing by the equations of `convClear`. -/
theorem faultArrivalAndClear : Obligations.FaultArrivalAndClear := by
  refine ⟨fun x t o s g hf ht => ⟨fun hs => ?off, fun hs hg hc hr => ?fault, fun hs hg hr hl hesc hc => ?skip⟩,
    fun x t s hf => ⟨fun hs => ?held, fun hs => ?firing, fun hs => ?clear⟩⟩
  case off =>
    rw [exec_faultArrival ht]
    simp only [convArrival, hf, hs, Bool.false_eq_true, if_false, deliver_nil]
  case fault =>
    generalize hk : captureOf t (s.meu.sides.get x).lastSample g = k
    generalize hd : convRespond s.set x (arrived k (s.conv x)) = d
    have hdeq : d = blocked (arrived k (s.conv x)) ∧ s.set.response x ≠ .block ∨
        d = convOff { arrived k (s.conv x) with faultCond := true } ∧ s.set.response x = .block := by
      rw [← hd]
      rcases hr with hr | hr
      · exact .inl ⟨convRespond_retardBlock (c := arrived k (s.conv x)) (.inl hs) hr, by simp [hr]⟩
      · exact .inr ⟨convRespond_block hr, hr⟩
    have hdc : d.faultCond = true ∧ (d.state = .retard ∨ d.state = .off) := by
      rcases hdeq with ⟨rfl, -⟩ | ⟨rfl, -⟩
      · exact ⟨rfl, .inl rfl⟩
      · exact ⟨rfl, .inr rfl⟩
    obtain ⟨u, hu, hnow, hmsy, hmeu, hlatest, hview, hlatched, ⟨b, z, hconv⟩, -⟩ :=
      arrival_reports ht hf (.inl hs) hg hk.symm hd hc hdc.1 hdc.2
    obtain ⟨fs, hfs, hnil⟩ := convHand_firings b z d
    rw [hfs] at hconv
    have hdcap : d.capture = some k := by rcases hdeq with ⟨rfl, -⟩ | ⟨rfl, -⟩ <;> rfl
    refine ⟨u, hu, hnow, ?_⟩
    rw [hlatest, hconv]
    refine ⟨?_, ?_, ?_, hdc.1, ?_, fun h => ?_, by rw [hdcap, ← hk]; rfl, hdcap.symm, hview, hlatched, hmsy, hmeu⟩
    · rcases hdeq with ⟨rfl, h⟩ | ⟨rfl, h⟩
      · exact (if_neg h).symm
      · exact (if_pos h).symm
    · rcases hdeq with ⟨rfl, -⟩ | ⟨rfl, -⟩ <;> rfl
    · rcases hdeq with ⟨rfl, -⟩ | ⟨rfl, -⟩ <;> rfl
    · rcases hdeq with ⟨rfl, -⟩ | ⟨rfl, -⟩
      · exact if_pos hs
      · rfl
    · obtain ⟨rfl, -⟩ := hdeq.resolve_left fun hn => hn.2 h
      exact ⟨hnil rfl, rfl, rfl⟩
  case skip =>
    have hmin : min ((s.conv x).esc + 1) 16 = (s.conv x).esc + 1 := by omega
    generalize hk : captureOf t (s.meu.sides.get x).lastSample g = k
    have hd : convRespond s.set x (arrived k (s.conv x)) = excused (s.set.response x) g (arrived k (s.conv x)) :=
      convRespond_excused (c := arrived k (s.conv x)) (.inl hs) hg (.inl hr) (hmin.symm ▸ hl)
    obtain ⟨-, hexec⟩ := arrival_quiet ht hf (.inl hs) hg hk.symm hd rfl
    obtain ⟨hsame, -, -, hwarn⟩ := takeWarning_convTransient x
      (faulted x t k (excused (s.set.response x) g (arrived k (s.conv x))) s)
    obtain ⟨hnow, hmsy, hmeu, -, -, hdsq, -, hconv, -⟩ :=
      faulted_rest x t k (excused (s.set.response x) g (arrived k (s.conv x))) s
    have hu := (hsame.conv x).trans hconv
    generalize takeWarning (.convTransient x) _ = u at hexec hsame hwarn hu
    refine ⟨u, hexec hc rfl, hsame.now.trans hnow, ?_⟩
    rw [hu, hr]
    have hstate : (excused .skip g (arrived k (s.conv x))).state = .firing := by
      simp only [excused, reduceCtorEq, false_and, if_false]
      exact hs
    exact ⟨hstate, rfl, hmin, rfl, by simp only [excused, true_and]; rfl, hwarn, hsame.dsq.trans hdsq,
      hsame.msy.trans hmsy, hsame.meu.trans hmeu⟩
  case held => exact exec_faultClear_quiet (convClear_held hf hs) rfl rfl t
  case firing => exact exec_faultClear_quiet (convClear_firing hf hs) rfl rfl t
  case clear =>
    rw [exec_faultClear, convClear_off hf hs]
    have hmsgs : convMsgs x (s.conv x) { s.conv x with fault := false, faultCond := false } =
        if (s.conv x).faultCond then [.cond (.convFault x) false] else [] := by
      simp only [convMsgs, condMsgs_same, List.nil_append, condMsgs_false]
    rw [hmsgs]
    refine ⟨_, rfl, ?_⟩
    split
    · refine ⟨by cases x <;> rfl, by cases x <;> rfl, fun _ => ?_, by cases x <;> rfl⟩
      simp [raiseAll, takeMild, takeCond, pruCond]
    · rename_i hn
      exact ⟨by cases x <;> rfl, by cases x <;> rfl, fun h => absurd h hn, by cases x <;> rfl⟩

theorem settingsRight_full {z : SetTable} (h : settingsRight z = true) : FullTable z := ((settingsRight_iff z).mp h).full

/-- CONV_x_FAULT holding already stays (R63). -/
theorem blocked_again {c : Conv} (h : c.faultCond = true) : blocked c =
    { c with state := .retard, retardCount := (if c.state = .firing then 0 else c.retardCount) } := by
  simp only [blocked, h]

theorem convOff_again {c : Conv} (h : c.faultCond = true) (hf : c.fault = true) : convOff { c with faultCond := true } =
    { c with state := .off, firings := [], burst := none, gates := 0#6, retardCount := 0 } := by
  simp only [convOff, h, hf, Bool.and_self]

theorem takeWarning_latched (k : Cause) (s : State) : (takeWarning k s).pru.latched = s.pru.latched := by
  rcases takeWarning_pru k s with h | h <;> rw [h]
  unfold pruWarn
  split <;> rfl

/-- Settles O23: each answer is `convRespond`'s, reported by `arrival_reports` or taken quietly by `arrival_quiet`. -/
theorem otherAnswersToAFault : Obligations.OtherAnswersToAFault := by
  rintro x t o s g c k staged ht hf hset rfl hs hg hk rfl
  have hfull := settingsRight_full hset
  have hk' : k = captureOf t (s.meu.sides.get x).lastSample g := hk
  have hlatest : ∀ d, (faulted x t k d s).rcu.latest.get x = some k := fun _ => (rcuTakeCapture_latest x k s.rcu).1
  refine ⟨fun hr hl => ?excused, fun hr hl hc => ?escalated, fun hret hc => ⟨fun hr => ?retardBlock, fun hr => ?block⟩,
    fun hc => ⟨fun hr hl => ?again, fun hr => ?blockAgain, fun hr => ?offAgain⟩⟩
  case excused =>
    have hd : convRespond s.set x (arrived k (s.conv x)) = excused (s.set.response x) g (arrived k (s.conv x)) :=
      convRespond_excused (c := arrived k (s.conv x)) hs hg hr hl
    obtain ⟨hsame, hnew⟩ := arrival_quiet ht hf hs hg hk' hd rfl
    obtain ⟨hnow, hmsy, hmeu, hpru, hlinks, hdsq, -, hconv, hother⟩ :=
      faulted_rest x t k (excused (s.set.response x) g (arrived k (s.conv x))) s
    have hslots := (rcuTakeCapture_latest x k s.rcu).2
    by_cases hc : (s.conv x).transCond = true
    · exact ⟨_, hsame hc.symm, hnow, hconv, hlatest _, hslots, fun h => absurd (hc.symm.trans h) (by decide),
        fun _ => ⟨hpru, hlinks⟩, hdsq, hmsy, hmeu, hother⟩
    · rw [Bool.not_eq_true] at hc
      obtain ⟨hs', hrcu, hview, hwarn⟩ := takeWarning_convTransient x
        (faulted x t k (excused (s.set.response x) g (arrived k (s.conv x))) s)
      refine ⟨_, hnew hc rfl, hs'.now.trans hnow, (hs'.conv x).trans hconv, ?_, fun i r hi hr => ?_, fun _ => ⟨hview, hwarn⟩,
        fun h => absurd (hc.symm.trans h) (by decide), hs'.dsq.trans hdsq, hs'.msy.trans hmsy, hs'.meu.trans hmeu,
        (hs'.conv _).trans hother⟩
      · rw [hrcu]
        exact hlatest _
      · rw [hrcu]
        exact hslots i r hi hr
  case escalated =>
    obtain ⟨u, hu, h⟩ := arrival_reports ht hf hs hg hk'
      (convRespond_escalated (c := arrived k (s.conv x)) hs hr hl) hc rfl (.inl rfl)
    exact ⟨u, hu, h.now, h.conv hfull, h.view, h.latched, h.msy, h.meu⟩
  case retardBlock =>
    obtain ⟨u, hu, h⟩ := arrival_reports ht hf hs hg hk'
      (convRespond_retardBlock (c := arrived k (s.conv x)) hs hr) hc rfl (.inl rfl)
    refine ⟨u, hu, (h.conv hfull).trans ?_, h.latched⟩
    have hblocked : blocked (arrived k (s.conv x)) = { arrived k (s.conv x) with faultCond := true } := by
      unfold blocked arrived
      simp only [hret, reduceCtorEq, if_false]
    rw [hblocked]
    rfl
  case block =>
    obtain ⟨u, hu, h⟩ := arrival_reports ht hf hs hg hk' (convRespond_block (c := arrived k (s.conv x)) hr) hc rfl (.inr rfl)
    refine ⟨u, hu, (h.conv hfull).trans ?_, h.latched⟩
    exact congrArg (fun fs => { convOff { arrived k (s.conv x) with faultCond := true } with firings := fs })
      (ite_self ([] : List Firing))
  case again =>
    have hd := convRespond_escalated (c := arrived k (s.conv x)) hs hr hl
    obtain ⟨hsame, hnew⟩ := arrival_quiet ht hf hs hg hk' hd hc.symm
    obtain ⟨hnow, -, -, hpru, hlinks, hdsq, -, hconv, -⟩ := faulted_rest x t k (blocked (escalated (arrived k (s.conv x)))) s
    have hconv' : (faulted x t k (blocked (escalated (arrived k (s.conv x)))) s).conv x = { arrived k (s.conv x) with
        esc := min ((s.conv x).esc + 1) 16, transCond := true, state := .retard,
        retardCount := (if (s.conv x).state = .firing then 0 else (s.conv x).retardCount) } := by
      rw [hconv, blocked_again (c := escalated (arrived k (s.conv x))) hc]
      rfl
    by_cases htr : (s.conv x).transCond = true
    · exact ⟨_, hsame htr.symm, hnow, hconv', by rw [hpru], fun _ => ⟨hpru, hlinks⟩, hlatest _, hdsq⟩
    · rw [Bool.not_eq_true] at htr
      obtain ⟨hs', hrcu, -, -⟩ := takeWarning_convTransient x (faulted x t k (blocked (escalated (arrived k (s.conv x)))) s)
      refine ⟨_, hnew htr rfl, hs'.now.trans hnow, (hs'.conv x).trans hconv', ?_,
        fun h => absurd (htr.symm.trans h) (by decide), ?_, hs'.dsq.trans hdsq⟩
      · exact (takeWarning_latched ..).trans (congrArg Pru.latched hpru :)
      · rw [hrcu]
        exact hlatest _
  case blockAgain =>
    have hd := convRespond_retardBlock (c := arrived k (s.conv x)) hs hr
    obtain ⟨hsame, -⟩ := arrival_quiet ht hf hs hg hk' hd hc.symm
    obtain ⟨hnow, -, -, hpru, hlinks, hdsq, -, hconv, -⟩ := faulted_rest x t k (blocked (arrived k (s.conv x))) s
    refine ⟨_, hsame rfl, hnow, ?_, hlatest _, hpru, hdsq, hlinks⟩
    rw [hconv, blocked_again (c := arrived k (s.conv x)) hc]
    rfl
  case offAgain =>
    have hd := convRespond_block (c := arrived k (s.conv x)) hr
    obtain ⟨hsame, -⟩ := arrival_quiet ht hf hs hg hk' hd hc.symm
    obtain ⟨hnow, -, -, hpru, hlinks, hdsq, -, hconv, -⟩ :=
      faulted_rest x t k (convOff { arrived k (s.conv x) with faultCond := true }) s
    refine ⟨_, hsame rfl, hnow, ?_, hlatest _, hpru, hdsq, hlinks⟩
    rw [hconv, convOff_again (c := arrived k (s.conv x)) hc rfl]
    rfl

end Sys2Proof.Machine
end

section
/-! The requests that a free link takes: what the reading ones answer, and what START, STOP, TO AUX, FROM AUX, PERMIT,
WITHDRAW, TRIP, RESET TRIP and CLEAR TABLE do. -/

namespace Sys2Proof.Machine

/-! ### A request on a free link -/

/-- The reply of a free link to what a block has made of a request (R196). -/
def replied (st : Station) (k : ReqKind) (g : Byte) (w : Result) : State :=
  startReply st (kindCode k :: g :: BitVec.ofNat 8 (statusCode w.status) :: (w.reason ++ w.payload)) w.state

/-- A request of a fitting length on a free link is answered with what its block makes of it (R195, R196). -/
theorem arrives_eq {st : Station} (k : ReqKind) {payload : List Byte} {s : State} {t : Tick} {o : Sched} {w : Result}
    (hfree : (s.links.get st).reply = none) (hallowed : allowedOn k st = true)
    (hfits : lengthFits k payload.length = true) (h : handRequest st k payload o { s with now := t } = w) (g : Byte) :
    requestArrives st k g payload t o s = replied st k g w := by
  rw [requestArrives_of_free hfree hallowed hfits, h]
  rfl

theorem replied_okWith (st : Station) (k : ReqKind) (g : Byte) (s : State) (bs : List Byte) :
    replied st k g (okWith s bs) = startReply st (kindCode k :: g :: 0x00#8 :: bs) s := rfl

theorem startReply_reply (st : Station) (body : List Byte) (s : State) :
    ((startReply st body s).links.get st).reply = some { frame := frameOf body, started := s.now } := by
  simp [startReply]

theorem startReply_noticed {k : Station} {n : Notice} {s : State} (st : Station) (body : List Byte)
    (h : n ∈ (s.links.get k).notices) : n ∈ ((startReply st body s).links.get k).notices := by
  cases st <;> cases k <;> exact h

theorem startReply_attention (st k : Station) (body : List Byte) (s : State) :
    ((startReply st body s).links.get k).attention = (s.links.get k).attention := by
  cases st <;> cases k <;> rfl

/-! ### The operands -/

theorem beNat_operand2 (v : BitVec 16) : beNat (operand2 v) = v.toNat := beNat_be_two v.isLt

theorem beNat_byte (n : Byte) : beNat [n] = n.toNat := by simp [beNat]

theorem operand2_length (v : BitVec 16) : (operand2 v).length = 2 := be_length ..

theorem chanOf_none {n : Nat} (h : 3 < n) : chanOf n = none :=
  List.getElem?_eq_none h

/-! ### The reading requests -/

theorem reqGetSetting_row {id : Nat} {r : SetSpec} {v : SetValue} {w : Option SetValue} {s : State} (h0 : id ≠ 0)
    (hr : catalogue[id - 1]? = some r) (hv : s.set.active[id - 1]? = some v) (hw : s.set.staged[id - 1]? = some w) :
    reqGetSetting id s = okWith s (settingBytes id r v w) := by
  simp [reqGetSetting, specOf, h0, hr, hv, hw]

theorem reqGetSetting_unknown {id : Nat} (s : State) (h : id = 0 ∨ 87 < id) :
    reqGetSetting id s = { state := s, status := .malformed, reason := [], payload := be 2 id } := by
  have hs : specOf id = none := by
    unfold specOf
    split
    · rfl
    · exact List.getElem?_eq_none (by rw [catalogue_length]; omega)
  simp [reqGetSetting, hs]

theorem reqTable_outside {n h : Nat} (s : State) (hn : 3 < n ∨ 1 < h) : reqTable n h s = plain s .malformed := by
  unfold reqTable
  split
  · rfl
  · rename_i k hk
    have hle : ¬ 3 < n := fun hlt => by rw [chanOf_none hlt] at hk; cases hk
    rw [if_neg (by omega)]

theorem chanOf_number (q : Chan) : chanOf (chanNumber q) = some q := by cases q <;> rfl

theorem exec_channel {k : Station} {s : State} (hfree : (s.links.get k).reply = none) (g n : Byte) (t : Tick)
    (o : Sched) : exec (.channel k g n t o) s = .next (replied k .channel g (reqChannel n.toNat { s with now := t })) := by
  refine congrArg Host.Outcome.next (arrives_eq .channel hfree rfl rfl ?_ g)
  rw [← beNat_byte n]
  rfl

theorem exec_table {k : Station} {s : State} (hfree : (s.links.get k).reply = none) (g n h : Byte) (t : Tick)
    (o : Sched) :
    exec (.table k g n h t o) s = .next (replied k .table g (reqTable n.toNat h.toNat { s with now := t })) := by
  refine congrArg Host.Outcome.next (arrives_eq .table hfree rfl rfl ?_ g)
  rw [← beNat_byte n, ← beNat_byte h]
  rfl

theorem exec_getSetting {k : Station} {s : State} (hfree : (s.links.get k).reply = none) (g : Byte) (id : BitVec 16)
    (t : Tick) (o : Sched) :
    exec (.getSetting k g id t o) s = .next (replied k .getSetting g (reqGetSetting id.toNat { s with now := t })) := by
  have hfits : lengthFits .getSetting (operand2 id).length = true := by rw [operand2_length]; rfl
  have hhand : handRequest k .getSetting (operand2 id) o { s with now := t } = reqGetSetting id.toNat { s with now := t } :=
    congrArg (reqGetSetting · _) (beNat_operand2 id)
  have harrives := arrives_eq .getSetting hfree rfl hfits hhand g
  exact congrArg Host.Outcome.next harrives

/-- Settles O35: each reading request is handed to its block on a free link, which leaves the state and answers with its
layout. -/
theorem readingRequests : Obligations.ReadingRequests := by
  intro k g t o s hfree
  refine ⟨?_, ?_, fun n => ?_, fun n h q hn hh => ?_, fun n h hn => ?_, fun id r v w h0 hr hv hw => ?_, fun id hid => ?_⟩
  · exact congrArg Host.Outcome.next ((arrives_eq .status hfree rfl rfl rfl g).trans (replied_okWith ..))
  · exact congrArg Host.Outcome.next ((arrives_eq .listRecords hfree rfl rfl rfl g).trans (replied_okWith ..))
  · rw [exec_channel hfree]
    have hq : ∀ q, n.toNat = chanNumber q →
        reqChannel n.toNat { s with now := t } = okWith { s with now := t } (channelBytes s.vwa.level (s.vwa.chans.get q)) :=
      fun q hn => by rw [hn, reqChannel, chanOf_number]
    split
    · rw [hq .c0 ‹_›]; rfl
    · rw [hq .c1 ‹_›]; rfl
    · rw [hq .c2 ‹_›]; rfl
    · rw [hq .c3 ‹_›]; rfl
    · rename_i h0 h1 h2 h3
      have hn : 3 < n.toNat := by
        replace h0 : n.toNat ≠ 0 := h0
        replace h1 : n.toNat ≠ 1 := h1
        replace h2 : n.toNat ≠ 2 := h2
        replace h3 : n.toNat ≠ 3 := h3
        omega
      rw [reqChannel, chanOf_none hn]
      rfl
  · have hc : n.toNat = chanNumber q := by cases q <;> exact hn
    rw [exec_table hfree, reqTable, hc, chanOf_number]
    dsimp only
    rw [if_pos hh, ← hc]
    simp [replied, okWith, tableBytes, be1, be, kindCode, statusCode]
  · rw [exec_table hfree, reqTable_outside _ hn]
    rfl
  · have h0 : id.toNat ≠ 0 := fun h => h0 (BitVec.eq_of_toNat_eq h)
    rw [exec_getSetting hfree, reqGetSetting_row (s := { s with now := t }) h0 hr hv hw]
    rfl
  · rw [exec_getSetting hfree, reqGetSetting_unknown _ (hid.imp_left fun h => by rw [h]; rfl)]
    rfl

/-! ### Messages of class W alone -/

/-- Whatever these messages report is of class W, and no fault capture is among them. -/
def mildMsgs (z : SetTable) (ms : List Msg) : Prop :=
  ∀ m ∈ ms, (∀ k n, m = .report k n → z.classInForce k = .w) ∧ ∀ x c, m ≠ .capture x c

theorem mildMsgs.append {z : SetTable} {as bs : List Msg} (ha : mildMsgs z as) (hb : mildMsgs z bs) :
    mildMsgs z (as ++ bs) := fun m hm => (List.mem_append.mp hm).elim (ha m) (hb m)

theorem mildMsgs_nil (z : SetTable) : mildMsgs z [] := fun _ hm => nomatch hm

theorem mildMsgs_condMsgs {z : SetTable} {k : Cause} (n : Period) (old : Bool) {new : Bool}
    (h : new = true → z.classInForce k = .w) : mildMsgs z (condMsgs k n old new) := by
  intro m hm
  cases old <;> cases new <;> simp only [condMsgs] at hm
  all_goals simp at hm
  · rcases hm with rfl | rfl <;> exact ⟨by simp [h rfl], by simp⟩
  · subst hm; exact ⟨by simp, by simp⟩

/-- Messages of class W move nothing but what the protection unit has in view, its warnings and the notices. -/
theorem deliver_mild (o : Sched) {ms : List Msg} {s : State} (h : mildMsgs s.set ms) :
    SameDrive s (deliver o ms s) ∧ (deliver o ms s).rcu = s.rcu := by
  have hone : ∀ m ∈ ms, ∀ u : State, u.set = s.set → SameDrive u (takeMsg o u m) ∧ (takeMsg o u m).rcu = u.rcu := by
    intro m hm u hu
    cases m with
    | cond k b => exact ⟨⟨⟨rfl, rfl, rfl, rfl, rfl, rfl⟩, rfl, rfl, rfl, rfl, rfl, rfl⟩, rfl⟩
    | report k n =>
      have hw : u.set.classInForce k = .w := hu ▸ (h _ hm).1 k n rfl
      change SameDrive u (takeReport o k n u) ∧ (takeReport o k n u).rcu = u.rcu
      rw [takeReport_warning o n hw]
      exact ⟨takeWarning_same .., takeWarning_rcu ..⟩
    | notice k st => exact ⟨⟨⟨rfl, rfl, rfl, rfl, rfl, rfl⟩, rfl, rfl, rfl, rfl, rfl, rfl⟩, rfl⟩
    | capture x c => exact absurd rfl ((h _ hm).2 x c)
  have hall : ∀ (l : List Msg) (u : State), (∀ m ∈ l, m ∈ ms) → u.set = s.set →
      SameDrive u (l.foldl (takeMsg o) u) ∧ (l.foldl (takeMsg o) u).rcu = u.rcu := by
    intro l
    induction l with
    | nil => exact fun u _ _ => ⟨.refl u, rfl⟩
    | cons m l ih =>
      intro u hl hu
      obtain ⟨hs, hr⟩ := hone m (hl m List.mem_cons_self) u hu
      obtain ⟨hs', hr'⟩ := ih (takeMsg o u m) (fun m hm => hl m (List.mem_cons_of_mem _ hm)) (hs.set.trans hu)
      exact ⟨hs.trans hs', hr'.trans hr⟩
  refine hall _ s (fun m hm => ?_) rfl
  rw [orderMsgs_eq] at hm
  rcases List.mem_append.mp hm with hm | hm
  · exact (List.mem_filter.mp hm).1
  · exact (mem_reportMsgs.mp hm).1

/-! ### CLEAR TABLE -/

theorem vwaNotices_mild (z : SetTable) (old new : VChan) (l m : Nat) : mildMsgs z (vwaNotices old new l m) := by
  intro x hx
  have hn : ∃ k st, x = .notice k st := by
    unfold vwaNotices at hx
    split at hx <;> split at hx <;> simp at hx
    · rcases hx with rfl | rfl | rfl <;> exact ⟨_, _, rfl⟩
    · exact hx ▸ ⟨_, _, rfl⟩
    · rcases hx with rfl | rfl | rfl | rfl <;> exact ⟨_, _, rfl⟩
  obtain ⟨k, st, rfl⟩ := hn
  exact ⟨by simp, by simp⟩

theorem chanPut_mildMsgs (n : Chan) {c : VChan} (s : State) (h : inDanger c = false) :
    mildMsgs s.set (chanPut n c s).2 := by
  refine ((vwaNotices_mild _ _ _ _ _).append (mildMsgs_condMsgs _ _ fun hd => ?_)).append
    (mildMsgs_condMsgs _ _ fun _ => rfl)
  rw [settleChannel, h, Bool.and_false] at hd
  cases hd

/-- A channel that comes into no danger that is reported, or whose VIB_DANGER_n stays, changes alone, with the derate
level. -/
theorem putChan_mild (o : Sched) (n : Chan) {c : VChan} (s : State) (h : inDanger c = false) :
    SameDrive (chanPut n c s).1 (putChan o n c s) ∧ (putChan o n c s).rcu = s.rcu :=
  deliver_mild o (chanPut_mildMsgs n s h)

theorem chanPut_get (n j : Chan) (c : VChan) (s : State) :
    (chanPut n c s).1.vwa.chans.get j = if j = n then settleChannel (s.set.action n) c else s.vwa.chans.get j := by
  change ((s.vwa.chans.put n (settleChannel (s.set.action n) c)).get j) = _
  split
  · subst j; rw [Quad.get_put]
  · rw [Quad.get_put_ne _ _ ‹_›]

theorem clearChannel_inDanger (b : Bool) (t : Tick) (c : VChan) : inDanger (clearChannel b t c) = false := by
  cases c with
  | mk st => cases st <;> rfl

theorem clearChannel_stopped {b : Bool} {t : Tick} {c : VChan} (h : c.state = .paused ∨ c.state = .sensorFault) :
    clearChannel b t c = { clearTableValues b c with deadline := none } := by
  unfold clearChannel
  rcases h with h | h <;> rw [h]

theorem clearChannel_learning {b : Bool} {t : Tick} {c : VChan} (hp : c.state ≠ .paused) (hf : c.state ≠ .sensorFault) :
    clearChannel b t c = { clearTableValues b c with
      state := .learning, held := none, deadline := some (deadlineFrom t (clearTableValues b c).trev) } := by
  unfold clearChannel
  cases h : c.state with
  | paused => exact absurd h hp
  | sensorFault => exact absurd h hf
  | learning | normal | alert | danger | unreferenced => rfl

theorem deadlineFrom_eq (t : Tick) (r : Option Nat) : deadlineFrom t r =
    match r with
    | none => t + 1200000000#32
    | some r => t + BitVec.ofNat 32 (2 * r) := by
  cases r <;> rfl

theorem exec_clearTable {s : State} (hfree : (s.links.get .m).reply = none) (g n : Byte) (t : Tick) (o : Sched) :
    exec (.clearTable .m g n t o) s =
      .next (replied .m .clearTable g (reqClearTable o n.toNat { s with now := t })) := by
  refine congrArg Host.Outcome.next (arrives_eq .clearTable hfree rfl rfl ?_ g)
  rw [← beNat_byte n]
  rfl

/-- Settles O48: the channel is put cleared, and a cleared channel is in no danger. -/
theorem tableIsCleared : Obligations.TableIsCleared := by
  intro g n t o s hfree
  refine ⟨fun hn => ?_, fun q hq => ?_⟩
  · rw [exec_clearTable hfree, reqClearTable, chanOf_none hn]
    rfl
  · have hc : n.toNat = chanNumber q := by cases q <;> exact hq
    generalize hold : s.vwa.chans.get q = old
    generalize hcl : clearChannel false t old = c
    have hd : inDanger c = false := hcl ▸ clearChannel_inDanger ..
    obtain ⟨hs, hr⟩ := putChan_mild o q { s with now := t } hd
    have hreq : reqClearTable o n.toNat { s with now := t } = okWith (putChan o q c { s with now := t }) [] := by
      rw [reqClearTable, hc, chanOf_number, ← hcl, ← hold]
    generalize hv : putChan o q c { s with now := t } = v at hs hr hreq
    have hget : ∀ j, v.vwa.chans.get j = if j = q then settleChannel (s.set.action q) c else s.vwa.chans.get j :=
      fun j => (congrArg (fun w : Vwa => w.chans.get j) hs.vwa).trans (chanPut_get q j c { s with now := t })
    have hself := hget q
    rw [if_pos rfl] at hself
    refine ⟨replied .m .clearTable g (okWith v []), settleChannel (s.set.action q) c, ?_, hs.now, hself.symm, ?_⟩
    · rw [exec_clearTable hfree, hreq]
    · have hrest : (∀ j : Chan, j ≠ q → v.vwa.chans.get j = s.vwa.chans.get j) := fun j hj => by rw [hget, if_neg hj]
      have hreply : (replied .m .clearTable g (okWith v [])).links.m.reply =
          some { frame := frameOf [0x30#8, g, 0x00#8], started := t } :=
        (startReply_reply .m _ v).trans (by rw [hs.now]; rfl)
      by_cases h : old.state = .paused ∨ old.state = .sensorFault
      · rw [clearChannel_stopped h] at hcl
        subst hcl
        exact ⟨rfl, rfl, rfl, rfl, rfl, rfl, rfl, rfl, rfl, rfl, rfl, fun _ => ⟨rfl, rfl⟩,
          fun hp hf => (h.elim hp hf).elim, hrest, hreply, hs.msy, hs.meu, hs.stu, hs.dsq, hr, hs.set⟩
      · obtain ⟨hp, hf⟩ := not_or.mp h
        rw [clearChannel_learning hp hf, deadlineFrom_eq] at hcl
        subst hcl
        exact ⟨rfl, rfl, rfl, rfl, rfl, rfl, rfl, rfl, rfl, rfl, rfl, fun h => (h.elim hp hf).elim,
          fun _ _ => ⟨rfl, rfl, rfl, Bool.and_false _, rfl⟩, hrest, hreply, hs.msy, hs.meu, hs.stu, hs.dsq, hr, hs.set⟩

/-! ### START -/

theorem exec_start {s : State} (hfree : (s.links.get .c).reply = none) (g : Byte) (t : Tick) (o : Sched) :
    exec (.start .c g t o) s = .next (replied .c .start g (reqStart o { s with now := t })) :=
  congrArg Host.Outcome.next (arrives_eq .start hfree rfl rfl rfl g)

/-- A refused request of the sequencer is answered with its reason, and nothing moves. -/
theorem replied_refused (st : Station) (k : ReqKind) (g : Byte) (s v : State) (r : Reason) :
    replied st k g (answered s v (.refused r)) =
      startReply st [kindCode k, g, 0x02#8, BitVec.ofNat 8 (reasonCode r)] s := rfl

/-- An accepted request of the sequencer is answered with OK. -/
theorem replied_ok (st : Station) (k : ReqKind) (g : Byte) (s v : State) :
    replied st k g (answered s v .ok) = startReply st [kindCode k, g, 0x00#8] v := rfl

theorem exec_start_refused {s : State} {r : Reason} (hfree : (s.links.get .c).reply = none) (g : Byte) (t : Tick)
    (o : Sched) (h : startTest s.startView s.dsq = .refused r) :
    exec (.start .c g t o) s = .next (startReply .c [0x11#8, g, 0x02#8, BitVec.ofNat 8 (reasonCode r)] { s with now := t }) := by
  have hw : startTest ({ s with now := t } : State).startView ({ s with now := t } : State).dsq = .refused r := h
  rw [exec_start hfree, reqStart, hw, replied_refused]
  rfl

/-- Settles O44: START by its tests in their order, and the move into CLOSING, an entry at which nothing is applied. -/
theorem startIsTestedAndTaken : Obligations.StartIsTestedAndTaken := by
  refine ⟨?_, ?_⟩
  · intro g t o s refused readyA readyB hfree hrefused hA hB
    have hno : ∀ r : Reason, startTest s.startView s.dsq = .refused r →
        exec (.start .c g t o) s = refused (BitVec.ofNat 8 (reasonCode r)) := fun r hr => by
      rw [exec_start_refused hfree g t o hr, hrefused]
    have hready : ∀ c : Conv, convReady c = true ↔ c.state = .off ∧ c.fault = false ∧ c.faultCond = false := fun c => by
      simp [convReady, and_assoc]
    rw [← hready] at hA hB
    refine ⟨fun hd => hno .wrongState ?_, fun hd => ⟨fun hf => hno .releasing ?_, fun hw hc => ?_⟩⟩
    · simp [startTest, hd]
    · have hfree : contactorFree s.dsq = false := by
        rcases hf with hf | hf <;> simp [contactorFree, hf]
      simp [startTest, hd, hfree]
    have hfree : contactorFree s.dsq = true := (contactorFree_iff _).mpr ⟨hw, hc⟩
    refine ⟨fun hp => hno .noPermit ?_, fun hp => ⟨fun hl => hno .notLocked ?_, fun hl => ⟨fun ha => hno .episodeActive ?_,
      fun ha hboth hone => hno .notReady ?_⟩⟩⟩
    · simp [startTest, State.startView, hd, hfree, hp]
    · simp [startTest, State.startView, hd, hfree, hp, hl]
    · simp [startTest, State.startView, hd, hfree, hp, hl, ha]
    · rw [hA, hB] at hboth hone
      have hv : ((convReady s.cca && convReady s.ccb) || (s.set.singleDrive && (convReady s.cca || convReady s.ccb))) = false := by
        rw [← Bool.not_eq_true]
        simpa using ⟨by simpa using hboth, by simpa using hone⟩
      simp [startTest, State.startView, hd, hfree, hp, hl, ha, hv]
  · intro g t o s hfree hd he hw hc hp hl ha hready
    have hok : startTest ({ s with now := t } : State).startView ({ s with now := t } : State).dsq = .ok := by
      have hfree : contactorFree s.dsq = true := (contactorFree_iff _).mpr ⟨hw, hc⟩
      have hv : ((convReady s.cca && convReady s.ccb) || (s.set.singleDrive && (convReady s.cca || convReady s.ccb))) = true := by
        simpa using hready
      simp [startTest, State.startView, hd, hfree, hp, hl, ha, hv]
    have hquiet : quietEntry (dsqStart s.dsq).drive s.set := quietEntry_running rfl _
    have hne : (dsqStart s.dsq).drive ≠ s.dsq.drive := fun h => nomatch (h.trans hd : Drive.closing = .blocked)
    have hmove := moveDrive_quiet o (d := dsqStart s.dsq) (s := { s with now := t }) hne hquiet
    refine ⟨startReply .c [0x11#8, g, 0x00#8] (quietMove (dsqStart s.dsq) { s with now := t }), ?_, ?_⟩
    · rw [exec_start hfree, reqStart, hok, replied_ok, hmove]
      rfl
    have hdsq : dsqStart s.dsq = { s.dsq with drive := .closing, contactor := true, closeCount := 0, coast := .stopped } := by
      have hkeep : { s.dsq with enable := false } = s.dsq := by rw [← he]
      rw [← hkeep]
      rfl
    have hstu : stuDrive s.set s.vwa.level s.dsq.drive (dsqStart s.dsq).drive s.stu = { stuIdle s.stu with trim := 0 } := by
      rw [hd]
      rfl
    have hconv : ∀ c, convTakeEnable s.dsq.enable (dsqStart s.dsq).enable s.msy.sync c = c := fun c => by
      rw [he]
      rfl
    have hnoticed : ∀ k : Station, k ≠ .m →
        .driveState ∈ ((quietMove (dsqStart s.dsq) { s with now := t }).links.get k).notices := fun k hk =>
      (quietMove_noticed _ _ hk).1
    exact ⟨hdsq, hstu, rfl, rfl, rfl, startReply_reply .c _ (quietMove _ _), hnoticed .c (by decide),
      hnoticed .p (by decide), rfl, rfl, rfl, hconv _, hconv _, rfl, rfl⟩

/-! ### STOP, TO AUX and FROM AUX -/

theorem exec_stop {s : State} (hfree : (s.links.get .c).reply = none) (g : Byte) (t : Tick) (o : Sched) :
    exec (.stop .c g t o) s = .next (replied .c .stop g (reqStop o { s with now := t })) :=
  congrArg Host.Outcome.next (arrives_eq .stop hfree rfl rfl rfl g)

theorem exec_toAux {s : State} (hfree : (s.links.get .c).reply = none) (g : Byte) (t : Tick) (o : Sched) :
    exec (.toAux .c g t o) s = .next (replied .c .toAux g (reqToAux o { s with now := t })) :=
  congrArg Host.Outcome.next (arrives_eq .toAux hfree rfl rfl rfl g)

theorem exec_fromAux {s : State} (hfree : (s.links.get .c).reply = none) (g : Byte) (t : Tick) (o : Sched) :
    exec (.fromAux .c g t o) s = .next (replied .c .fromAux g (reqFromAux o { s with now := t })) :=
  congrArg Host.Outcome.next (arrives_eq .fromAux hfree rfl rfl rfl g)

/-- What a move of the drive by an accepted request leaves, behind the reply. -/
theorem replied_move (o : Sched) (k : ReqKind) (g : Byte) (t : Tick) (d : Dsq) (s v : State)
    (hv : v = moveDrive o d { s with now := t }) : ∃ u, replied .c k g (answered { s with now := t } v .ok) = u ∧
      u.dsq = d ∧ u.stu = v.stu ∧ u.cca = v.cca ∧ u.ccb = v.ccb ∧
      u.links.c.reply = some { frame := frameOf [kindCode k, g, 0x00#8], started := t } ∧ u.msy = s.msy ∧ u.meu = s.meu := by
  have hbase := moveDrive_base o d { s with now := t }
  have hunits := moveDrive_units o d { s with now := t }
  rw [← hv] at hbase hunits
  refine ⟨_, replied_ok .c k g _ _, hunits.1, rfl, rfl, rfl, ?_, hbase.msy, hbase.meu⟩
  have hnow : v.now = t := hbase.now
  exact (startReply_reply .c _ v).trans (by rw [hnow])

/-- The breakaway window closes as the drive leaves STARTING. -/
theorem stuDrive_stopping_window (z : SetTable) (level : Nat) {old : Drive} (u : Stu) :
    (stuDrive z level old .stopping u).window = if old = .starting then none else u.window := by
  unfold stuDrive
  rw [if_neg (by decide)]
  split
  · unfold stuCloseWindow
    split
    · assumption
    · rw [(stuReform_rest ..).1]
  · rfl

/-- Without the speed loop an apply leaves the demand. -/
theorem handStopped_demand {drive : Drive} (h : loopRuns drive = false) (ids : List Nat) (s : State) :
    (handStopped drive ids s).stu.td = s.stu.td := by
  have hthermal : ∀ u, (handThermal u).stu.td = u.stu.td := fun u => (congrArg Stu.td (handThermal_same u).stu :)
  have hreform : ∀ z level u, (stuReform z level drive u).td = u.td := fun z level u => by
    rw [stuReform, h, Bool.false_and, if_neg Bool.false_ne_true]
  unfold handStopped
  dsimp only
  generalize hs1 : (if ids.contains 21 || ids.contains 22 then handAngles s else s) = s1
  have h1 : s1.stu = s.stu := by
    rw [← hs1]
    split <;> rfl
  generalize hs2 : (if ids.any (fun id => decide (49 ≤ id) && decide (id ≤ 53)) then
    { s1 with stu := stuReform s1.set s1.vwa.level drive s1.stu } else s1) = s2
  have h2 : s2.stu.td = s.stu.td := by
    rw [← hs2, ← h1]
    split
    · exact hreform ..
    · rfl
  split
  · rw [hthermal, h2]
  · exact h2

theorem setEntry_demand {old new : Drive} (h : loopRuns old = false) (s : State) :
    (setEntry old new s).stu.td = s.stu.td ∧ (setEntry old new s).stu.rr = s.stu.rr := by
  have hr := (setEntry_handed old new s).2.2.2.rest
  refine ⟨?_, ?_⟩
  · unfold setEntry
    split
    · rw [handStopped_demand h]
      exact congrArg Stu.td (tellOwners_same _ { s with set := { applyClasses atEntry s.set with driveView := new } }).stu
    · rfl
  · generalize (setEntry old new s).stu = w at hr ⊢
    rw [← hr]

/-- Into AUX the torque is 0, whatever is applied at the entry. -/
theorem moveDrive_aux_demand (o : Sched) {d : Dsq} {s : State} (hd : d.drive = .aux) (hs : s.dsq.drive = .blocked) :
    (moveDrive o d s).stu.rr = 0 ∧ (moveDrive o d s).stu.td = 0 := by
  have hidle : ∀ z level u, stuDrive z level s.dsq.drive d.drive u = stuIdle u := fun z level u => by
    rw [hd, hs]
    rfl
  unfold moveDrive
  rw [if_neg (by rw [hd, hs]; decide)]
  split
  · have hset := setEntry_units s.dsq.drive d.drive { s with dsq := d }
    rw [driveTold_stu, hset.1, hidle]
    exact ⟨rfl, rfl⟩
  · have htold := driveTold_stu s.dsq { s with dsq := d }
    rw [hidle] at htold
    obtain ⟨htd, hrr⟩ := setEntry_demand (old := d.drive) (new := d.drive) (by rw [hd]; rfl) (driveTold s.dsq { s with dsq := d })
    rw [hrr, htd, htold]
    exact ⟨rfl, rfl⟩

theorem exec_stop_refused {s : State} {r : Reason} (hfree : (s.links.get .c).reply = none) (g : Byte) (t : Tick)
    (o : Sched) (h : stopTest s.dsq = .refused r) :
    exec (.stop .c g t o) s = .next (startReply .c [0x12#8, g, 0x02#8, BitVec.ofNat 8 (reasonCode r)] { s with now := t }) := by
  have hw : stopTest ({ s with now := t } : State).dsq = .refused r := h
  rw [exec_stop hfree, reqStop, hw, replied_refused]
  rfl

theorem exec_toAux_refused {s : State} {r : Reason} (hfree : (s.links.get .c).reply = none) (g : Byte) (t : Tick)
    (o : Sched) (h : toAuxTest s.stu.s s.dsq = .refused r) :
    exec (.toAux .c g t o) s = .next (startReply .c [0x13#8, g, 0x02#8, BitVec.ofNat 8 (reasonCode r)] { s with now := t }) := by
  have hw : toAuxTest ({ s with now := t } : State).stu.s ({ s with now := t } : State).dsq = .refused r := h
  rw [exec_toAux hfree, reqToAux, hw, replied_refused]
  rfl

/-- STOP accepted: the move of the drive that `dsqStop` gives, and OK. -/
theorem exec_stop_ok {s : State} (hfree : (s.links.get .c).reply = none) (g : Byte) (t : Tick) (o : Sched)
    (h : stopTest s.dsq = .ok) : ∃ u, exec (.stop .c g t o) s = .next u ∧ u.dsq = dsqStop s.dsq ∧
      u.stu = (moveDrive o (dsqStop s.dsq) { s with now := t }).stu ∧
      u.cca = (moveDrive o (dsqStop s.dsq) { s with now := t }).cca ∧
      u.ccb = (moveDrive o (dsqStop s.dsq) { s with now := t }).ccb ∧
      u.links.c.reply = some { frame := frameOf [0x12#8, g, 0x00#8], started := t } ∧ u.msy = s.msy ∧ u.meu = s.meu := by
  have hw : stopTest ({ s with now := t } : State).dsq = .ok := h
  obtain ⟨u, he, hu⟩ := replied_move o .stop g t (dsqStop s.dsq) s _ rfl
  refine ⟨u, ?_, hu⟩
  rw [exec_stop hfree, reqStop, hw, ← he]

/-- Settles O45: each request by its test, and the accepted ones by the move they make. -/
theorem stopAndAuxiliaryByDriveState : Obligations.StopAndAuxiliaryByDriveState := by
  refine ⟨fun g t o s hfree => ⟨fun hd => ?_, fun hd => ?_, fun hd => ?_, fun hd hc hw => ?_⟩,
    fun g t o s hfree => ⟨fun hd => ?_, fun hd hf => ?_, fun hd hw hc hs => ?_, fun hd hw hc hs => ?_, fun hd => ?_,
      fun hd hc => ?_⟩⟩
  · have htest : stopTest ({ s with now := t } : State).dsq = .ok := by rcases hd with hd | hd <;> simp [stopTest, hd]
    have hstop : dsqStop s.dsq = s.dsq := by rcases hd with hd | hd <;> simp [dsqStop, hd]
    rw [exec_stop hfree, reqStop, htest, replied_ok]
    have hmove := moveDrive_stay o (d := dsqStop s.dsq) (s := { s with now := t }) (congrArg Dsq.drive hstop)
    rw [hstop] at hmove
    change Host.Outcome.next (startReply _ _ (moveDrive o (dsqStop s.dsq) { s with now := t })) = _
    rw [hstop, hmove]
    rfl
  · exact exec_stop_refused hfree g t o (r := .wrongState) (by rcases hd with hd | hd | hd <;> simp [stopTest, hd])
  · obtain ⟨u, he, hdsq, hstu, ha, hb, hreply, hmsy, hmeu⟩ :=
      exec_stop_ok hfree g t o (by rcases hd with hd | hd <;> simp [stopTest, hd])
    have hstop : dsqStop s.dsq = { s.dsq with drive := .stopping, enable := true, coast := .stopped } := by
      rcases hd with hd | hd <;> simp [dsqStop, hd, dsqEnter, enableOf, coastAtEntry, waitAtEntry]
    have hne : (dsqStop s.dsq).drive ≠ s.dsq.drive := by rcases hd with hd | hd <;> simp [hstop, hd]
    have hmove := moveDrive_quiet o (d := dsqStop s.dsq) (s := { s with now := t }) hne
      (quietEntry_running (by rw [hstop]; rfl) _)
    rw [hmove, hstop] at hstu ha hb
    refine ⟨u, he, hdsq.trans hstop, fun hen => ?_, ?_, hreply, hmsy, hmeu⟩
    · have hconv : ∀ c, convTakeEnable s.dsq.enable true s.msy.sync c = c := fun c => by rw [hen, convTakeEnable_same]
      exact ⟨ha.trans (hconv _), hb.trans (hconv _)⟩
    · rw [hstu]
      exact stuDrive_stopping_window ..
  · obtain ⟨u, he, hdsq, -, -, -, hreply, hmsy, hmeu⟩ :=
      exec_stop_ok hfree g t o (by rcases hd with hd | hd <;> simp [stopTest, hd])
    refine ⟨u, he, hdsq.trans ?_, hreply, hmsy, hmeu⟩
    rcases hd with hd | hd <;>
      simp [dsqStop, hd, dsqEnter, enableOf, coastAtEntry, waitAtEntry, exitAt, hc, hw]
  · exact exec_toAux_refused hfree g t o (r := .wrongState) (by simp [toAuxTest, hd])
  · have hfree' : contactorFree s.dsq = false := by rcases hf with hf | hf <;> simp [contactorFree, hf]
    exact exec_toAux_refused hfree g t o (r := .releasing) (by simp [toAuxTest, hd, hfree'])
  · have hfree' : contactorFree s.dsq = true := (contactorFree_iff _).mpr ⟨hw, hc⟩
    exact exec_toAux_refused hfree g t o (r := .notStill) (by simp [toAuxTest, hd, hfree', hs])
  · have hfree' : contactorFree s.dsq = true := (contactorFree_iff _).mpr ⟨hw, hc⟩
    have htest : toAuxTest ({ s with now := t } : State).stu.s ({ s with now := t } : State).dsq = .ok := by
      simp [toAuxTest, hd, hfree', hs]
    obtain ⟨u, he, hdsq, hstu, -, -, hreply, hmsy, hmeu⟩ := replied_move o .toAux g t (dsqToAux s.dsq) s _ rfl
    obtain ⟨hrr, htd⟩ := moveDrive_aux_demand o (d := dsqToAux s.dsq) (s := { s with now := t }) rfl hd
    refine ⟨u, ?_, hdsq, ?_, ?_, hmsy, hmeu, hreply⟩
    · rw [exec_toAux hfree, reqToAux, htest, ← he]
    · rw [hstu, hrr]
    · rw [hstu, htd]
  · have htest : fromAuxTest ({ s with now := t } : State).dsq = .refused .wrongState := by simp [fromAuxTest, hd]
    rw [exec_fromAux hfree, reqFromAux, htest, replied_refused]
    rfl
  · have htest : fromAuxTest ({ s with now := t } : State).dsq = .ok := by simp [fromAuxTest, hd]
    obtain ⟨u, he, hdsq, -, -, -, hreply, hmsy, hmeu⟩ := replied_move o .fromAux g t (dsqFromAux s.pru.active s.dsq) s _ rfl
    refine ⟨u, ?_, hdsq.trans ?_, hmsy, hmeu, hreply⟩
    · rw [exec_fromAux hfree, reqFromAux, htest, ← he]
    · cases s.pru.active <;> simp [dsqFromAux, dsqEnter, enableOf, coastAtEntry, waitAtEntry, hc]

/-! ### A trip demand -/

/-- What a trip demand leaves of the protection unit, the record unit and the links (R129). -/
theorem demand_rest (o : Sched) (c : Class) (s : State) :
    { (demand o c s).pru with view := s.pru.view, warnings := s.pru.warnings, driveView := s.pru.driveView } = s.pru ∧
    { (demand o c s).rcu with driveView := s.rcu.driveView } = s.rcu ∧ LinksRaised s (demand o c s) ∧
    (demand o c s).dsq = dsqDemand c s.dsq := by
  refine ⟨?_, ?_, ?_, (moveDrive_units ..).1⟩ <;> unfold demand <;>
    by_cases h : (dsqDemand c s.dsq).drive = s.dsq.drive
  · rw [moveDrive_stay o h]
  · exact (moveDrive_moved o h).pru.rest
  · rw [moveDrive_stay o h]
  · rw [(moveDrive_moved o h).rcu]
  · rw [moveDrive_stay o h]
    exact .of_eq rfl
  · exact (moveDrive_moved o h).links

/-- A class B demand leaves the drive TRIPPED, CONTACTOR released and no wait (R130). -/
theorem dsqDemand_b (d : Dsq) : (dsqDemand .b d).drive = .tripped ∧ (dsqDemand .b d).contactor = false ∧
    (dsqDemand .b d).wait = .none := by
  cases h : d.drive <;> simp [dsqDemand, h, dsqTripped, dsqEnter, waitAtEntry]

/-! ### TRIP -/

theorem exec_trip {s : State} (hfree : (s.links.get .p).reply = none) (g : Byte) (t : Tick) (o : Sched) :
    exec (.trip .p g t o) s = .next (replied .p .trip g (reqTrip o { s with now := t })) :=
  congrArg Host.Outcome.next (arrives_eq .trip hfree rfl rfl rfl g)

/-- The report of a station's TRIP with no episode ACTIVE: the episode opens with class B, and its demand is taken. -/
theorem takeReport_stationTrip (o : Sched) (n : Period) {s : State} (h : s.pru.active = false) :
    takeReport o .stationTrip n s = demand o .b (openEpisode .stationTrip .b s) :=
  takeReport_opens o n rfl (by decide) h

/-! ### RESET TRIP -/

theorem exec_resetTrip {s : State} (hfree : (s.links.get .p).reply = none) (g : Byte) (t : Tick) (o : Sched) :
    exec (.resetTrip .p g t o) s = .next (replied .p .resetTrip g (reqResetTrip o { s with now := t })) :=
  congrArg Host.Outcome.next (arrives_eq .resetTrip hfree rfl rfl rfl g)

/-- What RESET TRIP leaves by the answer of its tests (R155, R156). -/
def resetAnswered (g : Byte) (o : Sched) (s : State) : ResetAnswer → State
  | .ok => startReply .p [0x23#8, g, 0x00#8] (episodeEnds o s)
  | .refused r => startReply .p [0x23#8, g, 0x02#8, BitVec.ofNat 8 (reasonCode r)] s
  | .present k => startReply .p [0x23#8, g, 0x02#8, 0x0A#8, BitVec.ofNat 8 (causeCode k)] s

theorem exec_resetTrip_answer {s : State} (hfree : (s.links.get .p).reply = none) (g : Byte) (t : Tick) (o : Sched)
    {a : ResetAnswer} (h : resetTest (readByP s.pru.record s.rcu) s.pru = a) :
    exec (.resetTrip .p g t o) s = .next (resetAnswered g o { s with now := t } a) := by
  have hw : resetTest (readByP ({ s with now := t } : State).pru.record ({ s with now := t } : State).rcu)
      ({ s with now := t } : State).pru = a := h
  rw [exec_resetTrip hfree, reqResetTrip, hw]
  cases a <;> rfl

theorem causePresent_none {p : Pru} (h : ∀ e ∈ p.latched, e.kind ∉ p.view) : causePresent p = none := by
  simpa [causePresent] using h

/-- The first latched kind whose condition holds is the one named (R155). -/
theorem causePresent_first {p : Pru} {before after : List Latch} {e : Latch} (hl : p.latched = before ++ e :: after)
    (hb : ∀ l ∈ before, l.kind ∉ p.view) (he : e.kind ∈ p.view) : causePresent p = some e.kind := by
  have hnone : (before.map Latch.kind).find? (fun k => p.view.contains k) = none := by simpa using hb
  rw [causePresent, hl, List.map_append, List.find?_append, hnone]
  simp [he]

/-- In a latched set in code order no kind before another has a higher code. -/
theorem causePresent_lowest {p : Pru} {e : Latch} (hp : tripRight p = true) (hm : e ∈ p.latched) (he : e.kind ∈ p.view)
    (hlow : ∀ l ∈ p.latched, l.kind ∈ p.view → causeCode e.kind ≤ causeCode l.kind) : causePresent p = some e.kind := by
  obtain ⟨before, after, hl⟩ := List.append_of_mem hm
  have hord := ((tripRight_iff p).mp hp).inOrder
  rw [hl, List.map_append, List.pairwise_append] at hord
  refine causePresent_first hl (fun l hlb hv => ?_) he
  have hlt := hord.2.2 _ (List.mem_map_of_mem hlb) _ (List.mem_map_of_mem List.mem_cons_self)
  have hle := hlow l (hl ▸ List.mem_append_left _ hlb) hv
  omega

theorem readByP_marked {u : Rcu} {i : SlotIx} {r : Record} (h : u.slots.get i = some r)
    (hone : ∀ j q, u.slots.get j = some q → q.number = r.number → j = i) : readByP (some r.number) u = r.marks.p := by
  unfold readByP
  dsimp only
  cases hj : slotOf r.number u with
  | none => exact absurd rfl (slotOf_eq_none hj h)
  | some j =>
    obtain ⟨q, hq, hn⟩ := slotOf_eq_some hj
    cases hone j q hq hn
    dsimp only
    rw [h]

theorem readByP_unmarked {u : Rcu} {n : Option Nat}
    (h : ∀ i r, u.slots.get i = some r → n = some r.number → r.marks.p = false) : readByP n u = false := by
  cases n with
  | none => rfl
  | some n =>
    unfold readByP
    dsimp only
    cases hj : slotOf n u with
    | none => rfl
    | some j =>
      obtain ⟨q, hq, rfl⟩ := slotOf_eq_some hj
      dsimp only
      rw [hq]
      exact h j q hq rfl

theorem rcuUnpin_pinned (u : Rcu) : (rcuUnpin u).pinned = none := by
  unfold rcuUnpin freeIfRead
  split
  · assumption
  · split
    · rfl
    · split
      · rfl
      · split <;> rfl

/-- Settles O47: TRIP opens the episode of `openEpisode` and its demand trips the drive; RESET TRIP by the answer of its
tests, accepted by the move into BLOCKED. -/
theorem tripIsOpenedAndReset : Obligations.TripIsOpenedAndReset := by
  refine ⟨fun g t o s hfree hi => ?_, fun g t o s hfree => ⟨fun hi => ?_, fun ha hd => ?_, fun k before after c ha hd hl hb hk => ?_,
    fun e he hr ha hd hv hlow => ?_, fun ha hd hl hread => ?_, fun i r ha hd hdd hen hcw hl hrec hi hone hmark => ?_⟩⟩
  · generalize hs0 : ({ s with now := t, pru := pruCond .stationTrip true { s.pru with stationCond := true } } : State) = s0
    have hi0 : s0.pru.active = false := hs0 ▸ hi
    have hrep := takeReport_stationTrip o s.pru.periodTaken hi0
    have hopen := openEpisode_eq .stationTrip .b s0
    have hnote := openEpisode_noticed .stationTrip .b s0
    have hobase := openEpisode_base .stationTrip .b s0
    generalize openEpisode .stationTrip .b s0 = s1 at hrep hopen hnote hobase
    obtain ⟨hpru, hrcu, hlinks, hdsq⟩ := demand_rest o .b s1
    have hbase := hobase.trans (moveDrive_base o (dsqDemand .b s1.dsq) s1)
    change SameBase s0 (demand o .b s1) at hbase
    generalize demand o .b s1 = v at hrep hpru hrcu hlinks hdsq hbase
    obtain ⟨hdrive, hcont, hwait⟩ := dsqDemand_b s1.dsq
    refine ⟨_, exec_trip hfree g t o, ?_⟩
    have hreq : reqTrip o { s with now := t } =
        plain { v with pru := pruCond .stationTrip false { v.pru with stationCond := false } } .ok := by
      rw [← hrep, ← hs0]
      rfl
    rw [hreq]
    have hrec : v.rcu.pinned = some s0.rcu.counter :=
      (congrArg Rcu.pinned hrcu :).trans (by rw [hopen]; exact rcuTrigger_pinned ..)
    rw [hopen] at hpru
    have hperm : v.pru.permit = s.pru.permit := (congrArg Pru.permit hpru).trans (by rw [← hs0]; rfl)
    have hview : .stationTrip ∉ (pruCond .stationTrip false { v.pru with stationCond := false }).view := by simp [pruCond]
    have hnow : v.now = t := hbase.now.trans (by rw [← hs0])
    refine ⟨hnow, (congrArg Pru.active hpru :), (congrArg Pru.cls hpru :), (congrArg Pru.firstOut hpru :),
      (congrArg Pru.latched hpru :), (congrArg Pru.trip hpru :), rfl, hview, (congrArg Pru.record hpru :).trans hrec.symm,
      hperm, (congrArg Dsq.drive hdsq).trans hdrive, (congrArg Dsq.contactor hdsq).trans hcont,
      (congrArg Dsq.wait hdsq).trans hwait, fun k => ⟨?_, ?_⟩, ?_, hbase.msy.trans (by rw [← hs0]),
      hbase.meu.trans (by rw [← hs0])⟩
    · exact startReply_noticed .p _ (s := { v with pru := _ }) ((hlinks k).notices _ (hnote k).1)
    · exact (startReply_attention .p k _ _).trans ((hlinks k).attention (hnote k).2)
    · exact (startReply_reply .p _ _).trans (by rw [← hnow]; rfl)
  · rw [exec_resetTrip_answer hfree g t o (a := .refused .noEpisode) (by simp [resetTest, hi])]
    rfl
  · rw [exec_resetTrip_answer hfree g t o (a := .refused .notStopped) (by simp [resetTest, ha, hd])]
    rfl
  · rw [exec_resetTrip_answer hfree g t o (a := .present k) (by simp [resetTest, ha, hd, causePresent_first hl hb hk])]
    rfl
  · rw [exec_resetTrip_answer hfree g t o (a := .present e.kind)
      (by simp [resetTest, ha, hd, causePresent_lowest hr he hv hlow])]
    rfl
  · rw [exec_resetTrip_answer hfree g t o (a := .refused .recordUnread)
      (by simp [resetTest, ha, hd, causePresent_none hl, readByP_unmarked hread])]
    rfl
  · have hok : resetTest (readByP s.pru.record s.rcu) s.pru = .ok := by
      simp [resetTest, ha, hd, causePresent_none hl, hrec, readByP_marked hi hone, hmark]
    have hend : dsqEpisodeEnd s.dsq = { s.dsq with drive := .blocked, coast := .stopped } := by
      have hwait : waitAtEntry .blocked s.dsq = s.dsq.wait := by
        cases hc : s.dsq.contactor <;> simp [waitAtEntry, hc]
        exact fun hw => absurd hw (hcw hc)
      have hkeep : { s.dsq with enable := false } = s.dsq := by rw [← hen]
      rw [dsqEpisodeEnd, hdd]
      dsimp only
      rw [dsqEnter, hwait, ← hkeep]
      rfl
    generalize hs0 : ({ s with now := t, pru := pruReset s.pru, rcu := rcuUnpin s.rcu } : State) = s0
    have hne : (dsqEpisodeEnd s.dsq).drive ≠ s0.dsq.drive := by
      rw [hend, ← hs0]
      exact fun h => nomatch (h.trans hdd : Drive.blocked = .tripped)
    have hm := moveDrive_moved o hne
    have hends : episodeEnds o { s with now := t } =
        raiseTo .episode [.c, .p, .m] (moveDrive o (dsqEpisodeEnd s.dsq) s0) := by
      rw [← hs0]
      rfl
    generalize moveDrive o (dsqEpisodeEnd s.dsq) s0 = v at hm hends
    have hsame := raiseTo_same .episode [.c, .p, .m] v
    have hnote := fun k : Station => (raiseTo_noticed .episode (sts := [.c, .p, .m]) (st := k) (by cases k <;> simp) v).1
    have heq := raiseTo_eq .episode [.c, .p, .m] v
    generalize raiseTo .episode [.c, .p, .m] v = w at hends hsame hnote heq
    refine ⟨startReply .p [0x23#8, g, 0x00#8] w, ?_, ?_⟩
    · rw [exec_resetTrip_answer hfree g t o hok]
      exact congrArg (fun w => Host.Outcome.next (startReply .p [0x23#8, g, 0x00#8] w)) hends
    have hpru := hm.pru.rest
    have hrcu := hm.rcu
    have hbase := hm.base.trans hsame.toSameBase
    rw [← hs0] at hpru hrcu
    have hnow : w.now = t := hbase.now.trans (by rw [← hs0])
    rw [heq]
    refine ⟨hm.base.now.trans (by rw [← hs0]), (congrArg Pru.active hpru :), (congrArg Pru.cls hpru :),
      (congrArg Pru.firstOut hpru :), (congrArg Pru.latched hpru :), (congrArg Pru.record hpru :),
      (congrArg Pru.trip hpru :), (congrArg Pru.permit hpru :), hm.dsq.trans hend, ?_, fun k => ?_, ?_,
      hm.base.msy.trans (by rw [← hs0]), hm.base.meu.trans (by rw [← hs0])⟩
    · exact (congrArg Rcu.pinned hrcu).trans (rcuUnpin_pinned _)
    · rw [← heq]
      exact startReply_noticed .p _ (hnote k)
    · rw [← heq]
      exact (startReply_reply .p _ w).trans (by rw [hnow])

/-! ### The answers of the drive states to a trip demand -/

/-- The sequencer after a demand that trips the drive (R129, R133, R135). -/
theorem dsqTripped_eq (d : Dsq) : dsqTripped d = { d with
    drive := .tripped, enable := false, coast := .stopped, auxEn := false,
    exit := (if d.drive = .coast then (if d.coast = .expired then .timeout else .trip) else d.exit),
    wait := (if d.contactor = true ∧ d.wait = .none then .zeroWait 0 else d.wait) } := by
  unfold dsqTripped dsqEnter exitAt waitAtEntry
  cases d.contactor <;> simp [enableOf, coastAtEntry]

/-- A class S demand in STARTING, RUN and STOPPING enters TRIP_STOP (R129). -/
theorem dsqDemand_s_stops {d : Dsq} (h : d.drive = .starting ∨ d.drive = .run ∨ d.drive = .stopping) :
    dsqDemand .s d = { d with drive := .tripStop, enable := true, coast := .stopped } := by
  rcases h with h | h | h <;> simp [dsqDemand, h, dsqEnter, enableOf, coastAtEntry, waitAtEntry]

theorem demand_stay (o : Sched) {c : Class} {s : State} (h : dsqDemand c s.dsq = s.dsq) : demand o c s = s := by
  have hm := moveDrive_stay o (d := dsqDemand c s.dsq) (s := s) (congrArg Dsq.drive h)
  rw [demand, hm, h]

/-- The settings table and the records see TRIP_STOP, the converters and the ramped reference stay (R120, R129). -/
theorem demand_tripStop (o : Sched) {s : State} (h : s.dsq.drive = .starting ∨ s.dsq.drive = .run ∨ s.dsq.drive = .stopping) :
    ∃ u, demand o .s s = u ∧ u.dsq = { s.dsq with drive := .tripStop, enable := true, coast := .stopped } ∧
      (s.dsq.enable = true → u.cca = s.cca ∧ u.ccb = s.ccb) ∧ u.stu.rr = s.stu.rr ∧
      u.set = { s.set with driveView := .tripStop } ∧ u.pru = { s.pru with driveView := .tripStop } ∧
      u.rcu = { s.rcu with driveView := .tripStop } ∧
      .driveState ∈ u.links.c.notices ∧ .driveState ∈ u.links.p.notices := by
  have hd := dsqDemand_s_stops h
  have hne : (dsqDemand .s s.dsq).drive ≠ s.dsq.drive := by
    rw [hd]
    rcases h with h | h | h <;> simp [h]
  have hmove := moveDrive_quiet o hne (quietEntry_running (by rw [hd]; rfl) _)
  have hnote := fun k (hk : k ≠ Station.m) => (quietMove_noticed (dsqDemand .s s.dsq) s hk).1
  rw [hd] at hmove hnote
  have hrr : (stuDrive s.set s.vwa.level s.dsq.drive .tripStop s.stu).rr = s.stu.rr := by
    have hw : ∀ w, (stuReform s.set s.vwa.level .tripStop { s.stu with window := w }).rr = s.stu.rr := fun w => by
      have hrest := (stuReform_hand s.set s.vwa.level .tripStop { s.stu with window := w }).rest
      exact (congrArg Stu.rr hrest :)
    rw [stuDrive, if_neg (by decide)]
    split
    · unfold stuCloseWindow
      split
      · rfl
      · exact hw _
    · rfl
  refine ⟨_, rfl, ?_⟩
  rw [demand, hd, hmove]
  refine ⟨rfl, fun he => ?_, hrr, rfl, rfl, rfl, hnote .c (by decide), hnote .p (by decide)⟩
  have hconv : ∀ c, convTakeEnable s.dsq.enable true s.msy.sync c = c := fun c => by rw [he, convTakeEnable_same]
  exact ⟨hconv _, hconv _⟩

/-! ### PERMIT, WITHDRAW and the lapse of the permit -/

theorem exec_permit {s : State} (hfree : (s.links.get .p).reply = none) (g : Byte) (t : Tick) (o : Sched) :
    exec (.permit .p g t o) s = .next (replied .p .permit g (reqPermit { s with now := t })) :=
  congrArg Host.Outcome.next (arrives_eq .permit hfree rfl rfl rfl g)

theorem exec_withdraw {s : State} (hfree : (s.links.get .p).reply = none) (g : Byte) (t : Tick) (o : Sched) :
    exec (.withdraw .p g t o) s = .next (replied .p .withdraw g (reqWithdraw o { s with now := t })) :=
  congrArg Host.Outcome.next (arrives_eq .withdraw hfree rfl rfl rfl g)

/-- One report alone is taken as it is. -/
theorem deliver_report (o : Sched) (k : Cause) (n : Period) (s : State) :
    deliver o [.report k n] s = takeReport o k n s := by
  have hr : reportMsgs o [.report k n] = [.report k n] := List.perm_singleton.mp (reportMsgs_perm ..)
  rw [deliver_reports, hr]
  rfl

/-- The loss of the permit is reported where the drive runs on it and PERMIT_LOST is clear (R152). -/
theorem lossReports_iff (p : Pru) : lossReports p = true ↔
    p.driveView ≠ .blocked ∧ p.driveView ≠ .tripped ∧ p.driveView ≠ .aux ∧ p.lostCond = false := by
  unfold lossReports
  cases h : p.driveView <;> simp [onPermit]

theorem lossReports_false {p : Pru}
    (h : p.driveView = .blocked ∨ p.driveView = .tripped ∨ p.driveView = .aux ∨ p.lostCond = true) :
    lossReports p = false := by
  rw [← Bool.not_eq_true, lossReports_iff]
  rintro ⟨h1, h2, h3, h4⟩
  rcases h with h | h | h | h
  · exact h1 h
  · exact h2 h
  · exact h3 h
  · rw [h4] at h
    cases h

/-- The state as PERMIT_LOST is reported: the permit is absent and the condition holds. -/
def permitLost (p : Pru) : Pru := pruCond .permitLost true { p with permit := false, permitCount := 0, lostCond := true }

/-- A report of PERMIT_LOST of a class other than W, as it is taken (R144, R145, R152). -/
theorem takeReport_permitLost (o : Sched) (n : Period) {s : State} {p : Pru} (hs : s.pru = permitLost p)
    (hc : s.set.classInForce .permitLost ≠ .w) :
    (takeReport o .permitLost n s).pru.permit = false ∧ (takeReport o .permitLost n s).pru.permitCount = 0 ∧
    (takeReport o .permitLost n s).pru.lostCond = true ∧ .permitLost ∈ (takeReport o .permitLost n s).pru.view ∧
    latchedActive .permitLost (takeReport o .permitLost n s).pru = true := by
  have hk := (takeReport_carried (K := fun _ => True) o .permitLost n s).pru
  have hown := hk.own
  rw [hs] at hown
  refine ⟨(congrArg Pru.permit hown :), (congrArg Pru.permitCount hown :), (congrArg Pru.lostCond hown :),
    (hk.view .permitLost ⟨trivial, .inl fun x h => nomatch h⟩).mpr ?_, takeReport_latches o n hc⟩
  rw [hs]
  simp [permitLost, pruCond]

/-- In an ACTIVE episode of any class a report of class S sends no demand (R145). -/
theorem takeReport_s_active (o : Sched) {k : Cause} (n : Period) {s : State} (h : s.set.classInForce k = .s)
    (ha : s.pru.active = true) (hc : s.pru.cls = some .b ∨ s.pru.cls = some .f ∨ s.pru.cls = some .s) :
    (takeReport o k n s).dsq = s.dsq := by
  have hrise : classRises .s s.pru = false := by rcases hc with hc | hc | hc <;> rw [classRises, hc] <;> rfl
  have hnone : (takeCause k n .s s).2 = none := by
    rw [takeCause, if_pos ha, latchReport, hrise]
    split <;> rfl
  rw [takeReport, judge_cause n h (by decide), hnone]
  exact (takeCause_same k n .s s).1.dsq

/-- What WITHDRAW does with the permit present (R151, R152). -/
theorem reqWithdraw_eq (o : Sched) {s : State} (hp : s.pru.permit = true) :
    reqWithdraw o s = plain (if lossReports s.pru then
        takeReport o .permitLost s.pru.periodTaken { s with pru := permitLost s.pru }
      else { s with pru := { s.pru with permit := false, permitCount := 0 } }) .ok := by
  rw [reqWithdraw, hp, if_pos rfl, lossOf]
  change plain (posted o (if lossReports s.pru then _ else _)) .ok = _
  split
  · exact congrArg (plain · .ok) (deliver_report ..)
  · exact congrArg (plain · .ok) (deliver_nil ..)

/-- What the protection unit's taking of a period event does where the permit lapses (R150, R152). -/
theorem workPru_lapses {n : Period} {s : State} (h : permitLapses s.pru = true) :
    workPru n s = if lossReports s.pru then
        ({ s with pru := permitLost { s.pru with periodTaken := n } }, [.report .permitLost n])
      else ({ s with pru := { s.pru with permit := false, permitCount := 0, periodTaken := n } }, []) := by
  rw [workPru, if_pos h, lossOf]
  rfl

theorem exec_permitLapse {o : Sched} {s : State} {t : Tick} (hn : nextPeriodEvent s.msy = some t)
    (hb : s.pru.periodTaken ≠ s.msy.period + 1#32) (hl : permitLapses s.pru = true) :
    exec (.permitLapse o) s = .next (if lossReports s.pru then
        takeReport o .permitLost (s.msy.period + 1#32)
          { s with now := t, issued := s.edgeNoted t, pru := permitLost { s.pru with periodTaken := s.msy.period + 1#32 } }
      else
        { s with now := t, issued := s.edgeNoted t,
                 pru := { s.pru with permit := false, permitCount := 0, periodTaken := s.msy.period + 1#32 } }) := by
  refine congrArg Host.Outcome.next ?_
  rw [takeAhead_due (b := .pru) hn hb hl, periodWork, Flow.perform_now,
    workPru_lapses (s := { s with now := t, issued := s.edgeNoted t }) hl]
  split <;> rfl

/-- Settles O46: PERMIT and WITHDRAW by their effect, the demands by `dsqDemand`, and the lapse as the protection unit's
period work. -/
theorem permitIsGivenAndLost : Obligations.PermitIsGivenAndLost := by
  refine ⟨fun g t o s hfree => ⟨fun hl => ?_, fun hl => ?_, fun hp => ?_, fun hp hq => ?_, fun hp hb ht ha hl hc => ?_⟩,
    fun o s d hd => ?_,
    fun o s t hn hb hp hcount => ⟨fun hq => ?_, fun hbl ht ha hl hc => ?_⟩⟩
  · rw [exec_permit hfree, reqPermit, if_neg (by simp [hl])]
    simp [replied, plain, pruPermit, hl, kindCode, statusCode]
  · rw [exec_permit hfree, reqPermit, if_pos hl]
    simp [replied, plain, pruPermit, kindCode, statusCode, takeCond, pruCond, dropCause]
  · rw [exec_withdraw hfree, reqWithdraw, if_neg (by simp [hp])]
    rfl
  · rw [exec_withdraw hfree, reqWithdraw_eq o (s := { s with now := t }) hp, if_neg (by simp [lossReports_false hq])]
    rfl
  · have hloss : lossReports s.pru = true := (lossReports_iff _).mpr ⟨hb, ht, ha, hl⟩
    have hreq := reqWithdraw_eq o (s := { s with now := t }) hp
    rw [if_pos hloss] at hreq
    generalize hs1 : ({ s with now := t, pru := permitLost s.pru } : State) = s1
    have hpru : s1.pru = permitLost s.pru := hs1 ▸ rfl
    have hdsq : s1.dsq = s.dsq := hs1 ▸ rfl
    have hset : s1.set = s.set := hs1 ▸ rfl
    rw [← hset] at hc
    obtain ⟨h1, h2, h3, h4, h5⟩ := takeReport_permitLost o s.pru.periodTaken hpru hc
    have hbase := takeReport_base o .permitLost s.pru.periodTaken s1
    have hnow : (takeReport o .permitLost s.pru.periodTaken s1).now = t := hbase.now.trans (hs1 ▸ rfl)
    refine ⟨replied .p .withdraw g (plain (takeReport o .permitLost s.pru.periodTaken s1) .ok), ?_, hnow, h1, h2, h3, h4, h5,
      ?_, hbase.msy.trans (hs1 ▸ rfl), hbase.meu.trans (hs1 ▸ rfl), fun hs hi => ?_, fun hs hact hcls => ?_⟩
    · rw [exec_withdraw hfree, hreq, ← hs1]
    · exact (startReply_reply .p _ _).trans (by rw [← hnow]; rfl)
    · have hi1 : s1.pru.active = false := hs1 ▸ hi
      have hopen := openEpisode_eq .permitLost .s s1
      have hosame := (openEpisode_same .permitLost .s s1).dsq.trans hdsq
      have hrep := takeReport_opens o s.pru.periodTaken (hset ▸ hs) (by decide) hi1
      obtain ⟨hdp, -, -, hdd⟩ := demand_rest o .s (openEpisode .permitLost .s s1)
      rw [← hrep] at hdp hdd
      rw [hopen] at hdp
      rw [hosame] at hdd
      refine ⟨(congrArg Pru.cls hdp :), (congrArg Pru.firstOut hdp :), fun hd => hdd.trans (dsqDemand_s_stops hd),
        fun hd => hdd.trans ?_⟩
      rcases hd with hd | hd | hd <;> simp [dsqDemand, hd]
    · have hact1 : s1.pru.active = true := hs1 ▸ hact
      have hcls1 : s1.pru.cls = some .b ∨ s1.pru.cls = some .f ∨ s1.pru.cls = some .s := hs1 ▸ hcls
      exact (takeReport_s_active o _ (hset ▸ hs) hact1 hcls1).trans hdsq
  · have hd : d = dsqTripped s.dsq := hd.trans (dsqTripped_eq _).symm
    have hdem : ∀ c, (demand o c s).dsq = dsqDemand c s.dsq := fun c => (demand_rest o c s).2.2.2
    simp only [hdem]
    refine ⟨fun hs => ⟨demand_tripStop o hs, ?_⟩, fun hs => ⟨?_, ?_⟩, fun hs => ⟨demand_stay o ?_, ?_⟩,
      fun hs => ⟨demand_stay o ?_, demand_stay o ?_⟩, fun hs => ?_, fun hs => ?_⟩
    · rcases hs with hs | hs | hs <;> simp [dsqDemand, hs, hd]
    · rcases hs with hs | hs | hs <;> simp [dsqDemand, hs, hd]
    · rcases hs with hs | hs | hs <;> simp [dsqDemand, hs, hd]
    · simp [dsqDemand, hs]
    · simp [dsqDemand, hs, hd]
    · rcases hs with hs | hs <;> simp [dsqDemand, hs]
    · rcases hs with hs | hs <;> simp [dsqDemand, hs]
    · have hb : dsqDemand .b s.dsq = { s.dsq with contactor := false, wait := .none } := by simp [dsqDemand, hs]
      have hm := moveDrive_stay o (d := dsqDemand .b s.dsq) (s := s) (by rw [hb])
      rw [demand, hm, hb]
    · have hb : dsqDemand .b s.dsq = dsqTripped { s.dsq with contactor := false, wait := .none } := by
        cases h : s.dsq.drive <;> simp_all [dsqDemand]
      rw [hb, hd, dsqTripped_eq, dsqTripped_eq]
      simp
  · have hl : permitLapses s.pru = true := by simp [permitLapses, hp, hcount]
    rw [exec_permitLapse hn hb hl, if_neg (by simp [lossReports_false hq])]
  · have hloss : lossReports s.pru = true := (lossReports_iff _).mpr ⟨hbl, ht, ha, hl⟩
    have hlapse : permitLapses s.pru = true := by simp [permitLapses, hp, hcount]
    have hexec := exec_permitLapse (o := o) hn hb hlapse
    rw [if_pos hloss] at hexec
    refine ⟨_, hexec, (takeReport_base ..).now, ?_⟩
    obtain ⟨h1, h2, h3, h4, h5⟩ := takeReport_permitLost o (s.msy.period + 1#32) (p := { s.pru with periodTaken := s.msy.period + 1#32 })
      (s := { s with now := t, issued := s.edgeNoted t, pru := permitLost { s.pru with periodTaken := s.msy.period + 1#32 } }) rfl hc
    exact ⟨h1, h2, h3, h4, h5, (takeReport_base ..).msy⟩

end Sys2Proof.Machine
end

section
/-! Reports of causes: two that meet, in either order, and the line EXT_TRIP. -/

namespace Sys2Proof.Machine

/-! ### The latched set -/

theorem putLatch_nodup (k : Cause) (c : Class) (ls : List Latch) : ((putLatch k c ls).map Latch.kind).Nodup :=
  kinds_nodup (putLatch_inOrder k c ls)

/-- The entry of a kind after a latching. -/
theorem latchOf_putLatch (j k : Cause) (c : Class) (ls : List Latch) :
    latchOf j (putLatch k c ls) = if j = k then some { kind := k, cls := c } else latchOf j ls := by
  have hin : ∀ e, e ∈ putLatch k c ls → latchOf e.kind (putLatch k c ls) = some e :=
    fun e he => latchOf_of_mem (putLatch_nodup k c ls) he
  split
  · subst j
    exact hin _ (mem_putLatch.mpr (.inl rfl))
  · rename_i hj
    cases hl : latchOf j ls with
    | some e =>
      obtain ⟨-, rfl⟩ := mem_latchOf hl
      exact hin e (mem_putLatch.mpr (.inr ⟨hj, hl⟩))
    | none =>
      by_contra hs
      obtain ⟨e, he⟩ := Option.ne_none_iff_exists'.mp hs
      obtain ⟨hm, rfl⟩ := mem_latchOf he
      rcases mem_putLatch.mp hm with rfl | ⟨-, hm⟩
      · exact hj rfl
      · rw [hl] at hm
        cases hm

theorem putLatch_comm {j k : Cause} (h : j ≠ k) (c d : Class) (ls : List Latch) :
    putLatch k d (putLatch j c ls) = putLatch j c (putLatch k d ls) := by
  refine List.filterMap_congr fun x _ => ?_
  simp only [latchOf_putLatch]
  by_cases hk : x = k
  · subst x
    simp [h.symm]
  · simp [hk]

/-! ### The episode after a report -/

/-- The report of `k` adds to the latched set of the ACTIVE episode or strengthens it (R145). -/
def latches (k : Cause) (c : Class) (ls : List Latch) : Bool :=
  match latchOf k ls with
  | none => true
  | some e => stronger c e.cls

/-- The protection unit after a report of class `c`, its demand apart; an episode that opens has the record `n` (R144,
R145). -/
def pruReport (k : Cause) (c : Class) (n : Nat) (p : Pru) : Pru :=
  if p.active then if latches k c p.latched then pruLatch k c p else p
  else { pruOpen k c p with record := some n }

theorem latchReport_pru (k : Cause) (n : Period) (c : Class) (s : State) :
    (latchReport k n c s).1.pru = if latches k c s.pru.latched then pruLatch k c s.pru else s.pru := by
  unfold latchReport latchingOf latches
  cases latchOf k s.pru.latched with
  | none => exact classRise_pru ..
  | some e =>
    by_cases h : stronger c e.cls = true
    · simp only [h, if_true, classRise_pru]
    · simp only [h, Bool.false_eq_true, if_false]

theorem takeCause_pru (k : Cause) (n : Period) (c : Class) (s : State) :
    (takeCause k n c s).1.pru = pruReport k c s.rcu.counter s.pru := by
  unfold takeCause pruReport
  split
  · exact latchReport_pru ..
  · rw [openEpisode_eq]

theorem SameEpisode.trans {p q r : Pru} (h : SameEpisode p q) (k : SameEpisode q r) : SameEpisode p r :=
  ⟨k.active.trans h.active, k.cls.trans h.cls, k.firstOut.trans h.firstOut, k.latched.trans h.latched,
   k.record.trans h.record, k.trip.trans h.trip⟩

theorem demand_episode (o : Sched) (c : Class) (s : State) : SameEpisode s.pru (demand o c s).pru := by
  have h := (demand_rest o c s).1
  exact ⟨(congrArg Pru.active h :), (congrArg Pru.cls h :), (congrArg Pru.firstOut h :), (congrArg Pru.latched h :),
    (congrArg Pru.record h :), (congrArg Pru.trip h :)⟩

theorem takeReport_episode (o : Sched) {k : Cause} (n : Period) {s : State} (h : s.set.classInForce k ≠ .w) :
    SameEpisode (pruReport k (s.set.classInForce k) s.rcu.counter s.pru) (takeReport o k n s).pru := by
  rw [← takeCause_pru k n, ← judge_cause n rfl h]
  rcases takeReport_eq o k n s with he | ⟨c, he⟩ <;> rw [he]
  · exact .refl _
  · exact demand_episode ..

/-- The report's effect reads the episode alone. -/
theorem pruReport_congr {p q : Pru} (h : SameEpisode p q) (k : Cause) (c : Class) (n : Nat) :
    SameEpisode (pruReport k c n p) (pruReport k c n q) := by
  have hr : classRises c q = classRises c p := by rw [classRises, h.cls, classRises]
  unfold pruReport
  rw [h.active, h.latched]
  split
  · split
    · exact ⟨h.active, by simp only [pruLatch, hr, h.cls], h.firstOut, by simp only [pruLatch, h.latched], h.record,
        by simp only [pruLatch, h.trip]⟩
    · exact h
  · exact ⟨rfl, rfl, rfl, rfl, rfl, rfl⟩

/-- The class of the episode with a further report of class `c` (R145). -/
def riseTo (c : Class) (d : Option Class) : Option Class :=
  match d with
  | none => some c
  | some d => if stronger c d then some c else some d

theorem pruLatch_cls (k : Cause) (c : Class) (p : Pru) : (pruLatch k c p).cls = riseTo c p.cls := by
  unfold pruLatch classRises riseTo
  cases h : p.cls with
  | none => rfl
  | some d => rfl

theorem riseTo_comm (c d : Class) (e : Option Class) : riseTo c (riseTo d e) = riseTo d (riseTo c e) := by
  cases c <;> cases d <;> rcases e with _ | (_ | _ | _ | _) <;> rfl

/-- Two reports in an ACTIVE episode latch the same in either order. -/
theorem pruReport_comm_active {j k : Cause} (hjk : j ≠ k) (c d : Class) (m n m' n' : Nat) {p : Pru} (ha : p.active = true) :
    (pruReport k d n (pruReport j c m p)).active = true ∧
    (pruReport k d n (pruReport j c m p)).latched = (pruReport j c m' (pruReport k d n' p)).latched ∧
    (pruReport k d n (pruReport j c m p)).cls = (pruReport j c m' (pruReport k d n' p)).cls ∧
    (pruReport k d n (pruReport j c m p)).trip = (pruReport j c m' (pruReport k d n' p)).trip := by
  have hone : ∀ (i : Cause) (e : Class) (l : Nat) {q : Pru}, q.active = true →
      pruReport i e l q = if latches i e q.latched then pruLatch i e q else q := fun i e l q hq => if_pos hq
  have hk : latches k d (pruLatch j c p).latched = latches k d p.latched := by
    simp only [latches, pruLatch, latchOf_putLatch, if_neg hjk.symm]
  have hj : latches j c (pruLatch k d p).latched = latches j c p.latched := by
    simp only [latches, pruLatch, latchOf_putLatch, if_neg hjk]
  rw [hone j c m ha, hone k d n' ha]
  cases hlj : latches j c p.latched <;> cases hlk : latches k d p.latched <;>
    simp only [Bool.false_eq_true, if_true, if_false]
  · rw [hone k d n ha, hone j c m' ha, hlk, hlj]
    exact ⟨ha, rfl, rfl, rfl⟩
  · rw [hone k d n ha, hone j c m' (q := pruLatch k d p) ha, hlk, hj, hlj]
    exact ⟨ha, rfl, rfl, rfl⟩
  · rw [hone k d n (q := pruLatch j c p) ha, hone j c m' ha, hk, hlk, hlj]
    exact ⟨ha, rfl, rfl, rfl⟩
  · rw [hone k d n (q := pruLatch j c p) ha, hone j c m' (q := pruLatch k d p) ha, hk, hlk, hj, hlj]
    refine ⟨ha, putLatch_comm hjk .., ?_, ?_⟩
    · simp only [if_true, pruLatch_cls, riseTo_comm]
    · simp only [if_true, pruLatch, Bool.or_right_comm]

/-- Two reports with no episode ACTIVE latch the same in either order, with the stronger class. -/
theorem pruReport_comm_clear {j k : Cause} (hjk : j ≠ k) (c d : Class) (m n m' n' : Nat) {p : Pru} (hi : p.active = false) :
    (pruReport k d n (pruReport j c m p)).active = true ∧
    (pruReport k d n (pruReport j c m p)).latched = (pruReport j c m' (pruReport k d n' p)).latched ∧
    (pruReport k d n (pruReport j c m p)).cls = (pruReport j c m' (pruReport k d n' p)).cls ∧
    (pruReport k d n (pruReport j c m p)).trip = (pruReport j c m' (pruReport k d n' p)).trip ∧
    (pruReport k d n (pruReport j c m p)).firstOut = some j ∧
    (pruReport k d n (pruReport j c m p)).cls = some (if stronger d c then d else c) := by
  have hone : ∀ (i : Cause) (e : Class) (l : Nat), pruReport i e l p = { pruOpen i e p with record := some l } :=
    fun i e l => if_neg (by simp [hi])
  have htwo : ∀ (i a : Cause) (e x : Class) (l b : Nat), i ≠ a → pruReport a x b { pruOpen i e p with record := some l } =
      pruLatch a x { pruOpen i e p with record := some l } := fun i a e x l b h => by
    refine (if_pos rfl).trans (if_pos ?_)
    simp [latches, latchOf, pruOpen, h]
  rw [hone j c m, hone k d n', htwo j k c d m n hjk, htwo k j d c n' m' hjk.symm]
  refine ⟨rfl, ?_, ?_, ?_, rfl, ?_⟩
  · change putLatch k d [{ kind := j, cls := c }] = putLatch j c [{ kind := k, cls := d }]
    refine List.filterMap_congr fun x _ => ?_
    by_cases hk : x = k
    · subst x
      simp [hjk.symm, latchOf]
    · by_cases hj : x = j
      · subst x
        simp [hk, latchOf]
      · simp [hk, hj, latchOf, Ne.symm hj, Ne.symm hk]
  · rw [pruLatch_cls, pruLatch_cls]
    exact riseTo_comm d c none
  · exact Bool.or_comm ..
  · rw [pruLatch_cls]
    change (if stronger d c = true then some d else some c) = _
    split <;> rfl

/-- Settles O31: the episode after each report is `pruReport`'s, and the demands leave it. -/
theorem reportsInEitherOrderLatchTheSame : Obligations.ReportsInEitherOrderLatchTheSame := by
  intro o j k m n s u v hset hjk hcj hck hu hv
  have hfull := settingsRight_full hset
  have htwice : ∀ (a b : Cause) (x y : Period), s.set.classInForce a ≠ .w → s.set.classInForce b ≠ .w →
      ∃ f l, SameEpisode (pruReport b (s.set.classInForce b) f (pruReport a (s.set.classInForce a) l s.pru))
        (takeReport o b y (takeReport o a x s)).pru ∧
        latchedActive a (takeReport o b y (takeReport o a x s)).pru = true ∧
        latchedActive b (takeReport o b y (takeReport o a x s)).pru = true ∧
        (s.pru.active = true → (takeReport o b y (takeReport o a x s)).pru.firstOut = s.pru.firstOut) := by
    intro a b x y ha hb
    have hc1 := takeReport_carried (K := fun _ => True) o a x s
    have hb1 : (takeReport o a x s).set.classInForce b = s.set.classInForce b := hc1.set.classInForce hfull b
    have hc2 := takeReport_carried (K := fun _ => True) o b y (takeReport o a x s)
    have he1 := takeReport_episode o x ha
    have he2 := takeReport_episode o y (hb1.symm ▸ hb)
    rw [hb1] at he2
    refine ⟨_, _, (pruReport_congr he1 ..).trans he2, hc2.pru.latched a (takeReport_latches o x ha),
      takeReport_latches o y (hb1.symm ▸ hb), fun hact => ?_⟩
    obtain ⟨hact1, hf1, -⟩ := hc1.pru.active hact
    exact (hc2.pru.active hact1).2.1.trans hf1
  obtain ⟨a, b, heu, hju, hku, hfu⟩ := htwice j k m n hcj hck
  obtain ⟨c, d, hev, -, -, hfv⟩ := htwice k j n m hck hcj
  rw [← hu] at heu hju hku hfu
  rw [← hv] at hev hfv
  cases hact : s.pru.active with
  | true =>
    obtain ⟨h1, h2, h3, h4⟩ := pruReport_comm_active hjk (s.set.classInForce j) (s.set.classInForce k) b a c d hact
    obtain ⟨h5, -⟩ := pruReport_comm_active hjk.symm (s.set.classInForce k) (s.set.classInForce j) d c 0 0 hact
    exact ⟨heu.active.trans h1, hev.active.trans h5, heu.latched.trans (h2.trans hev.latched.symm),
      heu.cls.trans (h3.trans hev.cls.symm), heu.trip.trans (h4.trans hev.trip.symm), hju, hku,
      fun _ => ⟨hfu hact, hfv hact⟩, fun h => nomatch h⟩
  | false =>
    obtain ⟨h1, h2, h3, h4, h5, h6⟩ :=
      pruReport_comm_clear hjk (s.set.classInForce j) (s.set.classInForce k) b a c d hact
    obtain ⟨h7, -, -, -, h8, -⟩ := pruReport_comm_clear hjk.symm (s.set.classInForce k) (s.set.classInForce j) d c 0 0 hact
    exact ⟨heu.active.trans h1, hev.active.trans h7, heu.latched.trans (h2.trans hev.latched.symm),
      heu.cls.trans (h3.trans hev.cls.symm), heu.trip.trans (h4.trans hev.trip.symm), hju, hku,
      (fun h => nomatch h), fun _ => ⟨heu.firstOut.trans h5, hev.firstOut.trans h8, heu.cls.trans h6⟩⟩

/-! ### EXT_TRIP -/

/-- A report of class B with no episode ACTIVE opens one, asserts TRIP and trips the drive (R130, R144, R147). -/
theorem takeReport_opens_b (o : Sched) {k : Cause} (n : Period) {s : State} (h : s.set.classInForce k = .b)
    (hi : s.pru.active = false) : (takeReport o k n s).pru.trip = true ∧ (takeReport o k n s).pru.cls = some .b ∧
      (takeReport o k n s).pru.firstOut = some k ∧ (takeReport o k n s).dsq = dsqDemand .b s.dsq := by
  have he := takeReport_episode o n (s := s) (k := k) (by rw [h]; decide)
  have hr : pruReport k (s.set.classInForce k) s.rcu.counter s.pru =
      { pruOpen k .b s.pru with record := some s.rcu.counter } := by rw [h]; exact if_neg (by simp [hi])
  rw [hr] at he
  refine ⟨he.trip, he.cls, he.firstOut, ?_⟩
  rw [takeReport_opens o n h (by decide) hi, (demand_rest ..).2.2.2, (openEpisode_same ..).dsq]

/-- A class B demand withdraws the enable and releases AUX_EN of a drive that is not TRIPPED (R129, R130). -/
theorem dsqDemand_b_withdraws {d : Dsq} (h : d.drive ≠ .tripped) :
    (dsqDemand .b d).enable = false ∧ (dsqDemand .b d).auxEn = false := by
  cases hd : d.drive <;> simp_all [dsqDemand, dsqTripped, dsqEnter, enableOf]

theorem exec_extTripQualified {s : State} {c : Candidate} (h : s.pru.ext.cand = some c) (o : Sched) :
    exec (.extTripQualified o) s = .next (extTaken c o s) := by
  change Host.Outcome.next (match s.pru.ext.cand with | none => s | some c => extTaken c o s) = _
  rw [h]

/-- Settles O30: the report of EXT_TRIP is taken with its condition, and a clearing clears alone. -/
theorem extTripIsTaken : Obligations.ExtTripIsTaken := by
  intro o s c hc
  rw [exec_extTripQualified hc, extTaken]
  refine ⟨fun hl hcls => ?_, fun hl => ?_⟩
  · generalize hs0 : ({ s with
        now := plus c.stamp extPersist,
        pru := pruCond .extTrip true { s.pru with ext := qualTake c, extCond := true } } : State) = s0
    have hext : extChange c.level o { s with now := plus c.stamp extPersist, pru := { s.pru with ext := qualTake c } } =
        takeReport o .extTrip s.pru.periodTaken s0 := by
      rw [extChange, hl, if_pos rfl, ← hs0]
    have hset : s0.set = s.set := hs0 ▸ rfl
    have hk := takeReport_carried (K := fun _ => True) o .extTrip s.pru.periodTaken s0
    have hown := hk.pru.own
    have hview : .extTrip ∈ s0.pru.view := by rw [← hs0]; simp [pruCond]
    refine ⟨_, congrArg Host.Outcome.next hext, hk.base.now.trans (by rw [← hs0]; rfl), ?_, ?_,
      (hk.pru.view .extTrip ⟨trivial, .inl fun x h => nomatch h⟩).mpr hview,
      takeReport_latches o _ (hset ▸ hcls), fun hb hi => ?_, hk.base.msy.trans (by rw [← hs0]),
      hk.base.meu.trans (by rw [← hs0])⟩
    · exact (congrArg Pru.ext hown :).trans (by rw [← hs0]; simp [pruCond, qualTake, hl])
    · exact (congrArg Pru.extCond hown :).trans (by rw [← hs0]; rfl)
    · obtain ⟨h1, h2, h3, h4⟩ := takeReport_opens_b o s.pru.periodTaken (s := s0) (hset ▸ hb) (by rw [← hs0]; exact hi)
      have hdsq : s0.dsq = s.dsq := hs0 ▸ rfl
      rw [hdsq] at h4
      obtain ⟨h5, h6, h7⟩ := dsqDemand_b s.dsq
      refine ⟨h1, h2, h3, ?_, ?_, ?_, fun hd => ?_⟩ <;> rw [h4]
      · exact h5
      · exact h6
      · exact h7
      · exact dsqDemand_b_withdraws hd
  · rw [extChange, hl, if_neg (by decide)]
    simp [pruCond, dropCause, plus, extPersist, qualTake, hl]

/-! ### A sample whose reports end the class of a later one

`SampleChecksAreReported` asks nothing of the settings table. With no staged rows an apply leaves no active row, and
a class setting without a row reads as W. So a sample that reports CURRENT_SENSOR_A (class F, which trips the drive,
which applies) ahead of OVERCURRENT_A finds OVERCURRENT_A of class W. -/

/-- Current A at a rail for two samples in a row, with no staged row in the settings table. -/
def railedUnstaged : State := { Tests.railed with set := { Tests.railed.set with staged := [] } }

/-- CURRENT_SENSOR_A is reported first. -/
def railOrder : Sched := { Tests.plainOrder with reports := [.currentSensor .a] }

/-- Current A at its upper rail, everything else in the middle or at 0. -/
def railSet : RawSet := ⟨4095#12, 2048#12, 0#12, 0#12⟩

/-- OVERCURRENT_A is latched after a command. -/
def overcurrentLatched (r : Host.Outcome State Fault Refusal) : Bool :=
  match r with
  | .next u => latchedActive (.overcurrent .a) u.pru
  | _ => false

theorem railedUnstaged_class : railedUnstaged.set.classInForce (.overcurrent .a) ≠ .w := by decide +kernel

theorem railedUnstaged_over : railedUnstaged.set.itrip .a < 32752 := by decide +kernel

theorem railedUnstaged_unlatched : overcurrentLatched (exec (.currentSample railSet railOrder) railedUnstaged) = false := by
  decide +kernel

/-- Refutes O26: at this sample OVERCURRENT_A comes to hold with a class other than W and is not latched, for the report
taken before it has emptied the settings table. -/
theorem not_sampleChecksAreReported : ¬ Obligations.SampleChecksAreReported := by
  rintro ⟨-, h, -⟩
  obtain ⟨u, hu, -, -, hover, -⟩ :=
    h .a railSet railOrder railedUnstaged _ _ _ _ 4095#12 0#12 32752 _ rfl rfl rfl rfl rfl (by decide +kernel) rfl
  have hlatched := (hover rfl railedUnstaged_over).2 railedUnstaged_class
  have hnot := railedUnstaged_unlatched
  rw [hu] at hnot
  exact Bool.false_ne_true (hnot.symm.trans hlatched)

/-! ### A sample -/

theorem exec_currentSample {s : State} {g : Interval} {t : Tick} {ts : List Tick} (hg : s.meu.interval = some g)
    (ht : g.samples = t :: ts) (v : RawSet) (o : Sched) : exec (.currentSample v o) s = .next (sampleTaken v o g t s) := by
  have hdue : sampleDue s.meu = some (g, t) := by rw [sampleDue, hg]; dsimp only; rw [ht]
  change Host.Outcome.next (match sampleDue s.meu with | none => s | some (g, t) => sampleTaken v o g t s) = _
  rw [hdue]

theorem scaleRaw_eq (raw offset gain : Nat) : scaleRaw raw offset gain =
    (max 0 (min 32767 (Int.tdiv (((raw : Int) - (offset : Int)) * (gain : Int)) 1024))).toNat := by
  rw [scaleRaw, clampInt_eq (by decide)]
  rfl

theorem atRail_eq (r : BitVec 12) : atRail r.toNat = (r = 0#12 || r = 4095#12 : Bool) := by
  simp [atRail, BitVec.toNat_eq]

/-- A side after a sample, by its numbers (R28, R29, R30). -/
theorem sideSample_eq (z : SetTable) (x : Side) (r : BitVec 12) (cur volt : Nat) (d : MeuSide) :
    sideSample z x r.toNat cur volt d = { d with
      lastSample := cur
      rail := (if r = 0#12 ∨ r = 4095#12 then min (d.rail + 1) 3 else 0)
      sensorCond := ((r = 0#12 || r = 4095#12) && (d.sensorCond || decide (2 ≤ d.rail)))
      overCond := (d.overCond || decide (z.itrip x < cur))
      voltCond := (d.voltCond || decide (z.uover x < volt)) } := by
  rw [sideSample, railNext, atRail_eq]
  by_cases h : r = 0#12 ∨ r = 4095#12
  · simp [h]
  · simp [h]

/-- Settles O25: a sample is `meuSample`, and what it reports leaves the measurement unit. -/
theorem sampleIsTaken : Obligations.SampleIsTaken := by
  intro v o s g t ts scale after hg ht hscale hafter
  have hbase := deliver_base o (meuSample s.set v g s.meu).2 { s with now := t, meu := (meuSample s.set v g s.meu).1 }
  refine ⟨_, exec_currentSample hg ht v o, hbase.now, hbase.msy, hbase.meu.trans ?_⟩
  have hsc : ∀ (r : BitVec 12) (off gain : Nat), scaleRaw r.toNat off gain = scale r off gain := fun r off gain => by
    rw [scaleRaw_eq, hscale]
  have hside : ∀ (x : Side) (i w : BitVec 12), sideSample s.set x i.toNat (scale i (s.set.currentOffset x) (s.set.currentGain x))
      (scale w (s.set.voltOffset x) (s.set.voltGain x)) (s.meu.sides.get x) = after x i w := fun x i w => by
    rw [sideSample_eq, hafter]
  simp only [meuSample, intervalSample, sampleCurrent, sampleVolt, hsc, ht, List.tail_cons]
  rw [← hside .a, ← hside .b]
  rfl

end Sys2Proof.Machine
end

section
/-! The record store: what OPEN RECORD and NEXT CHUNK read, how a record is chosen a slot, numbered, filled and
sealed. -/

namespace Sys2Proof.Machine

/-! ### OPEN RECORD -/

theorem exec_openRecord {k : Station} {s : State} (hfree : (s.links.get k).reply = none) (g : Byte) (n : BitVec 16)
    (t : Tick) (o : Sched) :
    exec (.openRecord k g n t o) s = .next (replied k .openRecord g (reqOpenRecord k n.toNat { s with now := t })) := by
  have hfits : lengthFits .openRecord (operand2 n).length = true := by rw [operand2_length]; rfl
  have hhand : handRequest k .openRecord (operand2 n) o { s with now := t } = reqOpenRecord k n.toNat { s with now := t } :=
    congrArg (reqOpenRecord k · _) (beNat_operand2 n)
  exact congrArg Host.Outcome.next (arrives_eq .openRecord hfree rfl hfits hhand g)

/-- The slot of a number that one slot holds. -/
theorem slotOf_held {n : Nat} {u : Rcu} {i : SlotIx} {r : Record} (h : u.slots.get i = some r) (hn : r.number = n)
    (hone : ∀ j q, u.slots.get j = some q → q.number = n → j = i) : slotOf n u = some i := by
  cases hj : slotOf n u with
  | none => exact absurd hn (slotOf_eq_none hj h)
  | some j =>
    obtain ⟨q, hq, hqn⟩ := slotOf_eq_some hj
    rw [hone j q hq hqn]

theorem slotOf_unheld {n : Nat} {u : Rcu} (h : ∀ j q, u.slots.get j = some q → q.number ≠ n) : slotOf n u = none := by
  cases hj : slotOf n u with
  | none => rfl
  | some j =>
    obtain ⟨q, hq, hqn⟩ := slotOf_eq_some hj
    exact absurd hqn (h j q hq)

/-! ### NEXT CHUNK -/

theorem exec_nextChunk {k : Station} {s : State} (hfree : (s.links.get k).reply = none) (g : Byte) (t : Tick) (o : Sched) :
    exec (.nextChunk k g t o) s = .next (replied k .nextChunk g (reqNextChunk k { s with now := t })) := by
  have h := arrives_eq .nextChunk (payload := []) (t := t) (o := o) hfree rfl rfl rfl g
  exact congrArg Host.Outcome.next h

theorem chunkOf_stale {k : Station} {u : Rcu} {q : Cursor} (hq : u.cursors.get k = some q)
    (h : ∀ r, u.slots.get q.slot = some r → r.number ≠ q.number) : chunkOf k u = .stale := by
  rw [chunkOf, hq]
  dsimp only
  cases hr : u.slots.get q.slot with
  | none => rfl
  | some r => exact if_neg (h r hr)

theorem chunkOf_chunk {k : Station} {u : Rcu} {q : Cursor} {r : Record} (hq : u.cursors.get k = some q)
    (hr : u.slots.get q.slot = some r) (hn : r.number = q.number) : chunkOf k u = .chunk q r := by
  simp [chunkOf, hq, hr, hn]

theorem chunkEntries_length (q : Cursor) (r : Record) :
    (chunkEntries q r).length = min 6 (r.entries.length - q.pos) := by
  simp [chunkEntries]

theorem chunkEnds_iff (q : Cursor) (r : Record) :
    chunkEnds q r = true ↔ r.isSealed = true ∧ q.pos + min 6 (r.entries.length - q.pos) = r.entries.length := by
  simp [chunkEnds, chunkEntries_length]

theorem chunkBytes_eq (q : Cursor) (r : Record) : chunkBytes q r = be 2 r.number ++ be 1 q.pos ++
    be 1 (min 6 (r.entries.length - q.pos)) ++
    [BitVec.ofNat 8 (bitAt (!r.isSealed) 0 + bitAt (chunkEnds q r) 1)] ++
    ((r.entries.drop q.pos).take 6).flatMap entryBytes := by
  rw [chunkBytes, chunkEntries_length]
  simp [be1, be, chunkEntries]

/-- A freeing changes slots and their order alone. -/
theorem freeIfRead_rest (i : SlotIx) (u : Rcu) : { freeIfRead i u with slots := u.slots, age := u.age } = u := by
  unfold freeIfRead
  split
  · rfl
  · split <;> rfl

/-- What becomes of a SEALED record in the slot that is tested (R171, R172). -/
theorem freeIfRead_sealed {i : SlotIx} {u : Rcu} {r : Record} (h : u.slots.get i = some r) (hs : r.isSealed = true) :
    (freeIfRead i u).slots.get i =
      if u.pinned ≠ some r.number ∧ r.interest.within r.marks = true then none else some r := by
  by_cases hp : u.pinned = some r.number
  · rw [if_neg fun hc => hc.1 hp, freeIfRead, h]
    dsimp only
    rw [if_neg (by simp [hp]), h]
  · rw [freeIfRead_slot h hs hp]
    simp only [ne_eq, hp, not_false_eq_true, true_and]

/-- Settles O41: OPEN RECORD by the slot that holds the number, NEXT CHUNK by the test of the cursor. -/
theorem recordsAreOpenedAndRead : Obligations.RecordsAreOpenedAndRead := by
  refine ⟨fun k g n t o s hfree => ⟨fun i r h0 hi hn hone => ?_, fun h0 hnone => ?_, fun h0 => ?_⟩,
    fun k g t o s hfree => ⟨fun hc => ?_, fun q hq => ⟨fun hstale => ?_, fun r d hr hn hd => ⟨fun hmore => ?_, fun hsealed hend => ?_⟩⟩⟩⟩
  · have h0 : n.toNat ≠ 0 := fun h => h0 (BitVec.eq_of_toNat_eq h)
    have hfind : openFinds n.toNat s.rcu = some (i, r) := by rw [openFinds, slotOf_held hi hn hone]; dsimp only; rw [hi]; rfl
    have hreq : reqOpenRecord k n.toNat { s with now := t } = okWith { s with
        now := t, rcu := { s.rcu with cursors := s.rcu.cursors.put k (some { number := n.toNat, slot := i, pos := 0 }) } }
        (be1 (recordStateCode r) ++ headerBytes r) := by
      simp only [reqOpenRecord, if_neg h0, hfind]
    rw [exec_openRecord hfree, hreq, replied_okWith]
    cases hs : r.isSealed <;> simp [recordStateCode, hs, be1, kindCode]
  · have h0 : n.toNat ≠ 0 := fun h => h0 (BitVec.eq_of_toNat_eq h)
    have hreq : reqOpenRecord k n.toNat { s with now := t } = plain { s with now := t } .noRecord := by
      simp only [reqOpenRecord, if_neg h0, openFinds, slotOf_unheld (u := s.rcu) hnone]
    rw [exec_openRecord hfree, hreq]
    rfl
  · rw [exec_openRecord hfree, h0]
    rfl
  · have hreq : reqNextChunk k { s with now := t } = plain { s with now := t } .noRecord := by
      have hch : chunkOf k s.rcu = .noRecord := by rw [chunkOf, hc]
      simp only [reqNextChunk, rcuNext, hch]
    rw [exec_nextChunk hfree, hreq]
    rfl
  · have hch := chunkOf_stale hq hstale
    rw [exec_nextChunk hfree]
    simp only [reqNextChunk, rcuNext, hch]
    rfl
  · have hch := chunkOf_chunk hq hr hn
    have hne : chunkEnds q r = false := by
      rw [← Bool.not_eq_true, chunkEnds_iff, ← hd]
      rintro ⟨h1, h2⟩
      rcases hmore with h | h
      · rw [h1] at h
        cases h
      · exact h h2
    rw [exec_nextChunk hfree]
    simp only [reqNextChunk, rcuNext, hch, chunkBytes_eq, hne, ← hd, replied_okWith, chunkEntries_length, if_neg Bool.false_ne_true]
    cases hs : r.isSealed <;> rfl
  · have hch := chunkOf_chunk hq hr hn
    have he : chunkEnds q r = true := (chunkEnds_iff q r).mpr ⟨hsealed, hd ▸ hend⟩
    generalize hw : ({ s.rcu with
      cursors := s.rcu.cursors.put k (some { q with pos := q.pos + d }),
      slots := s.rcu.slots.put q.slot (some { r with marks := r.marks.add k }) } : Rcu) = w
    have hnext : rcuNext k s.rcu = freeIfRead q.slot w := by
      simp only [rcuNext, hch, he, if_true, chunkEntries_length, ← hd, hw]
    have hslot : w.slots.get q.slot = some { r with marks := r.marks.add k } := by rw [← hw]; exact Six.get_put ..
    have hfreed := freeIfRead_sealed hslot hsealed
    have hother := fun (j : SlotIx) (hj : j ≠ q.slot) => freeIfRead_slot_ne w hj
    have hrest := freeIfRead_rest q.slot w
    generalize freeIfRead q.slot w = v at hnext hfreed hother hrest
    have hreq : reqNextChunk k { s with now := t } = okWith { s with now := t, rcu := v } (chunkBytes q r) := by
      simp only [reqNextChunk, hch, hnext]
    refine ⟨_, exec_nextChunk hfree g t o, ?_⟩
    rw [hreq, replied_okWith, chunkBytes_eq, he, ← hd]
    subst hw
    refine ⟨(congrArg Rcu.cursors hrest :), hfreed, fun j hj => (hother j hj).trans (Six.get_put_ne _ _ hj),
      (congrArg Rcu.ring hrest :), (congrArg Rcu.filling hrest :), (congrArg Rcu.counter hrest :), ?_, rfl⟩
    rw [hsealed]
    rfl

/-! ### A new record -/

theorem captureWithin_eq (f : Period) (c : Option FaultCapture) :
    captureWithin f c = c.filter (fun c => decide (f.toNat ≤ c.period.toNat)) := by
  cases c with
  | none => rfl
  | some c => by_cases h : f.toNat ≤ c.period.toNat <;> simp [captureWithin, Option.filter, h]

/-- The latest capture of a converter within the span of the entries (R168). -/
def spanCapture (entries : List Entry) (c : Option FaultCapture) : Option FaultCapture :=
  entries.head?.bind (fun f => c.filter (fun c => decide (f.period.toNat ≤ c.period.toNat)))

theorem spanCapture_head {entries : List Entry} {f : Entry} (h : entries.head? = some f) (c : Option FaultCapture) :
    spanCapture entries c = c.filter (fun c => decide (f.period.toNat ≤ c.period.toNat)) := by
  simp [spanCapture, h]

/-- The record formed of a ring that holds entries (R163, R165, R168). -/
theorem formRecord_eq {z : SetTable} {u : Rcu} {e : Entry} {es : List Entry} {p q : Nat} (hr : u.ring = e :: es)
    (hp : p = min z.preCount es.length) (hq : q = min z.postCount (192 - p)) (base : Record) :
    formRecord z u base = { base with
      pre := p, post := q, entries := u.ring.drop (es.length - p), trigger := ((e :: es).getLast?).map Entry.period,
      capA := spanCapture (u.ring.drop (es.length - p)) u.latest.a,
      capB := spanCapture (u.ring.drop (es.length - p)) u.latest.b, isSealed := decide (q ≤ 1) } := by
  have htaken : takenEntries z.preCount (e :: es) = (e :: es).drop (es.length - p) := by
    rw [takenEntries, hp]
    simp
  have hpre : takenPre z.preCount (e :: es) = p := by simp [takenPre, hp]
  have hlast : ((e :: es).drop (es.length - p)).getLast? = (e :: es).getLast? := by
    rw [List.getLast?_drop, if_neg (by simp)]
  have hlen : ((e :: es).drop (es.length - p)).length = p + 1 := by
    rw [List.length_drop, List.length_cons]
    omega
  have hsealed : decide (p + q ≤ p + 1) = decide (q ≤ 1) := decide_eq_decide.mpr (by omega)
  have hpost : min z.postCount (recordCapacity - p) = q := hq.symm
  rw [formRecord, hr]
  simp only [htaken, hpre, hlast, hlen, hpost, hsealed, captureWithin_eq]
  rfl

/-! ### The number of the next record -/

theorem numberAfter_range (n : Nat) : 1 ≤ numberAfter n ∧ numberAfter n ≤ 65535 := by
  unfold numberAfter
  split <;> omega

/-- The numbers after `n`, in the round of 65,535 (R161). -/
theorem numberAfter_iterate {n : Nat} (h1 : 1 ≤ n) (h2 : n ≤ 65535) (d : Nat) :
    numberAfter^[d] n = (n - 1 + d) % 65535 + 1 := by
  induction d with
  | zero => simp only [Function.iterate_zero, id]; omega
  | succ d ih =>
    rw [Function.iterate_succ_apply', ih, numberAfter]
    split <;> omega

theorem numberHeld_iff (n : Nat) (u : Rcu) :
    numberHeld n u = true ↔ ∃ i r, u.slots.get i = some r ∧ r.number = n := by
  unfold numberHeld
  cases h : slotOf n u with
  | none => simpa using fun i r hr => slotOf_eq_none h hr
  | some i =>
    obtain ⟨r, hr, hn⟩ := slotOf_eq_some h
    simpa using ⟨i, r, hr, hn⟩

/-- Six slots do not hold seven numbers in a row. -/
theorem numberHeld_seven (u : Rcu) {n : Nat} (h1 : 1 ≤ n) (h2 : n ≤ 65535) :
    ∃ d, d ≤ 6 ∧ numberHeld (numberAfter^[d] n) u = false := by
  by_contra hall
  push Not at hall
  have hheld : ∀ d : Fin 7, ∃ i r, u.slots.get i = some r ∧ r.number = numberAfter^[d.val] n := fun d =>
    (numberHeld_iff _ u).mp (by simpa using hall d.val (by omega))
  choose slot r hslot hnum using hheld
  obtain ⟨a, b, hab, he⟩ := Fintype.exists_ne_map_eq_of_card_lt
    (fun d : Fin 7 => (⟨slotNumber (slot d), by cases slot d <;> decide⟩ : Fin 6)) (by decide)
  have hsame : slot a = slot b := by
    have hn : slotNumber (slot a) = slotNumber (slot b) := congrArg Fin.val he
    revert hn
    cases slot a <;> cases slot b <;> simp [slotNumber]
  have hr : r a = r b := Option.some.inj ((hslot a).symm.trans ((congrArg u.slots.get hsame).trans (hslot b)))
  have hval := (hnum a).symm.trans ((congrArg Record.number hr).trans (hnum b))
  rw [numberAfter_iterate h1 h2, numberAfter_iterate h1 h2] at hval
  exact hab (Fin.ext (by omega))

/-- The search for a number goes past held numbers and stops at one that is not held, or after `k` of them. -/
theorem freeNumber_search (u : Rcu) (k n : Nat) : ∃ m, m ≤ k ∧ freeNumber u k n = numberAfter^[m] n ∧
    (∀ d, d < m → numberHeld (numberAfter^[d] n) u = true) ∧ (m < k → numberHeld (numberAfter^[m] n) u = false) := by
  induction k generalizing n with
  | zero => exact ⟨0, le_rfl, rfl, fun d hd => absurd hd (Nat.not_lt_zero d), fun h => absurd h (Nat.not_lt_zero 0)⟩
  | succ k ih =>
    rw [freeNumber]
    by_cases hn : numberHeld n u = true
    · obtain ⟨m, hm, he, hheld, hfree⟩ := ih (numberAfter n)
      refine ⟨m + 1, Nat.succ_le_succ hm, by rw [if_pos hn, he, Function.iterate_succ_apply], fun d hd => ?_, fun h => ?_⟩
      · cases d with
        | zero => exact hn
        | succ d =>
          rw [Function.iterate_succ_apply]
          exact hheld d (Nat.lt_of_succ_lt_succ hd)
      · rw [Function.iterate_succ_apply]
        exact hfree (Nat.lt_of_succ_lt_succ h)
    · exact ⟨0, Nat.zero_le _, by rw [if_neg hn, Function.iterate_zero, id], fun d hd => absurd hd (Nat.not_lt_zero d),
        fun _ => by simpa using hn⟩

/-- The counter moves to the next number that no record holds (R161). -/
theorem freeNumber_next (u : Rcu) (c : Nat) : ∃ n, n ≤ 6 ∧ freeNumber u 6 (numberAfter c) = numberAfter^[n + 1] c ∧
    (∀ h v, u.slots.get h = some v → v.number ≠ freeNumber u 6 (numberAfter c)) ∧
    ∀ d, d < n → ∃ h v, u.slots.get h = some v ∧ v.number = numberAfter^[d + 1] c := by
  obtain ⟨h1, h2⟩ := numberAfter_range c
  obtain ⟨m, hm, he, hheld, hfree⟩ := freeNumber_search u 6 (numberAfter c)
  have hlast : numberHeld (numberAfter^[m] (numberAfter c)) u = false := by
    rcases Nat.lt_or_eq_of_le hm with hlt | rfl
    · exact hfree hlt
    · obtain ⟨d, hd, hn⟩ := numberHeld_seven u h1 h2
      rcases Nat.lt_or_eq_of_le hd with hlt | rfl
      · rw [hheld d hlt] at hn
        cases hn
      · exact hn
  refine ⟨m, hm, he.trans (Function.iterate_succ_apply ..).symm, fun h v hv hn => ?_, fun d hd => ?_⟩
  · rw [he] at hn
    have hyes := (numberHeld_iff _ u).mpr ⟨h, v, hv, hn⟩
    rw [hlast] at hyes
    cases hyes
  · rw [Function.iterate_succ_apply]
    exact (numberHeld_iff _ u).mp (hheld d hd)

theorem newRecord_started (z : SetTable) (base : Record) {u : Rcu} {i : SlotIx} (hi : chooseSlot u = some i) :
    newRecord z base u = (startRecord i (formRecord z u base) u,
      lostMsgs (u.slots.get i) ++ if (formRecord z u base).isSealed then sealedMsgs (formRecord z u base) else []) := by
  rw [newRecord, hi]

/-- The store `v` is `u` with the new record `r` in slot `i`, complete where `sealed` (R161, R162, R166). -/
structure Started (u : Rcu) (i : SlotIx) (r : Record) (sealed : Bool) (v : Rcu) : Prop where
  slot : v.slots.get i = some r
  others : ∀ j, j ≠ i → v.slots.get j = u.slots.get j
  filling : v.filling = if sealed then none else some i
  mark : v.mark = !sealed
  newest : v.age.getLast? = some i
  counter : ∃ n, n ≤ 6 ∧ v.counter = numberAfter^[n + 1] r.number ∧
    (∀ h w, v.slots.get h = some w → w.number ≠ v.counter) ∧
    ∀ d, d < n → ∃ h w, v.slots.get h = some w ∧ w.number = numberAfter^[d + 1] r.number
  rest : { v with slots := u.slots, filling := u.filling, mark := u.mark, age := u.age, counter := u.counter } = u

theorem startRecord_started (i : SlotIx) (r : Record) (u : Rcu) : Started u i r r.isSealed (startRecord i r u) where
  slot := Six.get_put ..
  others _ h := Six.get_put_ne _ _ h
  filling := rfl
  mark := rfl
  newest := List.getLast?_concat
  counter := freeNumber_next { u with
    slots := u.slots.put i (some r), age := u.age.filter (fun k => decide (k ≠ i)) ++ [i],
    filling := if r.isSealed then none else some i, mark := !r.isSealed } r.number
  rest := rfl

/-! ### CAPTURE -/

theorem exec_capture {k : Station} {s : State} (hk : k ≠ .p) (hfree : (s.links.get k).reply = none) (g : Byte) (t : Tick)
    (o : Sched) : exec (.capture k g t o) s = .next (replied k .capture g (reqCapture k { s with now := t })) := by
  have hallowed : allowedOn .capture k = true := by cases k <;> simp_all [allowedOn]
  exact congrArg Host.Outcome.next (arrives_eq .capture hfree hallowed rfl rfl g)

/-- CAPTURE where no record is FILLING and a slot is to be had (R169): the record is started, and all else but the links
stays. -/
theorem exec_capture_starts {k : Station} {s : State} {i : SlotIx} (hk : k ≠ .p) (hfree : (s.links.get k).reply = none)
    (hf : s.rcu.filling = none) (hi : chooseSlot s.rcu = some i) (g : Byte) (t : Tick) (o : Sched) :
    ∃ u, exec (.capture k g t o) s = .next u ∧
      Started s.rcu i (formRecord s.set s.rcu (manualBase k s.rcu)) (formRecord s.set s.rcu (manualBase k s.rcu)).isSealed
        u.rcu ∧
      (u.links.get k).reply = some { frame := frameOf (0x0A#8 :: g :: 0x00#8 :: be 2 s.rcu.counter), started := t } ∧
      { u with rcu := s.rcu, links := s.links } = { s with now := t } := by
  have hnew := newRecord_started s.set (manualBase k s.rcu) hi
  have hms := newRecord_notices s.set (manualBase k s.rcu) s.rcu
  rw [hnew] at hms
  have hreq : reqCapture k { s with now := t } = okWith (raiseAll (newRecord s.set (manualBase k s.rcu) s.rcu).2
      { s with now := t, rcu := (newRecord s.set (manualBase k s.rcu) s.rcu).1 }) (be 2 s.rcu.counter) := by
    simp only [reqCapture, hf, rcuCapture]
  rw [hnew] at hreq
  have hraise := (raiseAll_notices hms { s with now := t, rcu := startRecord i (formRecord s.set s.rcu (manualBase k s.rcu)) s.rcu }).1
  generalize raiseAll _ _ = v at hreq hraise
  refine ⟨_, (exec_capture hk hfree g t o).trans (by rw [hreq, replied_okWith]), ?_, ?_, ?_⟩
  · have hv : v.rcu = startRecord i (formRecord s.set s.rcu (manualBase k s.rcu)) s.rcu := (congrArg State.rcu hraise :)
    change Started _ _ _ _ v.rcu
    rw [hv]
    exact startRecord_started ..
  · have hnow : v.now = t := (congrArg State.now hraise :)
    exact (startReply_reply k _ v).trans (by rw [hnow]; rfl)
  · rw [hraise]
    rfl

/-! ### A record fills -/

/-- The FILLING record with the entry of a period event (R165, R166, R168). -/
theorem fillRecord_eq (e : Entry) (u : Rcu) (r : Record) : fillRecord e u r = { r with
    entries := r.entries ++ [e], isSealed := decide (r.pre + r.post ≤ r.entries.length + 1),
    trigger := (if r.entries = [] then some e.period else r.trigger),
    capA := (if r.entries = [] then r.capA.or (u.latest.a.filter (fun c => decide (e.period.toNat ≤ c.period.toNat)))
             else r.capA),
    capB := (if r.entries = [] then r.capB.or (u.latest.b.filter (fun c => decide (e.period.toNat ≤ c.period.toNat)))
             else r.capB) } := by
  rw [fillRecord, firstEntry]
  cases h : r.entries <;> simp [captureWithin_eq]

theorem rcuPeriod_fills {e : Entry} {u : Rcu} {i : SlotIx} {r : Record} (hf : u.filling = some i)
    (hr : u.slots.get i = some r) : rcuPeriod e u =
      if r.pre + r.post ≤ r.entries.length + 1 then
        ({ u with ring := pushEntry e u.ring, periodTaken := e.period, slots := u.slots.put i (some (fillRecord e u r)),
                  filling := none, mark := false }, sealedMsgs (fillRecord e u r))
      else ({ u with ring := pushEntry e u.ring, periodTaken := e.period,
                     slots := u.slots.put i (some (fillRecord e u r)) }, []) := by
  generalize hring : pushEntry e u.ring = ring
  have hsealed : (fillRecord e u r).isSealed = decide (r.pre + r.post ≤ r.entries.length + 1) := rfl
  have hsame : ∀ v : Rcu, v.latest = u.latest → fillRecord e v r = fillRecord e u r := fun v hv => by
    rw [fillRecord_eq, fillRecord_eq, hv]
  simp only [rcuPeriod, rcuFill, hf, hr, hring]
  rw [hsame { u with ring := ring, filling := some i, periodTaken := e.period } rfl, hsealed]
  simp only [decide_eq_true_eq]

theorem mem_sealedMsgs (k : Station) (r : Record) : .notice .recordSealed k ∈ sealedMsgs r ↔ r.interest.has k = true := by
  have hk : k ∈ allStations := by cases k <;> decide
  simp [sealedMsgs, hk]

theorem noReports_of_notices {ms : List Msg} (h : ∀ m ∈ ms, isNotice m) : noReports ms := fun m hm => by
  cases m with
  | notice n k => rfl
  | report _ _ | cond _ _ | capture _ _ => exact (h _ hm).elim

/-- A station that no notice goes to keeps its link. -/
theorem raiseAll_links_other {k : Station} {ms : List Msg} (h : ∀ m ∈ ms, ∃ n j, m = .notice n j ∧ j ≠ k) (s : State) :
    (raiseAll ms s).links.get k = s.links.get k := by
  induction ms generalizing s with
  | nil => rfl
  | cons m ms ih =>
    obtain ⟨n, j, rfl, hj⟩ := h m List.mem_cons_self
    refine (ih (fun m hm => h m (List.mem_cons_of_mem _ hm)) (raise n j s)).trans ?_
    exact Triple.get_put_ne _ _ hj.symm

/-- Settles O42: a new record is `formRecord`'s in the slot chosen, with the number of `freeNumber_next`; a FILLING one
takes the entry of the period event by `rcuPeriod_fills`. -/
theorem recordsAreCapturedAndSealed : Obligations.RecordsAreCapturedAndSealed := by
  refine ⟨fun k g t o s hfree hk => ⟨fun i hf => ?_, fun i hf hi hr => ?_, fun i e es p q after hafter hf hi hr hp hq => ?_⟩,
    fun o n t later f s u i r hs hn hf hr hu => ?_, fun s t i r hnext hb hf hr hne hfull => ?_⟩
  · have hreq : reqCapture k { s with now := t } = refuse { s with now := t } .recording := by simp only [reqCapture, hf]
    rw [exec_capture hk hfree, hreq]
    rfl
  · obtain ⟨u, hu, hst, -, -⟩ := exec_capture_starts hk hfree hf hi g t o
    have hform : formRecord s.set s.rcu (manualBase k s.rcu) = { manualBase k s.rcu with
        pre := 0, post := min s.set.postCount 192, entries := [], trigger := none, capA := none, capB := none,
        isSealed := false } := by
      rw [formRecord, hr]
      rfl
    rw [hform] at hst
    exact ⟨u, _, hu, hst.slot, rfl, rfl, rfl, rfl, rfl, rfl, rfl, rfl, rfl, rfl, hst.filling, hst.mark⟩
  · obtain ⟨u, hu, hst, hreply, hrest⟩ := exec_capture_starts hk hfree hf hi g t o
    rw [formRecord_eq hr hp hq] at hst
    have hafter : after = numberAfter := hafter
    have hmark : (!decide (q ≤ 1)) = decide (1 < q) :=
      decide_not.symm.trans (decide_eq_decide.mpr Nat.not_le)
    have hinterest : StationSet.empty.add k = { c := decide (k = .c), p := false, m := decide (k = .m) } := by
      cases k with
      | p => exact absurd rfl hk
      | c | m => rfl
    refine ⟨u, _, hu, hst.slot, hst.others, rfl, rfl, rfl, rfl, rfl, rfl, rfl, rfl, rfl,
      hinterest, rfl, fun f hf => ⟨spanCapture_head hf _, spanCapture_head hf _⟩, ?_, rfl, rfl, ?_, ?_,
      (congrArg Rcu.ring hst.rest :), (congrArg Rcu.pinned hst.rest :), hst.newest, hreply, hrest⟩
    · rw [hafter]
      exact hst.counter
    · exact hst.filling.trans (by simp only [decide_eq_true_eq])
    · exact hst.mark.trans hmark
  · subst hs
    have hwork : takePeriod o n t .rcu later f = { f with state := workRcu n f.state } := if_neg hn
    have hrcu : u.rcu = (rcuPeriod (f.state.entry n) f.state.rcu).1 := by
      rw [hu, hwork]
      exact (congrArg State.rcu (workRcu_eq n f.state).1 :)
    rw [rcuPeriod_fills hf hr] at hrcu
    have hslots : u.rcu.slots = f.state.rcu.slots.put i (some (fillRecord (f.state.entry n) f.state.rcu r)) := by
      rw [hrcu]
      split <;> rfl
    refine ⟨fun j hj => ?_, ?_, ?_⟩
    · rw [hslots, Six.get_put_ne _ _ hj]
    · rw [hrcu]
      split
      · rfl
      · exact hf
    · rw [hslots, Six.get_put, fillRecord_eq]
      rfl
  · have hseals : sealsNext s.rcu = true := by simp [sealsNext, hf, hr, hfull]
    have hexec : exec .recordSealed s =
        .next (workRcu (s.msy.period + 1#32) { s with now := t, issued := s.edgeNoted t }) :=
      congrArg Host.Outcome.next (takeAhead_due (b := .rcu) hnext hb hseals noOrder)
    obtain ⟨hwork, -⟩ := workRcu_eq (s.msy.period + 1#32) { s with now := t, issued := s.edgeNoted t }
    have hperiod := rcuPeriod_fills (e := s.entry (s.msy.period + 1#32)) hf hr
    rw [if_pos hfull] at hperiod
    have hfill : fillRecord (s.entry (s.msy.period + 1#32)) s.rcu r =
        { r with entries := r.entries ++ [s.entry (s.msy.period + 1#32)], isSealed := true } := by
      rw [fillRecord_eq]
      simp [hne, hfull]
    have hlinks : (workRcu (s.msy.period + 1#32) { s with now := t, issued := s.edgeNoted t }).links =
        (raiseAll (sealedMsgs (fillRecord (s.entry (s.msy.period + 1#32)) s.rcu r))
          { s with now := t, issued := s.edgeNoted t, rcu := (rcuPeriod (s.entry (s.msy.period + 1#32)) s.rcu).1 }).links := by
      have hms : (rcuPeriod (s.entry (s.msy.period + 1#32)) s.rcu).2 =
          sealedMsgs (fillRecord (s.entry (s.msy.period + 1#32)) s.rcu r) := congrArg Prod.snd hperiod
      rw [← hms]
      rfl
    refine ⟨_, hexec, ?_, ?_, fun k hk => ?_, fun k hk => ?_⟩
    · rw [hwork]
    · have hrcu : (workRcu (s.msy.period + 1#32) { s with now := t, issued := s.edgeNoted t }).rcu =
          (rcuPeriod (s.entry (s.msy.period + 1#32)) s.rcu).1 := (congrArg State.rcu hwork :)
      have hring : (s.rcu.ring ++ [s.entry (s.msy.period + 1#32)]).drop (s.rcu.ring.length + 1 - 256) =
          pushEntry (s.entry (s.msy.period + 1#32)) s.rcu.ring := rfl
      rw [hrcu, hperiod, hfill, hring]
      generalize pushEntry (s.entry (s.msy.period + 1#32)) s.rcu.ring = ring
      rfl
    · rw [hlinks]
      exact raiseAll_noticed (noReports_of_notices (sealedMsgs_notices _)) ((mem_sealedMsgs k _).mpr (by rw [hfill]; exact hk)) _
    · rw [hlinks]
      refine raiseAll_links_other (fun m hm => ?_) _
      simp only [sealedMsgs, List.mem_map, List.mem_filter] at hm
      obtain ⟨j, ⟨-, hj⟩, rfl⟩ := hm
      refine ⟨_, _, rfl, ?_⟩
      rintro rfl
      rw [hfill] at hj
      exact Bool.false_ne_true (hk.symm.trans hj)

/-! ### The slot of a new record -/

theorem chooseSlot_lowest {u : Rcu} {i : SlotIx} (hi : u.slots.get i = none)
    (hlow : ∀ j, slotNumber j < slotNumber i → u.slots.get j ≠ none) : chooseSlot u = some i := by
  have hfind : allSlots.find? (fun i => (u.slots.get i).isNone) = some i := by
    have hno : ∀ j, slotNumber j < slotNumber i → (u.slots.get j).isNone = false := fun j hj => by
      cases h : u.slots.get j with
      | none => exact absurd h (hlow j hj)
      | some r => rfl
    have hyes : (u.slots.get i).isNone = true := by rw [hi]; rfl
    have hsplit : ∃ low high, allSlots = low ++ i :: high ∧ ∀ j ∈ low, slotNumber j < slotNumber i := by
      cases i
      · exact ⟨[], [.s1, .s2, .s3, .s4, .s5], rfl, by decide⟩
      · exact ⟨[.s0], [.s2, .s3, .s4, .s5], rfl, by decide⟩
      · exact ⟨[.s0, .s1], [.s3, .s4, .s5], rfl, by decide⟩
      · exact ⟨[.s0, .s1, .s2], [.s4, .s5], rfl, by decide⟩
      · exact ⟨[.s0, .s1, .s2, .s3], [.s5], rfl, by decide⟩
      · exact ⟨[.s0, .s1, .s2, .s3, .s4], [], rfl, by decide⟩
    obtain ⟨low, high, he, hl⟩ := hsplit
    rw [he]
    exact List.find?_eq_some_iff_append.mpr ⟨hyes, low, high, rfl, fun j hj => by simp [hno j (hl j hj)]⟩
  rw [chooseSlot, hfind]
  rfl

/-- With no slot FREE the search goes on in the order of age. -/
theorem chooseSlot_full {u : Rcu} (h : ∀ j, u.slots.get j ≠ none) :
    chooseSlot u = (u.age.find? (sealedManual u)).or (u.age.reverse.find? (sealedTrip u)) := by
  have hnone : allSlots.find? (fun i => (u.slots.get i).isNone) = none :=
    List.find?_eq_none.mpr fun j _ => by simpa using h j
  rw [chooseSlot, hnone]
  rfl

/-! ### A report in an ACTIVE episode -/

theorem takeReport_rcu (o : Sched) {k : Cause} (n : Period) {s : State} {c : Class} (h : s.set.classInForce k = c)
    (hc : c ≠ .w) : { (takeReport o k n s).rcu with driveView := (takeCause k n c s).1.rcu.driveView } =
      (takeCause k n c s).1.rcu := by
  rw [← judge_cause n h hc]
  rcases takeReport_eq o k n s with he | ⟨d, he⟩ <;> rw [he]
  exact (demand_rest o d _).2.1

/-- A cause that is new to the ACTIVE episode goes to the record unit as a subsequent cause (R145, R167). -/
theorem takeCause_fresh_rcu {k : Cause} (n : Period) (c : Class) {s : State} (ha : s.pru.active = true)
    (hl : latchOf k s.pru.latched = none) : (takeCause k n c s).1.rcu = rcuSub k n s.rcu := by
  rw [takeCause, if_pos ha, latchReport, latchingOf, hl]
  dsimp only
  rw [classRise]
  split
  · exact raiseTo_rcu ..
  · rfl

theorem rcuSub_slots {u : Rcu} {i : SlotIx} {r : Record} (hf : u.filling = some i) (hr : u.slots.get i = some r)
    (k : Cause) (n : Period) : (rcuSub k n u).slots =
      if u.pinned = some r.number then u.slots.put i (some (addSub k n r)) else u.slots := by
  simp only [rcuSub, hf, hr]
  split <;> rfl

/-- The part as a station's TRIP is reported: STATION_TRIP holds (R153). -/
def stationTripHolds (s : State) : State :=
  { s with pru := pruCond .stationTrip true { s.pru with stationCond := true } }

/-- What a station's TRIP leaves of the record unit and of the episode is what its report leaves. -/
theorem exec_trip_report {s : State} (hfree : (s.links.get .p).reply = none) (g : Byte) (t : Tick) (o : Sched) :
    ∃ u, exec (.trip .p g t o) s = .next u ∧
      u.rcu = (takeReport o .stationTrip s.pru.periodTaken (stationTripHolds { s with now := t })).rcu ∧
      SameEpisode (takeReport o .stationTrip s.pru.periodTaken (stationTripHolds { s with now := t })).pru u.pru ∧
      ∀ k n, n ∈ ((takeReport o .stationTrip s.pru.periodTaken (stationTripHolds { s with now := t })).links.get k).notices →
        n ∈ (u.links.get k).notices := by
  refine ⟨_, exec_trip hfree g t o, rfl, ⟨rfl, rfl, rfl, rfl, rfl, rfl⟩, fun k n h => ?_⟩
  exact startReply_noticed .p _ (s := { takeReport o .stationTrip s.pru.periodTaken (stationTripHolds { s with now := t }) with
    pru := _ }) h

theorem latchedActive_of_episode {p q : Pru} (h : SameEpisode p q) (k : Cause) : latchedActive k q = latchedActive k p := by
  rw [latchedActive, latchedActive, h.active, h.latched]

/-! ### A TRIP record -/

/-- What the record unit raises at a trigger is raised as the episode opens (R163, R164, R170). -/
theorem openEpisode_tells {k : Cause} {c : Class} {s : State} {n : Notice} {st : Station}
    (h : .notice n st ∈ (rcuTrigger s.set k c s.pru.driveView s.rcu).2) :
    n ∈ ((openEpisode k c s).links.get st).notices := by
  have hno := noReports_of_notices (rcuTrigger_notices s.set k c s.pru.driveView s.rcu)
  have hraise := raiseAll_noticed hno h
    { s with pru := { pruOpen k c s.pru with record := (rcuTrigger s.set k c s.pru.driveView s.rcu).1.pinned },
             rcu := (rcuTrigger s.set k c s.pru.driveView s.rcu).1 }
  exact ((raiseTo_raised .episode [.c, .p, .m] _) st).notices _ hraise.1

/-- A trigger where `w` is the store once a MANUAL record that was FILLING is sealed (R163, R170). -/
theorem rcuTrigger_started {z : SetTable} {k : Cause} {c : Class} {d : Drive} {u w : Rcu} {ms : List Msg} {j : SlotIx}
    (hw : truncateManual u = (w, ms)) (hj : chooseSlot w = some j) :
    ∃ v, rcuTrigger z k c d u = ({ v with pinned := some w.counter }, ms ++ (lostMsgs (w.slots.get j) ++
        if (formRecord z w (tripBase z k c d w)).isSealed then sealedMsgs (formRecord z w (tripBase z k c d w)) else [])) ∧
      Started w j (formRecord z w (tripBase z k c d w)) (formRecord z w (tripBase z k c d w)).isSealed v := by
  refine ⟨_, ?_, startRecord_started ..⟩
  rw [rcuTrigger, hw]
  dsimp only
  rw [newRecord_started _ _ hj]

theorem mem_lostMsgs {k : Station} {r : Record} (hi : r.interest.has k = true) (hm : r.marks.has k = false) :
    .notice .recordLost k ∈ lostMsgs (some r) := by
  have hk : k ∈ allStations := by cases k <;> decide
  simp [lostMsgs, unread, hk, hi, hm]

/-- Settles O43: the slot by `chooseSlot`'s searches, a subsequent cause by `rcuSub`, and a TRIP record by
`rcuTrigger_started`. -/
theorem slotsAndTripRecords : Obligations.SlotsAndTripRecords := by
  refine ⟨fun u i => ⟨chooseSlot_lowest, fun hfull => ⟨fun old new hage hi hold => ?_, fun old new hage hman hi hnew => ?_⟩⟩,
    fun u i r hr => ?_, fun g t o s i r hfree _ ha hl hf hr => ?_,
    fun g t o s w j e es p q after hafter hfree hi hw hj hring hp hq => ?_⟩
  · have hfind : u.age.find? (sealedManual u) = some i :=
      List.find?_eq_some_iff_append.mpr ⟨hi, old, new, hage, fun j hj => by simp [hold j hj]⟩
    rw [chooseSlot_full hfull, hfind]
    rfl
  · have hnone : u.age.find? (sealedManual u) = none := List.find?_eq_none.mpr fun j hj => by simp [hman j hj]
    have hfind : u.age.reverse.find? (sealedTrip u) = some i := by
      refine List.find?_eq_some_iff_append.mpr ⟨hi, new.reverse, old.reverse, by rw [hage]; simp, fun j hj => ?_⟩
      simp [hnew j (List.mem_reverse.mp hj)]
    rw [chooseSlot_full hfull, hnone, hfind]
    rfl
  · simp only [sealedManual, sealedTrip, hr]
    exact ⟨trivial, trivial⟩
  · obtain ⟨u, hu, hrcu, hepisode, -⟩ := exec_trip_report hfree g t o
    have hrcu0 : (stationTripHolds { s with now := t }).rcu = s.rcu := rfl
    have ha0 : (stationTripHolds { s with now := t }).pru.active = true := ha
    have hfresh : latchOf .stationTrip (stationTripHolds { s with now := t }).pru.latched = none :=
      List.find?_eq_none.mpr fun x hx => by simpa using hl x hx
    have hcls : (stationTripHolds { s with now := t }).set.classInForce .stationTrip = .b := rfl
    generalize stationTripHolds { s with now := t } = s0 at hrcu0 ha0 hfresh hcls hrcu hepisode
    have hslots := takeReport_rcu o s.pru.periodTaken hcls (by decide)
    rw [takeCause_fresh_rcu _ _ ha0 hfresh, hrcu0] at hslots
    have hsub := rcuSub_slots hf hr .stationTrip s.pru.periodTaken
    have hu' : u.rcu.slots = if s.rcu.pinned = some r.number then s.rcu.slots.put i (some (addSub .stationTrip s.pru.periodTaken r))
        else s.rcu.slots := by
      rw [hrcu]
      exact (congrArg Rcu.slots hslots :).trans hsub
    refine ⟨u, hu, ?_, fun j hj => ?_, fun hp => ?_, fun hp => ?_⟩
    · rw [latchedActive_of_episode hepisode]
      exact takeReport_latches o _ (by rw [hcls]; decide)
    · rw [hu']
      split
      · exact Six.get_put_ne _ _ hj
      · rfl
    · rw [hu', if_neg hp, hr]
    · rw [hu', if_pos hp, Six.get_put]
      rfl
  · obtain ⟨u, hu, hrcu, hepisode, hnotices⟩ := exec_trip_report hfree g t o
    have hrcu0 : (stationTripHolds { s with now := t }).rcu = s.rcu := rfl
    have hset0 : (stationTripHolds { s with now := t }).set = s.set := rfl
    have hview0 : (stationTripHolds { s with now := t }).pru.driveView = s.pru.driveView := rfl
    have hi0 : (stationTripHolds { s with now := t }).pru.active = false := hi
    have hcls0 : (stationTripHolds { s with now := t }).set.classInForce .stationTrip ≠ .w := fun h => nomatch h
    generalize stationTripHolds { s with now := t } = s0 at hrcu0 hset0 hview0 hi0 hcls0 hrcu hepisode hnotices
    obtain ⟨ms, htrunc, hring', hlatest, hcounter, hsealed⟩ : ∃ ms, truncateManual s.rcu = (w, ms) ∧ w.ring = s.rcu.ring ∧
        w.latest = s.rcu.latest ∧ w.counter = s.rcu.counter ∧
        ∀ (i : SlotIx) (r : Record) (k : Station), s.rcu.filling = some i → s.rcu.slots.get i = some r →
          r.interest.has k = true → .notice .recordSealed k ∈ ms := by
      rcases hw with ⟨hf, rfl⟩ | ⟨i, r, hf, hr, hkind, rfl⟩
      · exact ⟨[], truncateManual_free hf, rfl, rfl, rfl, fun i r k h => by rw [hf] at h; cases h⟩
      · refine ⟨sealedMsgs { r with isSealed := true, truncated := true }, by simp [truncateManual, hf, hr, hkind], rfl, rfl, rfl,
          fun j q k hj hq hk => ?_⟩
        cases hf.symm.trans hj
        cases hr.symm.trans hq
        exact (mem_sealedMsgs k _).mpr hk
    obtain ⟨x, htrig, hst⟩ := rcuTrigger_started (z := s.set) (k := .stationTrip) (c := .b) (d := s.pru.driveView) htrunc hj
    rw [formRecord_eq (hring'.trans hring) hp hq, hring', hlatest] at hst
    have hopen := takeReport_stationTrip o s.pru.periodTaken hi0
    have htells : ∀ n k, .notice n k ∈ (rcuTrigger s.set .stationTrip .b s.pru.driveView s.rcu).2 → n ∈ (u.links.get k).notices :=
      fun n k h => by
        have h : .notice n k ∈ (rcuTrigger s0.set .stationTrip .b s0.pru.driveView s0.rcu).2 := by rwa [hset0, hview0, hrcu0]
        refine hnotices k n ?_
        rw [hopen]
        exact ((demand_rest o .b _).2.2.1 k).notices _ (openEpisode_tells h)
    have hrec : u.pru.record = some s.rcu.counter := by
      have he := takeReport_episode o s.pru.periodTaken (s := s0) (k := .stationTrip) hcls0
      rw [hepisode.record, he.record, pruReport, if_neg (by simp [hi0]), hrcu0]
    have hd := (demand_rest o .b (openEpisode .stationTrip .b s0)).2.1
    rw [← hopen, ← hrcu, openEpisode_eq] at hd
    dsimp only at hd
    rw [hset0, hview0, hrcu0, htrig] at hd
    have hslots : u.rcu.slots = x.slots := (congrArg Rcu.slots hd :)
    have hafter : after = numberAfter := hafter
    have hnext : u.rcu.counter = x.counter := (congrArg Rcu.counter hd :)
    have hmark : (!decide (q ≤ 1)) = decide (1 < q) := decide_not.symm.trans (decide_eq_decide.mpr Nat.not_le)
    refine ⟨u, _, hu, (congrArg (·.get j) hslots).trans hst.slot,
      fun h hh => (congrArg (·.get h) hslots).trans (hst.others h hh), hcounter, rfl, rfl, rfl, rfl, rfl, rfl, rfl, rfl, rfl, rfl,
      rfl, rfl, rfl, rfl, fun f hf => ⟨spanCapture_head hf _, spanCapture_head hf _⟩, ?_, rfl, ?_, ?_, ?_, hrec, ?_,
      fun i r k hf hr hk => ?_, fun r k hr hk hm => ?_⟩
    · rw [hafter, hslots, hnext, ← hcounter]
      exact hst.counter
    · exact (congrArg Rcu.filling hd :).trans (hst.filling.trans (by simp only [decide_eq_true_eq]))
    · exact (congrArg Rcu.mark hd :).trans (hst.mark.trans hmark)
    · exact (congrArg Rcu.pinned hd :).trans (congrArg some hcounter)
    · exact (congrArg (fun v : Rcu => v.age.getLast?) hd :).trans hst.newest
    · refine htells _ _ ?_
      rw [htrig]
      exact List.mem_append_left _ (hsealed i r k hf hr hk)
    · refine htells _ _ ?_
      rw [htrig]
      refine List.mem_append_right _ (List.mem_append_left _ ?_)
      rw [hr]
      exact mem_lostMsgs hk hm

end Sys2Proof.Machine
end

section
/-! Requests as they arrive on a link: as commands and as bytes, waiting or discarded, and those a link turns away. -/

namespace Sys2Proof.Machine

/-! ### The arrival of a request -/

/-- A command that brings a request is its arrival on its link (R194). -/
theorem exec_commandRequest {c : Instr} {k : Station} {t : Tick} {r : Request} {o : Sched} (s : State)
    (h : commandRequest c = some (k, t, r, o)) : exec c s = .next (completeRequest k r o { s with now := t }) := by
  cases c with
  | putSetting link g id v u p =>
    by_cases hv : v.length ≤ 246
    · cases (if_pos hv).symm.trans h
      exact congrArg Host.Outcome.next (if_pos hv)
    · cases (if_neg hv).symm.trans h
  | status | notices | getSetting | listRecords | openRecord | nextChunk | channel | table | capture | speedRef | start
  | stop | toAux | fromAux | permit | withdraw | trip | resetTrip | clearTable =>
    cases h
    rfl
  | _ => cases h

/-- Two bytes side by side, as a number (R202). -/
theorem toNat_append_byte (hi lo : Byte) : (hi ++ lo).toNat = hi.toNat * 256 + lo.toNat := by
  rw [BitVec.toNat_append, ← Nat.shiftLeft_add_eq_or_of_lt lo.isLt, Nat.shiftLeft_eq]

/-- The check bytes of a body whose check value is `hi` and `lo` side by side (R192). -/
theorem checkPasses_of_crc {body : List Byte} {hi lo : Byte} (h : crc (BitVec.ofNat 8 body.length :: body) = hi ++ lo) :
    checkPasses body hi lo = true := by
  have hlo := lo.isLt
  have h1 : BitVec.ofNat 8 ((hi.toNat * 256 + lo.toNat) / 256 ^ 1) = hi := by
    rw [show (hi.toNat * 256 + lo.toNat) / 256 ^ 1 = hi.toNat by omega, BitVec.ofNat_toNat, BitVec.setWidth_eq]
  have h0 : BitVec.ofNat 8 ((hi.toNat * 256 + lo.toNat) / 256 ^ 0) = lo := by
    refine BitVec.eq_of_toNat_eq ?_
    rw [BitVec.toNat_ofNat]
    omega
  rw [checkPasses, checkBytes, h, toNat_append_byte, be, be, be, h1, h0, decide_eq_true_eq]

/-- A link whose bytes have made a request is in HUNT, its line high. -/
def linkHeard (l : Link) : Link := { l with rx := .hunt, gap := none, low := none }

/-- A link whose gap timer has not passed is found as it is (R193). -/
theorem linkCaughtUp_of_fits {l : Link} {t : Tick} (h : ∀ g, l.gap = some g → (t - g).toNat ≤ 10000) :
    linkCaughtUp t l = l := by
  have hpass : gapPassed t l = false := by
    unfold gapPassed
    cases hg : l.gap with
    | none => rfl
    | some g => exact decide_eq_false (Nat.not_lt.mpr (h g hg))
  rw [linkCaughtUp, hpass, if_neg Bool.false_ne_true]

/-- The second check byte of a frame that passes its check delivers the request of its body (R193). -/
theorem exec_rxByte_request {k : Station} {s : State} {t : Tick} {r : Request} {hi v : Byte} (o : Sched)
    (hheard : heard s.rate t (s.links.get k) = true)
    (hgap : ∀ g, (s.links.get k).gap = some g → (t - g).toNat ≤ 10000)
    (hrx : (s.links.get k).rx = .check (r.kind :: r.tag :: r.payload) (some hi))
    (hcrc : crc (BitVec.ofNat 8 (r.kind :: r.tag :: r.payload).length :: r.kind :: r.tag :: r.payload) = hi ++ v) :
    exec (.rxByte k v t o) s =
      .next (completeRequest k r o { s with now := t, links := s.links.put k (linkHeard (s.links.get k)) }) := by
  have hat : linkAtByte t (s.links.get k) = { s.links.get k with low := none } := by
    rw [linkAtByte, linkCaughtUp_of_fits hgap]
  have hcheck := checkPasses_of_crc hcrc
  have hbyte : linkByte v t (linkAtByte t (s.links.get k)) = (linkHeard (s.links.get k), some r) := by
    rw [hat, linkByte, hrx]
    dsimp only
    rw [hcheck, if_pos rfl]
    rfl
  change Host.Outcome.next (if heard s.rate t (s.links.get k) then takeByte k v t o s else s) = _
  rw [if_pos hheard, takeByte, hbyte]
  rfl

theorem exec_replySent {k : Station} {s : State} {rp : Reply} (h : (s.links.get k).reply = some rp) (o : Sched) :
    exec (.replySent k o) s = .next (replySentAt k o { s with now := replyEnd s.rate rp }) := by
  change Host.Outcome.next (match (s.links.get k).reply with | none => s | some r => replySentAt k o { s with now := replyEnd s.rate r }) = _
  rw [h]

/-! ### Requests that a link turns away -/

theorem actRequest_unknown {st : Station} {r : Request} {q : ReqKind} (hk : kindOf r.kind = some q)
    (hq : allowedOn q st = false) (o : Sched) (s : State) : actRequest st r o s = plain s .unknown := by
  simp [actRequest, hk, hq]

theorem actRequest_no_kind {r : Request} (hk : kindOf r.kind = none) (st : Station) (o : Sched) (s : State) :
    actRequest st r o s = plain s .unknown := by
  simp [actRequest, hk]

theorem actRequest_malformed {st : Station} {r : Request} {q : ReqKind} (hk : kindOf r.kind = some q)
    (hq : allowedOn q st = true) (hl : lengthFits q r.payload.length = false) (o : Sched) (s : State) :
    actRequest st r o s = plain s .malformed := by
  simp [actRequest, hk, hq, hl]

theorem completeRequest_plain {st : Station} {r : Request} {o : Sched} {s : State} {w : Status}
    (hfree : (s.links.get st).reply = none) (h : actRequest st r o s = plain s w) :
    completeRequest st r o s = startReply st [r.kind, r.tag, BitVec.ofNat 8 (statusCode w)] s := by
  rw [completeRequest_of_free hfree, takeRequest, h]
  rfl

/-- The KINDs of a range of bytes (section 11.1). -/
theorem kindOf_between {v : Byte} {lo hi : Nat} (h1 : BitVec.ofNat 8 lo ≤ v) (h2 : v ≤ BitVec.ofNat 8 hi) (hlo : lo < 256)
    (hhi : hi < 256) : ∃ n, lo ≤ n ∧ n ≤ hi ∧ v = BitVec.ofNat 8 n := by
  rw [BitVec.le_def, BitVec.toNat_ofNat] at h1 h2
  exact ⟨v.toNat, by omega, by omega, by rw [BitVec.ofNat_toNat, BitVec.setWidth_eq]⟩

/-- A KIND from SPEED REF to FROM AUX is a request of the control station (section 10.7). -/
theorem kindOf_control {v : Byte} (h1 : 0x10#8 ≤ v) (h2 : v ≤ 0x14#8) :
    ∃ q, kindOf v = some q ∧ ∀ k, k ≠ .c → allowedOn q k = false := by
  obtain ⟨n, hlo, hhi, rfl⟩ := kindOf_between (lo := 16) (hi := 20) h1 h2 (by decide) (by decide)
  interval_cases n
  · exact ⟨.speedRef, rfl, fun k hk => by cases k <;> simp_all [allowedOn]⟩
  · exact ⟨.start, rfl, fun k hk => by cases k <;> simp_all [allowedOn]⟩
  · exact ⟨.stop, rfl, fun k hk => by cases k <;> simp_all [allowedOn]⟩
  · exact ⟨.toAux, rfl, fun k hk => by cases k <;> simp_all [allowedOn]⟩
  · exact ⟨.fromAux, rfl, fun k hk => by cases k <;> simp_all [allowedOn]⟩

/-- A KIND from PERMIT to RESET TRIP is a request of the protection station, without payload (section 10.7). -/
theorem kindOf_protection {v : Byte} (h1 : 0x20#8 ≤ v) (h2 : v ≤ 0x23#8) :
    ∃ q, kindOf v = some q ∧ (∀ k, k ≠ .p → allowedOn q k = false) ∧ allowedOn q .p = true ∧
      ∀ n, lengthFits q n = decide (n = 0) := by
  obtain ⟨n, hlo, hhi, rfl⟩ := kindOf_between (lo := 32) (hi := 35) h1 h2 (by decide) (by decide)
  interval_cases n
  · exact ⟨.permit, rfl, fun k hk => by cases k <;> simp_all [allowedOn], rfl, fun _ => rfl⟩
  · exact ⟨.withdraw, rfl, fun k hk => by cases k <;> simp_all [allowedOn], rfl, fun _ => rfl⟩
  · exact ⟨.trip, rfl, fun k hk => by cases k <;> simp_all [allowedOn], rfl, fun _ => rfl⟩
  · exact ⟨.resetTrip, rfl, fun k hk => by cases k <;> simp_all [allowedOn], rfl, fun _ => rfl⟩

/-- The KINDs are the codes of the twenty requests (section 11.1). -/
theorem kindOf_none {v : Byte} (h : v ∉ [0x01#8, 0x02#8, 0x03#8, 0x04#8, 0x05#8, 0x06#8, 0x07#8, 0x08#8, 0x09#8, 0x0A#8,
    0x10#8, 0x11#8, 0x12#8, 0x13#8, 0x14#8, 0x20#8, 0x21#8, 0x22#8, 0x23#8, 0x30#8]) : kindOf v = none := by
  have hmap : v ∉ allKinds.map kindCode := h
  refine List.find?_eq_none.mpr fun q hq => ?_
  simp only [decide_eq_true_eq]
  rintro rfl
  exact hmap (List.mem_map_of_mem hq)

/-- Settles O33: a request command is `completeRequest`, and so is the last byte of its frame; what a link turns away is
answered by `actRequest`'s tests. -/
theorem requestsQueueAndForeignOnes : Obligations.RequestsQueueAndForeignOnes := by
  refine ⟨⟨fun c k t r o s rp hc hrp => ⟨fun hw => ?_, fun w hw => ?_⟩, fun c k t r o s v hi hc hheard hgap hrx hcrc => ?_,
    fun k o s rp e hrp he => ⟨fun hw => ?_, fun c r hc hw => ?_⟩⟩, fun c k t r o s hc hfree hkind => ?_,
    fun k g pl kd o s body lo hi t answer hbody hfree hheard hrx hgap hcrc hanswer => ?_⟩
  · rw [exec_commandRequest s hc]
    simp [completeRequest, hrp, hw, linkWait]
  · rw [exec_commandRequest s hc]
    simp [completeRequest, hrp, hw]
  · rw [exec_rxByte_request o hheard hgap hrx hcrc, exec_commandRequest _ hc]
    rfl
  · have hend : replyEnd s.rate rp = e := by
      rw [he]; cases s.rate <;> rfl
    rw [exec_replySent hrp, replySentAt]
    simp only [hw, hend]
  · have hend : replyEnd s.rate rp = e := by
      rw [he]; cases s.rate <;> rfl
    rw [exec_replySent hrp, replySentAt]
    simp only [hw, hend]
    rw [exec_commandRequest _ hc, completeRequest_of_free (by simp)]
  · have hq : ∃ q, kindOf r.kind = some q ∧ allowedOn q k = false := by
      rcases hkind with ⟨hr, rfl⟩ | ⟨h1, h2, hk⟩ | ⟨h1, h2, hk⟩ | ⟨hr, hk⟩
      · exact ⟨.capture, by rw [hr]; rfl, rfl⟩
      · obtain ⟨q, hq, hall⟩ := kindOf_control h1 h2
        exact ⟨q, hq, hall k hk⟩
      · obtain ⟨q, hq, hall, -⟩ := kindOf_protection h1 h2
        exact ⟨q, hq, hall k hk⟩
      · exact ⟨.clearTable, by rw [hr]; rfl, by cases k <;> simp_all [allowedOn]⟩
    obtain ⟨q, hq, hallowed⟩ := hq
    rw [exec_commandRequest s hc, completeRequest_plain (s := { s with now := t }) hfree (actRequest_unknown hq hallowed ..)]
    rfl
  · subst hbody
    have hfree' : ((s.links.put k (linkHeard (s.links.get k))).get k).reply = none := by rw [Triple.get_put]; exact hfree
    have hbyte := exec_rxByte_request (r := { kind := kd, tag := g, payload := pl }) o hheard hgap hrx hcrc
    have hgives : ∀ w : Status, (∀ s', actRequest k { kind := kd, tag := g, payload := pl } o s' = plain s' w) →
        exec (.rxByte k lo t o) s = answer (BitVec.ofNat 8 (statusCode w)) := fun w hw => by
      rw [hbyte, completeRequest_plain (s := { s with now := t, links := s.links.put k (linkHeard (s.links.get k)) })
        hfree' (hw _), hanswer]
      rfl
    have hmal : ∀ q : ReqKind, kindOf kd = some q → allowedOn q k = true → lengthFits q pl.length = false →
        exec (.rxByte k lo t o) s = answer 0x05#8 := fun q hq ha hl =>
      hgives .malformed fun s' => actRequest_malformed hq ha hl o s'
    refine ⟨fun hnot => hgives .unknown fun s' => actRequest_no_kind (kindOf_none hnot) .., fun n hm hne => ?_, fun hk hlen => ?_,
      fun hk hp hne => ?_, fun n hm hc hne => ?_, fun h1 h2 hp hne => ?_, fun hk hm hne => ?_⟩
    · simp only [List.mem_cons, Prod.mk.injEq, List.not_mem_nil, or_false] at hm
      rcases hm with ⟨rfl, rfl⟩ | ⟨rfl, rfl⟩ | ⟨rfl, rfl⟩ | ⟨rfl, rfl⟩ | ⟨rfl, rfl⟩ | ⟨rfl, rfl⟩ | ⟨rfl, rfl⟩ | ⟨rfl, rfl⟩
      · exact hmal .status rfl rfl (decide_eq_false hne)
      · exact hmal .notices rfl rfl (decide_eq_false hne)
      · exact hmal .getSetting rfl rfl (decide_eq_false hne)
      · exact hmal .listRecords rfl rfl (decide_eq_false hne)
      · exact hmal .openRecord rfl rfl (decide_eq_false hne)
      · exact hmal .nextChunk rfl rfl (decide_eq_false hne)
      · exact hmal .channel rfl rfl (decide_eq_false hne)
      · exact hmal .table rfl rfl (decide_eq_false hne)
    · subst hk
      exact hmal .putSetting rfl rfl (decide_eq_false (by omega))
    · subst hk
      exact hmal .capture rfl (by cases k <;> simp_all [allowedOn])
        (decide_eq_false fun h => hne (List.eq_nil_of_length_eq_zero h))
    · simp only [List.mem_cons, Prod.mk.injEq, List.not_mem_nil, or_false] at hm
      subst hc
      rcases hm with ⟨rfl, rfl⟩ | ⟨rfl, rfl⟩ | ⟨rfl, rfl⟩ | ⟨rfl, rfl⟩ | ⟨rfl, rfl⟩
      · exact hmal .speedRef rfl rfl (decide_eq_false hne)
      · exact hmal .start rfl rfl (decide_eq_false hne)
      · exact hmal .stop rfl rfl (decide_eq_false hne)
      · exact hmal .toAux rfl rfl (decide_eq_false hne)
      · exact hmal .fromAux rfl rfl (decide_eq_false hne)
    · obtain ⟨q, hq, -, ha, hl⟩ := kindOf_protection h1 h2
      subst hp
      exact hmal q hq ha ((hl _).trans (decide_eq_false fun h => hne (List.eq_nil_of_length_eq_zero h)))
    · subst hk hm
      exact hmal .clearTable rfl rfl (decide_eq_false hne)

end Sys2Proof.Machine
end

section
/-! PUT SETTING: the tests in order, the value brought into the range of its form, and the note of a channel's profile
(R181, R182, R186). -/

namespace Sys2Proof.Machine

theorem exec_putSetting {k : Station} {s : State} {v : List Byte} (hfree : (s.links.get k).reply = none)
    (hlen : v.length ≤ 246) (g : Byte) (id : BitVec 16) (t : Tick) (o : Sched) :
    exec (.putSetting k g id v t o) s =
      .next (replied k .putSetting g (reqPutSetting k id.toNat v { s with now := t })) := by
  have htwo : (operand2 id).length = 2 := operand2_length id
  have hfits : lengthFits .putSetting (operand2 id ++ v).length = true := by
    rw [List.length_append, htwo]
    exact decide_eq_true (Nat.le_add_right 2 v.length)
  have hhand : handRequest k .putSetting (operand2 id ++ v) o { s with now := t } =
      reqPutSetting k id.toNat v { s with now := t } := by
    have hid : beNat ((operand2 id ++ v).take 2) = id.toNat := by
      rw [List.take_left' htwo]; exact beNat_operand2 id
    rw [handRequest, hid, List.drop_left' htwo]
  have harrives := arrives_eq .putSetting hfree rfl hfits hhand g
  have hexec : exec (.putSetting k g id v t o) s =
      .next (if v.length ≤ valueMax then requestArrives k .putSetting g (operand2 id ++ v) t o s else s) := rfl
  rw [hexec, if_pos (show v.length ≤ valueMax from hlen), harrives]

theorem specOf_ne_zero {id : BitVec 16} (h : id ≠ 0#16) : specOf id.toNat = catalogue[id.toNat - 1]? :=
  if_neg fun h0 => h (BitVec.eq_of_toNat_eq h0)

theorem putTest_reads {st : Station} {id : Nat} {r : SetSpec} {bs : List Byte} {v : SetValue} (hr : specOf id = some r)
    (howner : r.owner = st) (hread : readValue r.form bs = some v) :
    putTest st id bs = .staged (decide (clampValue r.form v ≠ v)) (clampValue r.form v) := by
  simp [putTest, hr, howner, hread]

theorem putTest_notOwner {st : Station} {id : Nat} {r : SetSpec} (hr : specOf id = some r) (howner : r.owner ≠ st)
    (bs : List Byte) : putTest st id bs = .notOwner := by
  simp [putTest, hr, howner]

theorem putTest_unknown {st : Station} {id : Nat} (hr : specOf id = none) (bs : List Byte) :
    putTest st id bs = .malformed := by
  simp [putTest, hr]

theorem putTest_malformed {st : Station} {id : Nat} {r : SetSpec} {bs : List Byte} (hr : specOf id = some r)
    (howner : r.owner = st) (hread : readValue r.form bs = none) : putTest st id bs = .malformed := by
  simp [putTest, hr, howner, hread]

/-- The channel whose profile a row of the catalogue is: of every other form none. -/
def rowChannelFits (id : Nat) : Bool :=
  match catalogue[id - 1]? with
  | none => true
  | some r =>
    match r.form, profileChan id with
    | .profile _, some n => decide (profileId n = id)
    | .profile _, none => false
    | _, none => true
    | _, some _ => false

theorem rowChannelFits_all : ∀ id < 88, id ≠ 0 → rowChannelFits id = true := by decide +kernel

theorem id_le_of_row {id : Nat} {r : SetSpec} (hr : catalogue[id - 1]? = some r) : id < 88 := by
  have hlt : id - 1 < catalogue.length := (List.getElem?_eq_some_iff.mp hr).1
  have hlen : catalogue.length = 87 := by decide +kernel
  omega

theorem rowChannelFits_of_row {id : Nat} {r : SetSpec} (hr : catalogue[id - 1]? = some r) (h0 : id ≠ 0) :
    rowChannelFits id = true :=
  rowChannelFits_all id (id_le_of_row hr) h0

theorem profileChan_of_profile {id : Nat} {r : SetSpec} {d : Profile} (hr : catalogue[id - 1]? = some r) (h0 : id ≠ 0)
    (hform : r.form = .profile d) : ∃ n, profileChan id = some n ∧ profileId n = id := by
  have h := rowChannelFits_of_row hr h0
  simp only [rowChannelFits, hr, hform] at h
  cases hn : profileChan id with
  | none => simp [hn] at h
  | some n => exact ⟨n, rfl, by simpa [hn] using h⟩

/-- A form that is no profile's. -/
def notProfile : Form → Bool
  | .profile _ => false
  | _ => true

theorem profileChan_of_other {id : Nat} {r : SetSpec} (hr : catalogue[id - 1]? = some r) (h0 : id ≠ 0)
    (hform : notProfile r.form = true) : profileChan id = none := by
  have h := rowChannelFits_of_row hr h0
  simp only [rowChannelFits, hr] at h
  cases hn : profileChan id with
  | none => rfl
  | some n => cases hf : r.form <;> simp_all [notProfile]

theorem staging_other {id : Nat} (h : profileChan id = none) (v : SetValue) (s : State) :
    staging id v s = { s with set := stageValue id v s.set } := by
  rw [staging, h]

theorem profileId_inj {n m : Chan} (h : profileId n = profileId m) : n = m := by
  cases n <;> cases m <;> simp_all [profileId, chanNumber]

/-- An accepted value of a form that is no profile's is staged and answered with its bytes (R182, R196). -/
theorem exec_putSetting_other {k : Station} {s : State} {id : BitVec 16} {r : SetSpec} {bs : List Byte} {v : SetValue}
    (hfree : (s.links.get k).reply = none) (hlen : bs.length ≤ 246) (h0 : id ≠ 0#16)
    (hr : catalogue[id.toNat - 1]? = some r) (howner : r.owner = k) (hform : notProfile r.form = true)
    (hread : readValue r.form bs = some v) (g : Byte) (t : Tick) (o : Sched) :
    exec (.putSetting k g id bs t o) s = .next (startReply k
      (0x04#8 :: g :: (if clampValue r.form v = v then 0x00#8 else 0x01#8) ::
        (be 2 id.toNat ++ valueBytes (clampValue r.form v)))
      { s with now := t,
               set := { s.set with staged := s.set.staged.set (id.toNat - 1) (some (clampValue r.form v)) } }) := by
  have hne : id.toNat ≠ 0 := fun h => h0 (BitVec.eq_of_toNat_eq h)
  rw [exec_putSetting hfree hlen, reqPutSetting,
    putTest_reads ((specOf_ne_zero h0).trans hr) howner hread]
  simp only [replied, staging_other (profileChan_of_other hr hne hform)]
  by_cases hc : clampValue r.form v = v
  · simp only [hc, ne_eq, not_true, decide_false, Bool.false_eq_true, if_false, if_true]
    rfl
  · simp only [ne_eq, hc, not_false_eq_true, decide_true, if_true, if_false]
    rfl

theorem numRow_ordered : ∀ r ∈ catalogue, (match r.form with | .num lo hi _ => decide (lo ≤ hi) | _ => true) = true := by
  decide +kernel

theorem clampNat_within {lo hi : Nat} (h : lo ≤ hi) (n : Nat) : lo ≤ clampNat lo hi n ∧ clampNat lo hi n ≤ hi := by
  unfold clampNat
  split
  · omega
  · split <;> omega

theorem beNat_pair (x y : Byte) : beNat [x, y] = x.toNat * 256 + y.toNat := by simp [beNat]

theorem markerCode_of_byte {x : Byte} (h : x.toNat ≤ 2) :
    ∃ m, markerOf x.toNat = some m ∧ m = (match x.toNat with | 0 => .ka | 1 => .kb | _ => .ks) ∧
      be1 (markerCode m) = [x] := by
  have hx : x = 0#8 ∨ x = 1#8 ∨ x = 2#8 := by
    have : x.toNat = 0 ∨ x.toNat = 1 ∨ x.toNat = 2 := by omega
    rcases this with h | h | h
    · exact .inl (BitVec.eq_of_toNat_eq h)
    · exact .inr (.inl (BitVec.eq_of_toNat_eq h))
    · exact .inr (.inr (BitVec.eq_of_toNat_eq h))
  rcases hx with rfl | rfl | rfl <;> exact ⟨_, rfl, rfl, rfl⟩

theorem markerOf_none {n : Nat} (h : 2 < n) : markerOf n = none := by
  unfold markerOf
  split
  · omega
  · omega
  · omega
  · rfl

theorem readProfile_length {bs : List Byte} (h : bs.length ≠ 13) : readProfile bs = none := by
  unfold readProfile
  split
  · exact absurd rfl h
  · rfl

theorem readProfile_marker {bs : List Byte} {x : Byte} (hx : bs[0]? = some x) (h : 2 < x.toNat) :
    readProfile bs = none := by
  unfold readProfile
  split
  · have hx := Option.some.inj hx
    subst hx
    simp [markerOf_none h]
  · rfl

theorem readAction_length {bs : List Byte} (h : bs.length ≠ 3) : readAction bs = none := by
  unfold readAction
  split
  · exact absurd rfl h
  · rfl

theorem readAction_code {bs : List Byte} {x : Byte} (hx : bs[1]? = some x) (h : 1 < x.toNat) : readAction bs = none := by
  unfold readAction
  split
  · have hx := Option.some.inj hx
    subst hx
    split
    · omega
    · omega
    · rfl
  · rfl

theorem readAction_byte (al fl : Byte) {x : Byte} (h : x.toNat ≤ 1) :
    readAction [al, x, fl] = some { alertLevel := al.toNat, dangerTrip := decide (x = 0#8), faultLevel := fl.toNat } ∧
      be1 (if decide (x = 0#8) then 0 else 1) = [x] := by
  have hx : x = 0#8 ∨ x = 1#8 := by
    have : x.toNat = 0 ∨ x.toNat = 1 := by omega
    exact this.imp BitVec.eq_of_toNat_eq BitVec.eq_of_toNat_eq
  rcases hx with rfl | rfl <;> exact ⟨rfl, rfl⟩

theorem readValue_code_none {cs : List Nat} {d : Nat} {v : List Byte} (h : ∀ x : Byte, x.toNat ∈ cs → v ≠ [x]) :
    readValue (.code cs d) v = none := by
  match v with
  | [] => rfl
  | _ :: _ :: _ => rfl
  | [x] =>
    have hx : x.toNat ∉ cs := fun hm => h x hm rfl
    simp [readValue, hx]

/-- A PUT SETTING turned away names its identifier and changes nothing (R181). -/
theorem exec_putSetting_malformed {k : Station} {s : State} {id : BitVec 16} {v : List Byte}
    (hfree : (s.links.get k).reply = none) (hlen : v.length ≤ 246) (h : putTest k id.toNat v = .malformed)
    (g : Byte) (t : Tick) (o : Sched) :
    exec (.putSetting k g id v t o) s =
      .next (startReply k (0x04#8 :: g :: 0x05#8 :: be 2 id.toNat) { s with now := t }) := by
  rw [exec_putSetting hfree hlen, reqPutSetting, h]
  rfl

theorem catalogue_beyond {n : Nat} (h : 87 ≤ n) : catalogue[n]? = none :=
  List.getElem?_eq_none (by have : catalogue.length = 87 := by decide +kernel
                            omega)

/-- Settles O38, form by form. -/
theorem settingsAreStagedInRange : Obligations.SettingsAreStagedInRange := by
  intro k g id t o s stages within two hfree hstages hwithin htwo
  have hw : ∀ lo hi n, within lo hi n = clampNat lo hi n := fun lo hi n => by rw [hwithin]; rfl
  have ht : ∀ x y, two x y = beNat [x, y] := fun x y => by rw [htwo, beNat_pair]
  have hne : id ≠ 0#16 → id.toNat ≠ 0 := fun h0 h => h0 (BitVec.eq_of_toNat_eq h)
  refine ⟨fun r lo hi d m n h0 hr howner hform hm => ?_, fun r codes d v h0 hr howner hform hv => ?_,
    fun r n d p q b0 b1 b2 b3 b4 b5 b6 b7 b8 b9 b10 b11 b12 h0 hr howner hform hid hb hp hq => ?_,
    fun r d hr hform h0 => ?_, fun r d a c b0 b1 b2 h0 hr howner hform hb ha hc => ?_,
    fun r v hlen h0 hr howner => ?_, fun v hlen hbad => ?_⟩
  · have hread : readValue r.form (be 4 n.toNat) = some (.num n.toNat) := by
      rw [hform, readValue, if_pos (be_length 4 _), beNat_be_four n.isLt]
    have hclamp : clampValue r.form (.num n.toNat) = .num m := by rw [hform, hm]; rfl
    have hput := exec_putSetting_other hfree (by rw [be_length]; decide) h0 hr howner (by rw [hform]; rfl) hread g t o
    rw [hclamp] at hput
    have hlohi := numRow_ordered r (List.mem_of_getElem? hr)
    rw [hform] at hlohi
    refine ⟨?_, hm ▸ clampNat_within (of_decide_eq_true hlohi) n.toNat⟩
    simp only [SetValue.num.injEq] at hput
    exact hput
  · have hread : readValue r.form [v] = some (.code v.toNat) := by
      simp [hform, readValue, hv]
    have hclamp : clampValue r.form (.code v.toNat) = .code v.toNat := by rw [hform]; rfl
    have hput := exec_putSetting_other hfree (Nat.le_of_ble_eq_true rfl) h0 hr howner (by rw [hform]; rfl) hread g t o
    rw [hclamp, if_pos rfl] at hput
    have hbyte : valueBytes (.code v.toNat) = [v] := by simp [valueBytes, be1]
    rw [hput, hbyte, hstages]
  · have hput := exec_putSetting hfree
      (v := [b0, b1, b2, b3, b4, b5, b6, b7, b8, b9, b10, b11, b12]) (Nat.le_of_ble_eq_true rfl) g id t o
    obtain ⟨mk, hmk, hmarker, hbyte⟩ := markerCode_of_byte hb
    have hread : readValue r.form [b0, b1, b2, b3, b4, b5, b6, b7, b8, b9, b10, b11, b12] = some (.profile p) := by
      have hpm : p.marker = mk := by rw [hp]; exact hmarker.symm
      have hfields : readProfile [b0, b1, b2, b3, b4, b5, b6, b7, b8, b9, b10, b11, b12] =
          some { p with marker := mk } := by
        simp only [readProfile, hmk, hp, ht]
      rw [hform, readValue, hfields, ← hpm]
      rfl
    have hclamp : clampValue r.form (.profile p) = .profile q := by
      rw [hform, hq]
      simp only [hw]
      rfl
    obtain ⟨n', hchan, hn'⟩ := profileChan_of_profile hr (hne h0) hform
    obtain rfl : n' = n := profileId_inj (hn'.trans hid)
    have hbytes : valueBytes (.profile q) = b0 :: (be 1 q.w ++ be 2 q.syncAlert ++ be 2 q.syncDanger ++
        be 2 q.residAlert ++ be 2 q.residDanger ++ be 1 q.nAlert ++ be 1 q.nDanger ++ be 1 q.nRelease) := by
      have hqm : q.marker = mk := by rw [hq, hp]; exact hmarker.symm
      simp only [valueBytes, profileBytes, hqm, hbyte, be_one]
      rfl
    rw [hput, reqPutSetting, putTest_reads ((specOf_ne_zero h0).trans hr) howner hread, hclamp, ← hbytes]
    simp only [replied, staging, hchan]
    by_cases hpq : p = q
    · simp only [hpq, ne_eq, not_true, decide_false, Bool.false_eq_true, if_false, if_true]
      rfl
    · have hqp : SetValue.profile q ≠ .profile p := fun h => hpq (SetValue.profile.inj h).symm
      simp only [hqp, hpq, ne_eq, not_false_eq_true, decide_true, if_true, if_false]
      rfl
  · obtain ⟨n, -, hn⟩ := profileChan_of_profile hr (hne h0) hform
    exact ⟨n, hn.symm⟩
  · obtain ⟨hread', hbyte⟩ := readAction_byte b0 b2 hb
    have hread : readValue r.form [b0, b1, b2] = some (.action a) := by
      simp only [hform, readValue, hread', ha, Option.map_some]
    have hclamp : clampValue r.form (.action a) = .action c := by
      rw [hform, hc]
      simp only [hw]
      rfl
    have hput := exec_putSetting_other hfree (Nat.le_of_ble_eq_true rfl) h0 hr howner (by rw [hform]; rfl) hread g t o
    rw [hclamp] at hput
    have hbytes : valueBytes (.action c) = be 1 c.alertLevel ++ [b1] ++ be 1 c.faultLevel := by
      have hct : c.dangerTrip = decide (b1 = 0#8) := by rw [hc, ha]
      simp only [valueBytes, actionBytes, hct, hbyte, be_one]
    rw [hput, ← hbytes, hstages]
    by_cases hac : a = c
    · simp only [hac, if_true]
    · have hca : SetValue.action c ≠ .action a := fun h => hac (SetValue.action.inj h).symm
      simp only [if_neg hca, if_neg hac]
  · rw [exec_putSetting hfree hlen, reqPutSetting, putTest_notOwner ((specOf_ne_zero h0).trans hr) howner]
    rfl
  · by_cases h0 : id = 0#16
    · subst h0
      exact exec_putSetting_malformed hfree hlen (putTest_unknown rfl v) g t o
    · have hspec := specOf_ne_zero h0
      refine exec_putSetting_malformed hfree hlen ?_ g t o
      rcases hbad with h | h | ⟨r, lo, hi, d, hr, howner, hform, hv⟩ | ⟨r, codes, d, hr, howner, hform, hv⟩ |
        ⟨r, d, hr, howner, hform, hv⟩ | ⟨r, d, hr, howner, hform, hv⟩
      · exact absurd h h0
      · exact putTest_unknown (hspec.trans (catalogue_beyond (by omega))) v
      · exact putTest_malformed (hspec.trans hr) howner (by rw [hform, readValue, if_neg hv])
      · exact putTest_malformed (hspec.trans hr) howner (by rw [hform]; exact readValue_code_none hv)
      · have hread : readProfile v = none := hv.elim readProfile_length fun ⟨x, hx, h⟩ => readProfile_marker hx h
        exact putTest_malformed (hspec.trans hr) howner (by rw [hform, readValue, hread]; rfl)
      · have hread : readAction v = none := hv.elim readAction_length fun ⟨x, hx, h⟩ => readAction_code hx h
        exact putTest_malformed (hspec.trans hr) howner (by rw [hform, readValue, hread]; rfl)

end Sys2Proof.Machine
end

section
/-! The lines of a link: what a receiver takes from their levels, and the levels that a reply stands with (R191, R196,
R197). -/

namespace Sys2Proof.Machine

/-! ### A receiver on a line -/

theorem lineBits_eq (v : Byte) : lineBits v = [false, v.getLsbD 0, v.getLsbD 1, v.getLsbD 2, v.getLsbD 3, v.getLsbD 4,
    v.getLsbD 5, v.getLsbD 6, v.getLsbD 7, true] := rfl

theorem byteOfBits_bits : ∀ v : Byte, byteOfBits [v.getLsbD 0, v.getLsbD 1, v.getLsbD 2, v.getLsbD 3, v.getLsbD 4,
    v.getLsbD 5, v.getLsbD 6, v.getLsbD 7] = v := by decide +kernel

theorem listen_byte (v : Byte) (rest : List Bool) :
    listen .looking (lineBits v ++ rest) = .byte v :: listen .looking rest := by
  conv => rhs; rw [← byteOfBits_bits v]
  rfl

theorem listen_error (v : Byte) (rest : List Bool) :
    listen .looking ((lineBits v).take 9 ++ false :: rest) = .framingError :: listen .waiting rest := rfl

theorem listen_high (m : Nat) (rest : List Bool) :
    listen .looking (List.replicate m true ++ rest) = listen .looking rest := by
  induction m with
  | zero => rfl
  | succ m ih => exact ih

theorem listen_low (n : Nat) (rest : List Bool) :
    listen .waiting (List.replicate n false ++ rest) = listen .waiting rest := by
  induction n with
  | zero => rfl
  | succ n ih => exact ih

theorem listen_bytes (vs : List Byte) : listen .looking (vs.flatMap lineBits) = vs.map .byte := by
  induction vs with
  | nil => rfl
  | cons v vs ih => rw [List.flatMap_cons, listen_byte, ih, List.map_cons]

/-! ### A reply on the transmit line -/

theorem lineBits_length (v : Byte) : (lineBits v).length = 10 := rfl

theorem flatMap_lineBits_length (vs : List Byte) : (vs.flatMap lineBits).length = 10 * vs.length := by
  induction vs with
  | nil => rfl
  | cons v vs ih => rw [List.flatMap_cons, List.length_append, ih, lineBits_length, List.length_cons]; omega

theorem flatMap_lineBits_getD {vs : List Byte} {k j : Nat} {v : Byte} (hv : vs[k]? = some v) (hj : j < 10) :
    (vs.flatMap lineBits).getD (10 * k + j) true = (lineBits v).getD j true := by
  induction vs generalizing k with
  | nil => simp at hv
  | cons w vs ih =>
    rw [List.flatMap_cons]
    cases k with
    | zero =>
      obtain rfl : w = v := by simpa using hv
      rw [Nat.mul_zero, Nat.zero_add]
      exact List.getD_append (lineBits w) _ _ _ hj
    | succ k =>
      rw [List.getD_append_right _ _ _ _ (by rw [lineBits_length]; omega), lineBits_length,
        show 10 * (k + 1) + j - 10 = 10 * k + j by omega]
      exact ih (by simpa using hv)

/-- The first bytes of a line are its first bits. -/
theorem flatMap_lineBits_take (vs : List Byte) (m : Nat) :
    (vs.take m).flatMap lineBits = (vs.flatMap lineBits).take (10 * m) := by
  induction vs generalizing m with
  | nil => simp
  | cons v vs ih =>
    cases m with
    | zero => rfl
    | succ m =>
      rw [List.take_succ_cons, List.flatMap_cons, List.flatMap_cons, ih,
        show 10 * (m + 1) = (lineBits v).length + 10 * m by rw [lineBits_length]; omega, List.take_length_add_append]

theorem byteTicks_eq (rate : LinkRate) : byteTicks rate = 10 * bitTicks rate := by cases rate <;> rfl

theorem bitTicks_le (rate : LinkRate) : 0 < bitTicks rate ∧ bitTicks rate ≤ 20 := by cases rate <;> decide

theorem since_add {n : Nat} (a : Tick) (h : n < 4294967296) : since (a + BitVec.ofNat 32 n) a = n := by
  rw [since, BitVec.add_comm, BitVec.add_sub_cancel, BitVec.toNat_ofNat, Nat.mod_eq_of_lt h]

theorem replyLevel_at (rate : LinkRate) {r : Reply} {k j d : Nat} {v : Byte} (hlen : r.frame.length ≤ 254)
    (hv : r.frame[k]? = some v) (hj : j < 10) (hd : d < bitTicks rate) :
    replyLevel rate (r.started + BitVec.ofNat 32 (k * byteTicks rate + j * bitTicks rate + d)) r =
      (lineBits v).getD j true := by
  have hk : k < r.frame.length := (List.getElem?_eq_some_iff.mp hv).1
  obtain ⟨hpos, hmax⟩ := bitTicks_le rate
  have hfits : k * byteTicks rate + j * bitTicks rate + d < 4294967296 := by
    have hbyte : k * byteTicks rate ≤ 254 * 200 := Nat.mul_le_mul (by omega) (by rw [byteTicks_eq]; omega)
    have hbit : j * bitTicks rate ≤ 10 * 20 := Nat.mul_le_mul (by omega) hmax
    omega
  have hindex : (k * byteTicks rate + j * bitTicks rate + d) / bitTicks rate = 10 * k + j := by
    rw [byteTicks_eq, show k * (10 * bitTicks rate) + j * bitTicks rate + d = d + (10 * k + j) * bitTicks rate by ring,
      Nat.add_mul_div_right _ _ hpos, Nat.div_eq_of_lt hd, Nat.zero_add]
  rw [replyLevel, since_add _ hfits, hindex]
  exact flatMap_lineBits_getD hv hj

theorem replyLevel_after (rate : LinkRate) {t : Tick} {r : Reply}
    (h : r.frame.length * byteTicks rate ≤ since t r.started) : replyLevel rate t r = true := by
  rw [replyLevel]
  refine List.getD_eq_default _ _ ?_
  rw [flatMap_lineBits_length, Nat.le_div_iff_mul_le (bitTicks_le rate).1]
  calc 10 * r.frame.length * bitTicks rate = r.frame.length * byteTicks rate := by rw [byteTicks_eq]; ring
    _ ≤ since t r.started := h

theorem getD_take {α : Type} (xs : List α) (n i : Nat) (x : α) :
    (xs.take n).getD i x = if i < n then xs.getD i x else x := by
  rw [List.getD_eq_getElem?_getD, List.getElem?_take]
  split
  · rw [List.getD_eq_getElem?_getD]
  · rfl

/-- A cut reply stands on the line to the end of the byte being sent (R197). -/
theorem replyLevel_cut (rate : LinkRate) (t u : Tick) (r : Reply) :
    replyLevel rate u (replyCut rate t r) =
      (if since u r.started / byteTicks rate ≤ since t r.started / byteTicks rate then replyLevel rate u r else true) := by
  have hbyte : since u r.started / byteTicks rate = since u r.started / bitTicks rate / 10 := by
    rw [byteTicks_eq, Nat.mul_comm, Nat.div_div_eq_div_mul]
  rw [replyLevel, replyCut, replyLevel, flatMap_lineBits_take, getD_take, bytesSent, hbyte]
  by_cases hend : r.frame.length ≤ since t r.started / byteTicks rate
  · rw [Nat.min_eq_right hend]
    have hover : ¬ since u r.started / bitTicks rate < 10 * (r.frame.length + 1) →
        (r.frame.flatMap lineBits).getD (since u r.started / bitTicks rate) true = true := fun h =>
      List.getD_eq_default _ _ (by rw [flatMap_lineBits_length]; omega)
    by_cases hin : since u r.started / bitTicks rate < 10 * (r.frame.length + 1)
    · rw [if_pos hin, if_pos (by omega)]
    · rw [if_neg hin, hover hin, ite_self]
  · rw [Nat.min_eq_left (by omega)]
    by_cases hin : since u r.started / bitTicks rate < 10 * (since t r.started / byteTicks rate + 1)
    · rw [if_pos hin, if_pos (by omega)]
    · rw [if_neg hin, if_neg (by omega)]

/-- Settles O34: what a receiver takes byte by byte, and the level of a line at the bit that its tick lies in. -/
theorem bytesStandOnTheLine : Obligations.BytesStandOnTheLine := by
  refine ⟨fun v => ⟨lineBits_eq v, fun n m => ⟨?_, fun vs => ?_⟩⟩, listen_bytes, rfl,
    fun rate l r k j d v hr hlen hv hj hd => ?_, fun rate t l r hr hend => ?_, fun rate t l hr hc => ?_,
    fun rate t u l r hr hlen => ?_⟩
  · rw [List.append_assoc, listen_high, List.replicate_succ, listen_error, ← List.append_nil (List.replicate n false),
      listen_low]
    rfl
  · rw [List.replicate_succ, List.append_assoc, List.cons_append, listen_error, listen_low]
    exact congrArg _ (listen_bytes vs)
  · rw [txLevel, hr]
    exact replyLevel_at rate hlen hv hj hd
  · rw [txLevel, hr]
    exact replyLevel_after rate hend
  · rw [txLevel, hr, hc]
  · rw [txLevel, linkResetTaken, hr, txLevel, hr]
    exact replyLevel_cut rate t u r

end Sys2Proof.Machine
end

section
/-! Reception: the receive states byte by byte, framing errors of a low stretch, and the break (R191, R193, R197). -/

namespace Sys2Proof.Machine

/-! ### Bytes -/

/-- A byte inside a frame, or outside one, changes the link alone (R193). -/
theorem exec_rxByte_inside {k : Station} {s : State} {t : Tick} {v : Byte} {l : Link} (o : Sched)
    (hheard : heard s.rate t (s.links.get k) = true) (hgap : ∀ g, (s.links.get k).gap = some g → (t - g).toNat ≤ 10000)
    (hbyte : linkByte v t { s.links.get k with low := none } = (l, none)) :
    exec (.rxByte k v t o) s = .next { s with now := t, links := s.links.put k l } := by
  have hcaught := linkCaughtUp_of_fits hgap
  change Host.Outcome.next (if heard s.rate t (s.links.get k) then takeByte k v t o s else s) = _
  rw [if_pos hheard, takeByte, linkAtByte, hcaught, hbyte]
  rfl

/-- A byte that the receiver cannot have taken changes nothing (R191). -/
theorem exec_rxByte_unheard {k : Station} {s : State} {t : Tick} (v : Byte) (o : Sched)
    (h : heard s.rate t (s.links.get k) = false) : exec (.rxByte k v t o) s = .next s := by
  change Host.Outcome.next (if heard s.rate t (s.links.get k) then takeByte k v t o s else s) = _
  rw [h]
  rfl

theorem bitTicks_eq (rate : LinkRate) :
    bitTicks rate = (match rate with | .r500k => 20 | .r1M => 10 | .r2M => 5) := by
  cases rate <;> rfl

theorem byteTicks_match (rate : LinkRate) :
    byteTicks rate = (match rate with | .r500k => 200 | .r1M => 100 | .r2M => 50) := by
  cases rate <;> rfl

/-- A link hears no byte while its low stretches and the quiet bits after them last (R191, R197). -/
theorem heard_eq_false (rate : LinkRate) (t : Tick) (l : Link) :
    heard rate t l = false ↔ ∃ w, l.low = some w ∧
      since t w.run.span.start < runTicks w.run + quietBits w * bitTicks rate := by
  cases h : l.low with
  | none => simp [heard, h]
  | some w => simp [heard, h, heardAfter]

/-! ### Framing errors -/

theorem errorFits_iff (rate : LinkRate) (low : LowRun) (t : Tick) :
    errorFits rate low t = true ↔ since t low.span.start < low.span.length ∧
      since t low.span.start ≤ 10 * bitTicks rate ∧ ∀ d ∈ low.dips, 0 < d.high ∧ d.high < bitTicks rate := by
  simp [errorFits, stillLow, dipsFit, byteTicks_eq, and_assoc]

theorem exec_rxFramingError_none {k : Station} {s : State} {t : Tick} {low : LowRun}
    (h : linkFraming s.rate low t (s.links.get k) = none) : exec (.rxFramingError k low t) s = .next s := by
  change Host.Outcome.next (match linkFraming s.rate low t (s.links.get k) with | none => s | some l => _) = _
  rw [h]

theorem exec_rxFramingError_some {k : Station} {s : State} {t : Tick} {low : LowRun} {l : Link}
    (h : linkFraming s.rate low t (s.links.get k) = some l) :
    exec (.rxFramingError k low t) s = .next { s with now := t, links := s.links.put k l } := by
  change Host.Outcome.next (match linkFraming s.rate low t (s.links.get k) with | none => s | some l => _) = _
  rw [h]
  rfl

theorem linkFraming_of_fits {rate : LinkRate} {low : LowRun} {t : Tick} (h : errorFits rate low t = true) (l : Link) :
    linkFraming rate low t l =
      (lowAfterError rate low t l).map (fun w => { l with low := some w, rx := .hunt, gap := none }) := by
  rw [linkFraming, if_pos h]
  rfl

/-- The first framing error of the stretch that the line stands in (R191). -/
theorem lowAfterError_inside {rate : LinkRate} {low : LowRun} {t : Tick} {l : Link} {w : LowLine} (hw : l.low = some w)
    (hlow : since t w.run.span.start < w.run.span.length) :
    lowAfterError rate low t l =
      if w.error || w.served then none else some { w with run := { w.run with dips := low.dips }, error := true } := by
  simp only [lowAfterError, hw]
  exact if_pos (decide_eq_true hlow)

/-- A framing error of another stretch than the one that the line stood in (R191). -/
theorem lowAfterError_after {rate : LinkRate} {low : LowRun} {t : Tick} {l : Link} {w : LowLine} (hw : l.low = some w)
    (hhigh : w.run.span.length ≤ since t w.run.span.start) :
    lowAfterError rate low t l =
      if heard rate t l && beganAfter rate low.span t w then some { run := low, error := true, served := false }
      else none := by
  have hlow : ¬ stillLow t w.run.span = true := fun h => by have := of_decide_eq_true h; omega
  simp only [lowAfterError, heard, hw]
  exact if_neg hlow

/-! ### The break -/

theorem stretchAt_nil {w : LowLine} (h : w.run.dips = []) (t : Tick) : stretchAt t w = w := by
  obtain ⟨⟨span, dips⟩, error, served⟩ := w
  subst h
  rfl

theorem stretchAt_cons {w : LowLine} {d : Dip} {ds : List Dip} (h : w.run.dips = d :: ds) (t : Tick) :
    stretchAt t w = if since t w.run.span.start < w.run.span.length + d.high then w
      else stretchAt t { w with
        run := { span := { start := plus w.run.span.start (w.run.span.length + d.high), length := d.low }, dips := ds },
        served := false } := by
  obtain ⟨⟨span, dips⟩, error, served⟩ := w
  subst h
  rfl

theorem breakDue_low {t : Tick} {l : Link} {w : LowLine} (h : l.low = some w) :
    breakDue t l = breaksAt t (stretchAt t w) := by
  simp [breakDue, h]

theorem breaksAt_iff (t : Tick) (x : LowLine) : breaksAt t x = true ↔
    x.served = false ∧ 100000 ≤ x.run.span.length ∧ t = x.run.span.start + 100000#32 := by
  simp only [breaksAt, Bool.and_eq_true, Bool.not_eq_true', decide_eq_true_eq, and_assoc]
  rfl

theorem exec_linkReset_quiet {k : Station} {t : Tick} {s : State} (h : breakDue t (s.links.get k) = false) :
    exec (.linkReset k t) s = .next s := by
  change Host.Outcome.next (if breakDue t (s.links.get k) then _ else s) = _
  rw [h]
  rfl

theorem exec_linkReset_due {k : Station} {t : Tick} {s : State} (h : breakDue t (s.links.get k) = true) :
    exec (.linkReset k t) s = .next (linkResetAt k { s with now := t }) :=
  congrArg Host.Outcome.next (if_pos h)

/-- Settles O32: the byte by the receive state, the framing error by the stretch that the line stands in, and the reset
by `breaksAt`. -/
theorem receptionAndBreak : Obligations.ReceptionAndBreak := by
  refine ⟨fun k o s l t v becomes hl hbecomes => ?_, fun rate t l bit hbit => ?_, fun t w => ?_, fun k t s bt hbt => ?_⟩
  · subst hl hbecomes
    refine ⟨fun hheard hgap => ?_, fun hunheard => exec_rxByte_unheard v o hunheard, fun low bit fits hbit hfits => ?_,
      fun g hg ht => ?_⟩
    · have htakes := fun l h => exec_rxByte_inside (v := v) (l := l) o hheard hgap h
      refine ⟨fun hrx hv => htakes _ ?_, fun hrx hv => htakes _ ?_, fun hrx hv => htakes _ ?_,
        fun hrx h1 h2 => htakes _ ?_, fun len got hrx => htakes _ ?_, fun body hrx => htakes _ ?_,
        fun body hi hrx hcrc => htakes _ ?_⟩
      · simp only [linkByte, hrx]
        exact if_neg hv
      · simp only [linkByte, hrx]
        exact if_pos hv
      · simp only [linkByte, hrx]
        exact if_neg (by omega)
      · simp only [linkByte, hrx]
        exact if_pos ⟨h1, h2⟩
      · simp only [linkByte, hrx]
        by_cases hlen : got.length + 1 < len
        · rw [if_neg (by omega), if_pos hlen]
          rfl
        · rw [if_pos (by omega), if_neg hlen]
          rfl
      · simp only [linkByte, hrx]
        rfl
      · have hfails : checkPasses body hi v = false := by
          rw [checkPasses, decide_eq_false_iff_not, checkBytes_eq_iff]
          exact hcrc
        simp only [linkByte, hrx, hfails]
        rfl
    · have hbit : bit = bitTicks s.rate := hbit.trans (bitTicks_eq s.rate).symm
      have hfits : fits ↔ errorFits s.rate low t = true := by rw [hfits, hbit, errorFits_iff]; rfl
      rw [hfits]
      refine ⟨fun hno => exec_rxFramingError_none (if_neg hno), fun hyes hw => ?_, fun w ago all hyes hw hago hall => ?_⟩
      · refine exec_rxFramingError_some ((linkFraming_of_fits hyes _).trans ?_)
        simp only [lowAfterError, hw]
        rfl
      · subst hago hall
        refine ⟨fun hin he hs => ?_, fun hin hes => ?_, fun hhigh => ⟨fun hheard hafter => ?_, fun hnot => ?_⟩⟩
        · refine exec_rxFramingError_some ((linkFraming_of_fits hyes _).trans ?_)
          rw [lowAfterError_inside hw hin, he, hs]
          rfl
        · refine exec_rxFramingError_none ((linkFraming_of_fits hyes _).trans ?_)
          rw [lowAfterError_inside hw hin, if_pos (by simpa using hes)]
          rfl
        · have hbegan : beganAfter s.rate low.span t w = true := decide_eq_true (by rw [hbit] at hafter; exact hafter)
          refine exec_rxFramingError_some ((linkFraming_of_fits hyes _).trans ?_)
          rw [lowAfterError_after hw hhigh, hheard, hbegan]
          rfl
        · refine exec_rxFramingError_none ((linkFraming_of_fits hyes _).trans ?_)
          rw [lowAfterError_after hw hhigh, if_neg]
          · rfl
          · rw [Bool.and_eq_true]
            rintro ⟨hheard, hbegan⟩
            have hbegan : _ ≤ _ := of_decide_eq_true hbegan
            rw [hbit] at hnot
            rcases hnot with hnot | hnot
            · exact Bool.false_ne_true (hnot.symm.trans hheard)
            · exact absurd hbegan (Nat.not_le.mpr hnot)
    · change Host.Outcome.next (match (s.links.get k).gap with | none => s | some g => _) = _
      rw [hg, ht]
      rfl
  · rw [heard_eq_false, show bit = bitTicks rate from hbit.trans (bitTicks_eq rate).symm]
    rfl
  · refine ⟨fun h => stretchAt_nil h t, fun d ds h => ⟨fun hin => ?_, fun hout => ?_⟩⟩
    · rw [stretchAt_cons h]
      exact if_pos hin
    · rw [stretchAt_cons h]
      exact if_neg (Nat.not_lt.mpr hout)
  · have hbt : bt = byteTicks s.rate := hbt.trans (byteTicks_match s.rate).symm
    refine ⟨fun w x hw hx => ⟨fun hs hlen ht => ?_, fun hnot => ?_⟩, fun hw => exec_linkReset_quiet ?_⟩
    · have hdue : breakDue t (s.links.get k) = true := by
        rw [breakDue_low hw, ← hx]
        exact (breaksAt_iff t x).mpr ⟨hs, hlen, ht⟩
      rw [exec_linkReset_due hdue, linkResetAt, State.putLink, linkResetTaken, hx, hbt]
      simp only [hw]
      rfl
    · refine exec_linkReset_quiet ?_
      rw [breakDue_low hw, ← hx, ← Bool.not_eq_true, breaksAt_iff]
      rintro ⟨hs, hlen, ht⟩
      rcases hnot with h | h | h
      · exact h ht
      · omega
      · exact Bool.false_ne_true (hs.symm.trans h)
    · simp [breakDue, hw]

end Sys2Proof.Machine
end

section
/-! The vibration scan (R31 to R33, R101): each channel's part of a scan, and what the parts of the others leave of it. -/

namespace Sys2Proof.Machine

/-- In a fold over different items, the step of one stands between steps that keep apart from it. -/
theorem foldl_apart {σ α : Type} {R : σ → σ → Prop} (hrefl : ∀ s, R s s) (htrans : ∀ {s t u}, R s t → R t u → R s u)
    {f : σ → α → σ} {a : α} (h : ∀ s b, b ≠ a → R s (f s b)) {l : List α} (ha : a ∈ l) (hn : l.Nodup) (s : σ) :
    ∃ t, R s t ∧ R (f t a) (l.foldl f s) := by
  have hwithout : ∀ (l : List α), a ∉ l → ∀ s, R s (l.foldl f s) := fun l => by
    induction l with
    | nil => exact fun _ s => hrefl s
    | cons b l ih =>
      intro hl s
      rw [List.mem_cons, not_or] at hl
      exact htrans (h s b (Ne.symm hl.1)) (ih hl.2 _)
  obtain ⟨as, bs, rfl⟩ := List.append_of_mem ha
  have hn := List.nodup_middle.mp hn
  have hnot := (List.nodup_cons.mp hn).1
  rw [List.mem_append, not_or] at hnot
  rw [List.foldl_append, List.foldl_cons]
  exact ⟨as.foldl f s, hwithout as hnot.1 s, hwithout bs hnot.2 _⟩

/-! ### What the change of one channel publishes -/

/-- What each message of a block keeps holds after all of them. -/
theorem deliver_keeps (o : Sched) {ms : List Msg} {I : State → Prop} (hone : ∀ m ∈ ms, ∀ u, I u → I (takeMsg o u m))
    {s : State} (hs : I s) : I (deliver o ms s) := by
  have hall : ∀ (l : List Msg) (u : State), (∀ m ∈ l, m ∈ ms) → I u → I (l.foldl (takeMsg o) u) := fun l => by
    induction l with
    | nil => exact fun u _ hu => hu
    | cons m l ih =>
      exact fun u hl hu => ih _ (fun m hm => hl m (List.mem_cons_of_mem _ hm)) (hone m (hl m List.mem_cons_self) u hu)
  refine hall _ s (fun m hm => ?_) hs
  rw [orderMsgs_eq] at hm
  rcases List.mem_append.mp hm with hm | hm
  · exact (List.mem_filter.mp hm).1
  · exact (mem_reportMsgs.mp hm).1

theorem mem_takeWarning {j k : Cause} (h : k ≠ j) (s : State) :
    k ∈ (takeWarning j s).pru.warnings ↔ k ∈ s.pru.warnings := by
  rcases takeWarning_pru j s with hp | hp <;> rw [hp]
  unfold pruWarn
  split
  · simp [h]
  · rfl

/-- Messages of class W that neither publish nor report a kind leave it in the warning set, or out of it. -/
theorem deliver_mild_warnings (o : Sched) {ms : List Msg} {s : State} {k : Cause} (h : mildMsgs s.set ms)
    (hc : untold ms k) (hr : ∀ n, .report k n ∉ ms) :
    k ∈ (deliver o ms s).pru.warnings ↔ k ∈ s.pru.warnings := by
  refine (deliver_keeps o (I := fun u => u.set = s.set ∧ (k ∈ u.pru.warnings ↔ k ∈ s.pru.warnings))
    (fun m hm u hu => ?_) ⟨rfl, .rfl⟩).2
  obtain ⟨hset, hu⟩ := hu
  cases m with
  | cond j b =>
    have hj : k ≠ j := fun hj => hc b (by rw [hj]; exact hm)
    exact ⟨hset, (pruCond_view_ne hj b u.pru).2.trans hu⟩
  | report j n =>
    have hj : k ≠ j := fun hj => hr n (by rw [hj]; exact hm)
    have hw : u.set.classInForce j = .w := hset ▸ (h _ hm).1 j n rfl
    change (takeReport o j n u).set = s.set ∧ (k ∈ (takeReport o j n u).pru.warnings ↔ _)
    rw [takeReport_warning o n hw]
    exact ⟨(takeWarning_same j u).set.trans hset, (mem_takeWarning hj u).trans hu⟩
  | notice j st => exact ⟨hset, hu⟩
  | capture x c => exact ⟨hset, hu⟩

/-- The messages of channel `n`'s change (R107 to R110). -/
theorem chanPut_msgs (n : Chan) (c : VChan) (s : State) : (chanPut n c s).2 =
    vwaNotices (s.vwa.chans.get n) (settleChannel (s.set.action n) c) s.vwa.level (chanPut n c s).1.vwa.level ++
    condMsgs (.vibDanger n) s.vwa.periodTaken (s.vwa.chans.get n).dangerCond ((s.set.action n).dangerTrip && inDanger c) ++
    condMsgs (.vibSensor n) s.vwa.periodTaken (s.vwa.chans.get n).sensorCond (decide (c.state = .sensorFault)) := rfl

theorem mem_vwaNotices {m : Msg} {old new : VChan} {l l' : Nat} (h : m ∈ vwaNotices old new l l') :
    ∃ k st, m = .notice k st := by
  unfold vwaNotices at h
  split at h <;> split at h <;> simp at h
  · rcases h with rfl | rfl | rfl <;> exact ⟨_, _, rfl⟩
  · exact h ▸ ⟨_, _, rfl⟩
  · rcases h with rfl | rfl | rfl | rfl <;> exact ⟨_, _, rfl⟩

/-- What the change of channel `n` publishes and reports: its own two conditions alone. -/
theorem mem_chanPut_msgs {n : Chan} {c : VChan} {s : State} {m : Msg} (h : m ∈ (chanPut n c s).2) :
    (∃ k st, m = .notice k st) ∨
    m ∈ condMsgs (.vibDanger n) s.vwa.periodTaken (s.vwa.chans.get n).dangerCond ((s.set.action n).dangerTrip && inDanger c) ∨
    m ∈ condMsgs (.vibSensor n) s.vwa.periodTaken (s.vwa.chans.get n).sensorCond (decide (c.state = .sensorFault)) := by
  rw [chanPut_msgs, List.mem_append, List.mem_append] at h
  exact h.elim (fun h => h.imp mem_vwaNotices .inl) (fun h => .inr (.inr h))

/-- The change of a channel leaves what another channel has published. -/
theorem putChan_other {n j : Chan} (hj : j ≠ n) (o : Sched) {c : VChan} (s : State) (h : inDanger c = false) :
    (.vibSensor n ∈ (putChan o j c s).pru.view ↔ .vibSensor n ∈ s.pru.view) ∧
    (.vibSensor n ∈ (putChan o j c s).pru.warnings ↔ .vibSensor n ∈ s.pru.warnings) := by
  have hne : Cause.vibSensor n ≠ .vibSensor j := fun he => hj (Cause.vibSensor.inj he).symm
  have hmem : ∀ m ∈ (chanPut j c s).2, (∀ b, m ≠ .cond (.vibSensor n) b) ∧ ∀ p, m ≠ .report (.vibSensor n) p := by
    intro m hm
    rcases mem_chanPut_msgs hm with ⟨k, st, rfl⟩ | hm | hm
    · exact ⟨by simp, by simp⟩
    · rcases mem_condMsgs hm with ⟨rfl, -⟩ | ⟨rfl, -⟩ <;> exact ⟨by simp, by simp⟩
    · rcases mem_condMsgs hm with ⟨rfl, -⟩ | ⟨rfl, -⟩ <;> exact ⟨by simp [hj], by simp [hj]⟩
  have huntold : untold (chanPut j c s).2 (.vibSensor n) := fun b hm => (hmem _ hm).1 b rfl
  refine ⟨(deliver_carried o (chanPut j c s).2 (chanPut j c s).1).pru.view _ ⟨huntold, .inl (by intro x; simp)⟩, ?_⟩
  exact deliver_mild_warnings o (chanPut_mildMsgs j s h) huntold fun p hm => (hmem _ hm).2 p rfl

/-- A channel whose sensor flag is set warns with VIB_SENSOR_n (R110). -/
theorem putChan_sensor_set (o : Sched) {n : Chan} {c : VChan} {s : State} (hold : (s.vwa.chans.get n).sensorCond = false)
    (hc : c.state = .sensorFault) :
    .vibSensor n ∈ (putChan o n c s).pru.view ∧ .vibSensor n ∈ (putChan o n c s).pru.warnings := by
  have hmem : ∀ m, m ∈ condMsgs (.vibSensor n) s.vwa.periodTaken false true → m ∈ (chanPut n c s).2 := fun m hm => by
    rw [chanPut_msgs, hold, decide_eq_true hc]
    exact List.mem_append_right _ hm
  have hcond : .cond (.vibSensor n) true ∈ (chanPut n c s).2 := hmem _ (by simp [condMsgs])
  have hreport : .report (.vibSensor n) s.vwa.periodTaken ∈ (chanPut n c s).2 := hmem _ (by simp [condMsgs])
  have hclear : .cond (.vibSensor n) false ∉ (chanPut n c s).2 := fun hm => by
    rcases mem_chanPut_msgs hm with ⟨k, st, h⟩ | hm | hm
    · cases h
    · rcases mem_condMsgs hm with ⟨h, -⟩ | ⟨h, -⟩ <;> cases h
    · rw [hold, decide_eq_true hc] at hm
      rcases mem_condMsgs hm with ⟨h, -⟩ | ⟨h, -⟩ <;> cases h
  have hview := calmed_joins hcond hclear (chanPut n c s).1
  refine ⟨?_, deliver_warns o hreport _ (fun z _ => rfl) (.inl (by intro x; simp)) hcond hclear⟩
  have hreported := deliver_reported o (chanPut n c s).2 (chanPut n c s).1
  exact (hreported.pru.view (.vibSensor n) ⟨trivial, .inl (by intro x; simp)⟩).mpr hview

/-- A channel whose sensor flag is cleared has VIB_SENSOR_n out of the view and the warning set (R111). -/
theorem putChan_sensor_clear (o : Sched) {n : Chan} {c : VChan} {s : State}
    (hold : (s.vwa.chans.get n).sensorCond = true) (hc : c.state ≠ .sensorFault) (hd : inDanger c = false) :
    .vibSensor n ∉ (putChan o n c s).pru.view ∧ .vibSensor n ∉ (putChan o n c s).pru.warnings := by
  have hcalm : noReports (chanPut n c s).2 := fun m hm => by
    rcases mem_chanPut_msgs hm with ⟨k, st, rfl⟩ | hm | hm
    · rfl
    · rw [hd, Bool.and_false] at hm
      rcases mem_condMsgs hm with ⟨rfl, -⟩ | ⟨-, -, h⟩
      · rfl
      · cases h
    · rw [decide_eq_false hc] at hm
      rcases mem_condMsgs hm with ⟨rfl, -⟩ | ⟨-, -, h⟩
      · rfl
      · cases h
  have hclear : .cond (.vibSensor n) false ∈ (chanPut n c s).2 := by
    rw [chanPut_msgs, hold, decide_eq_false hc]
    exact List.mem_append_right _ (by simp [condMsgs])
  have hset : .cond (.vibSensor n) true ∉ (chanPut n c s).2 := fun hm => by
    rcases mem_chanPut_msgs hm with ⟨k, st, h⟩ | hm | hm
    · cases h
    · rcases mem_condMsgs hm with ⟨h, -⟩ | ⟨h, -⟩ <;> cases h
    · rw [decide_eq_false hc] at hm
      rcases mem_condMsgs hm with ⟨h, -⟩ | ⟨h, -⟩ <;> cases h
  rw [putChan, posted, deliver_calm o hcalm]
  exact raiseAll_leaves hcalm hclear hset _

/-! ### One channel's part of a scan -/

/-- What a scan leaves of the units other than the watch (R31). -/
structure ScanKept (s t : State) : Prop where
  now : t.now = s.now
  msy : t.msy = s.msy
  stu : t.stu = s.stu
  dsq : t.dsq = s.dsq
  rcu : t.rcu = s.rcu
  set : t.set = s.set
  meu : { t.meu with chans := s.meu.chans } = s.meu

theorem ScanKept.refl (s : State) : ScanKept s s := ⟨rfl, rfl, rfl, rfl, rfl, rfl, rfl⟩

theorem ScanKept.trans {s t u : State} (h : ScanKept s t) (k : ScanKept t u) : ScanKept s u :=
  ⟨k.now.trans h.now, k.msy.trans h.msy, k.stu.trans h.stu, k.dsq.trans h.dsq, k.rcu.trans h.rcu, k.set.trans h.set, by
    rw [← h.meu, ← k.meu]⟩

theorem SameDrive.scanKept {s t : State} (h : SameDrive s t) (hr : t.rcu = s.rcu) : ScanKept s t :=
  ⟨h.now, h.msy, h.stu, h.dsq, hr, h.set, by rw [h.meu]⟩

/-- What the part of another channel leaves of channel `n`. -/
structure ChanApart (n : Chan) (s t : State) : Prop where
  scan : t.meu.chans.get n = s.meu.chans.get n
  chan : t.vwa.chans.get n = s.vwa.chans.get n
  view : .vibSensor n ∈ t.pru.view ↔ .vibSensor n ∈ s.pru.view
  warns : .vibSensor n ∈ t.pru.warnings ↔ .vibSensor n ∈ s.pru.warnings

theorem ChanApart.refl (n : Chan) (s : State) : ChanApart n s s := ⟨rfl, rfl, .rfl, .rfl⟩

theorem ChanApart.trans {n : Chan} {s t u : State} (h : ChanApart n s t) (k : ChanApart n t u) : ChanApart n s u :=
  ⟨k.scan.trans h.scan, k.chan.trans h.chan, k.view.trans h.view, k.warns.trans h.warns⟩

theorem sensorFaultClear_inDanger (low speed : Nat) (t : Tick) (c : VChan) :
    inDanger (sensorFaultClear low speed t c) = false := by
  unfold sensorFaultClear
  split <;> rfl

/-- A change of the sensor flag gives the channel a state that is no DANGER (R110, R111). -/
theorem flagChange_cases (o : Sched) (n : Chan) (old new : Bool) (s : State) :
    flagChange o n old new s = s ∨ ∃ c, inDanger c = false ∧ flagChange o n old new s = putChan o n c s := by
  unfold flagChange
  split
  · exact .inl rfl
  · split
    · exact .inr ⟨_, rfl, rfl⟩
    · exact .inr ⟨_, sensorFaultClear_inDanger .., rfl⟩

/-- Channel `n`'s part of a scan before its flag is looked at (R32, R101). -/
def scanHanded (v : RawSet) (s : State) (n : Chan) : State :=
  handScan n (scanValue (rawOf v n) (s.meu.chans.get n))
    { s with meu := { s.meu with chans := s.meu.chans.put n (chanScan s.set (rawOf v n) (s.meu.chans.get n)) } }

theorem scanOne_eq (v : RawSet) (o : Sched) (s : State) (n : Chan) :
    scanOne v o s n = flagChange o n (s.meu.chans.get n).flag (chanScan s.set (rawOf v n) (s.meu.chans.get n)).flag
      (scanHanded v s n) := rfl

theorem scanOne_kept (v : RawSet) (o : Sched) (s : State) (n : Chan) : ScanKept s (scanOne v o s n) := by
  have hhanded : ScanKept s (scanHanded v s n) := ⟨rfl, rfl, rfl, rfl, rfl, rfl, rfl⟩
  rw [scanOne_eq]
  rcases flagChange_cases o n (s.meu.chans.get n).flag _ (scanHanded v s n) with h | ⟨c, hd, h⟩ <;> rw [h]
  · exact hhanded
  · obtain ⟨hs, hr⟩ := putChan_mild o n (scanHanded v s n) hd
    have hput : ScanKept (scanHanded v s n) (chanPut n c (scanHanded v s n)).1 := ⟨rfl, rfl, rfl, rfl, rfl, rfl, rfl⟩
    exact hhanded.trans (hput.trans (hs.scanKept hr))

theorem scanOne_other {n j : Chan} (hj : j ≠ n) (v : RawSet) (o : Sched) (s : State) :
    ChanApart n s (scanOne v o s j) := by
  have hhanded : ChanApart n s (scanHanded v s j) :=
    ⟨Quad.get_put_ne _ _ (Ne.symm hj), Quad.get_put_ne _ _ (Ne.symm hj), .rfl, .rfl⟩
  rw [scanOne_eq]
  rcases flagChange_cases o j (s.meu.chans.get j).flag _ (scanHanded v s j) with h | ⟨c, hd, h⟩ <;> rw [h]
  · exact hhanded
  · obtain ⟨hs, -⟩ := putChan_mild o j (scanHanded v s j) hd
    obtain ⟨hview, hwarns⟩ := putChan_other hj o (scanHanded v s j) hd
    refine hhanded.trans ⟨congrArg (fun m : Meu => m.chans.get n) hs.meu, ?_, hview, hwarns⟩
    exact (congrArg (fun w : Vwa => w.chans.get n) hs.vwa).trans
      ((chanPut_get j n c (scanHanded v s j)).trans (if_neg (Ne.symm hj)))

/-- The part at a scan instant before its channels (R31). -/
def scanStarted (s : State) : State :=
  { s with now := s.meu.nextScan, meu := { s.meu with nextScan := plus s.meu.nextScan scanTicks } }

theorem ChanApart.atScan (n : Chan) (s : State) (a b : Tick) :
    ChanApart n s { s with now := a, meu := { s.meu with nextScan := b } } := ⟨rfl, rfl, .rfl, .rfl⟩

/-- A scan, around the part of channel `n` (R31). -/
theorem scanTaken_chan (v : RawSet) (o : Sched) (s : State) (n : Chan) :
    ∃ t, ScanKept (scanStarted s) t ∧
      ChanApart n s t ∧ ChanApart n (scanOne v o t n) (scanTaken v o s) ∧
      ScanKept (scanStarted s) (scanTaken v o s) := by
  obtain ⟨t, ⟨hk, ha⟩, hk', ha'⟩ := foldl_apart (R := fun s t => ScanKept s t ∧ ChanApart n s t)
    (fun s => ⟨.refl s, .refl n s⟩) (fun h k => ⟨h.1.trans k.1, h.2.trans k.2⟩)
    (fun s j hj => ⟨scanOne_kept v o s j, scanOne_other hj v o s⟩) (mem_chanOrder o n) (nodup_chanOrder o)
    (scanStarted s)
  exact ⟨t, hk, (ChanApart.atScan n s _ _).trans ha, ha', hk.trans ((scanOne_kept v o t n).trans hk')⟩

/-! ### The settled channel -/

theorem takeScan_rest (x : Int) (t : Tick) (c : VChan) : ∃ a, takeScan x t c = { c with acc := a } := by
  unfold takeScan
  split
  · split
    · exact ⟨_, rfl⟩
    · exact ⟨_, rfl⟩
  · exact ⟨_, rfl⟩

theorem takeScan_running {x : Int} {t m : Tick} {c : VChan} {r : Nat} (hs : evaluating c.state = true)
    (hp : c.phase = .running) (hm : c.lastMarker = some m) (hr : c.trev = some r) :
    takeScan x t c = { c with acc := accAdd c.table (binOf (since t m) r) x c.acc } := by
  rw [takeScan, if_pos hs, hp, hm, hr]

theorem evaluating_iff (s : ChanState) :
    evaluating s = true ↔ s = .learning ∨ s = .normal ∨ s = .alert ∨ s = .danger := by
  cases s <;> simp [evaluating]

/-- A channel's part of a scan at which its sensor flag does not change (R101). -/
theorem scanOne_steady {v : RawSet} {o : Sched} {s : State} {n : Chan}
    (h : (chanScan s.set (rawOf v n) (s.meu.chans.get n)).flag = (s.meu.chans.get n).flag) :
    scanOne v o s n = scanHanded v s n := by
  rw [scanOne_eq, flagChange, if_pos h.symm]

theorem scanHanded_scan (v : RawSet) (s : State) (n : Chan) :
    (scanHanded v s n).meu.chans.get n = chanScan s.set (rawOf v n) (s.meu.chans.get n) := Quad.get_put ..

theorem scanHanded_chan (v : RawSet) (s : State) (n : Chan) : (scanHanded v s n).vwa.chans.get n =
    takeScan (scanValue (rawOf v n) (s.meu.chans.get n)) s.now (s.vwa.chans.get n) := Quad.get_put ..

theorem chanScan_bias (z : SetTable) (raw : Nat) (d : MeuChan) : (chanScan z raw d).bias = biasNext raw d.bias := by
  unfold chanScan
  split
  · split <;> rfl
  · rfl

/-- At the 5000th scan in a row the flag changes (R33). -/
theorem chanScan_changes {z : SetTable} {raw : Nat} {d : MeuChan} (hc : d.count = 4999)
    (h : insideBias z (biasNext raw d.bias) = d.flag) :
    chanScan z raw d = { bias := biasNext raw d.bias, count := 0, flag := !d.flag } := by
  rw [chanScan, if_pos h, hc]
  exact if_pos (by decide)

theorem scanOne_scan (v : RawSet) (o : Sched) (s : State) (n : Chan) :
    (scanOne v o s n).meu.chans.get n = chanScan s.set (rawOf v n) (s.meu.chans.get n) := by
  rw [scanOne_eq]
  rcases flagChange_cases o n (s.meu.chans.get n).flag _ (scanHanded v s n) with h | ⟨c, hd, h⟩ <;> rw [h]
  · exact scanHanded_scan v s n
  · exact (congrArg (fun m : Meu => m.chans.get n) (putChan_mild o n (scanHanded v s n) hd).1.meu).trans
      (scanHanded_scan v s n)

/-- The channel after a change that is not reported, as it is settled. -/
theorem putChan_get (o : Sched) (n : Chan) {c : VChan} (s : State) (h : inDanger c = false) :
    (putChan o n c s).vwa.chans.get n = settleChannel (s.set.action n) c :=
  (congrArg (fun w : Vwa => w.chans.get n) (putChan_mild o n s h).1.vwa).trans
    ((chanPut_get n n c s).trans (if_pos rfl))

/-- A channel flagged at its part of a scan (R33, R110). -/
theorem scanOne_set {v : RawSet} {o : Sched} {s : State} {n : Chan} (hf : (s.meu.chans.get n).flag = false)
    (hn : (chanScan s.set (rawOf v n) (s.meu.chans.get n)).flag = true) :
    scanOne v o s n = putChan o n (sensorFaultSet (s.vwa.chans.get n)) (scanHanded v s n) := by
  obtain ⟨a, ha⟩ := takeScan_rest (scanValue (rawOf v n) (s.meu.chans.get n)) s.now (s.vwa.chans.get n)
  have hset : sensorFaultSet ((scanHanded v s n).vwa.chans.get n) = sensorFaultSet (s.vwa.chans.get n) := by
    rw [scanHanded_chan, ha]
    rfl
  rw [scanOne_eq, hf, hn, ← hset]
  rfl

/-- A channel cleared at its part of a scan (R33, R111). -/
theorem scanOne_clear {v : RawSet} {o : Sched} {s : State} {n : Chan} (hf : (s.meu.chans.get n).flag = true)
    (hn : (chanScan s.set (rawOf v n) (s.meu.chans.get n)).flag = false) :
    scanOne v o s n =
      putChan o n (sensorFaultClear s.set.watchMin (s.refSpeedOf n) s.now (s.vwa.chans.get n)) (scanHanded v s n) := by
  obtain ⟨a, ha⟩ := takeScan_rest (scanValue (rawOf v n) (s.meu.chans.get n)) s.now (s.vwa.chans.get n)
  have hclear : sensorFaultClear s.set.watchMin (s.refSpeedOf n) s.now ((scanHanded v s n).vwa.chans.get n) =
      sensorFaultClear s.set.watchMin (s.refSpeedOf n) s.now (s.vwa.chans.get n) := by
    rw [scanHanded_chan, ha]
    unfold sensorFaultClear clearChannel
    cases (s.vwa.chans.get n).state <;> rfl
  rw [scanOne_eq, hf, hn, ← hclear]
  rfl

/-- The channel that leaves SENSOR_FAULT (R111, R112). -/
theorem sensorFaultClear_values (low speed : Nat) (t : Tick) (c : VChan) (a : Action) :
    ∃ d, d = settleChannel a (sensorFaultClear low speed t c) ∧
      d.state = (if speed < low then .paused else .learning) ∧ d.table = List.replicate 64 0 ∧ d.completed = 0 ∧
      d.sync = 0 ∧ d.resid = 0 ∧ d.phase = .wait ∧ d.contribution = 0 := by
  refine ⟨_, rfl, ?_⟩
  unfold sensorFaultClear clearChannel
  split <;> cases c.state <;> exact ⟨rfl, rfl, rfl, rfl, rfl, rfl, rfl⟩

/-- Settles O27: the part of the channel asked about (`scanTaken_chan`), with what a change of its flag publishes. -/
theorem scanBinsAndSensorFlag : Obligations.ScanBinsAndSensorFlag := by
  have hraw : ∀ (v : RawSet) (n : Chan) (raw : BitVec 12),
      raw = (match n with | .c0 => v.r0 | .c1 => v.r1 | .c2 => v.r2 | .c3 => v.r3) → raw.toNat = rawOf v n :=
    fun v n raw h => by cases n <;> exact congrArg _ h
  refine ⟨fun v o s => ?_, fun n v o s raw d c b hr hd hc hcount hb => ?_⟩
  · obtain ⟨-, -, -, -, hk⟩ := scanTaken_chan v o s .c0
    have hmeu := hk.meu
    have hnext : (scanTaken v o s).meu.nextScan = plus s.meu.nextScan scanTicks := (congrArg Meu.nextScan hmeu :)
    unfold scanStarted at hmeu
    generalize plus s.meu.nextScan scanTicks = next at hmeu
    refine ⟨_, rfl, hk.now, hnext, hk.msy, hk.stu, hk.dsq, hk.rcu, hk.set,
      (congrArg Meu.sides hmeu :), (congrArg Meu.interval hmeu :), (congrArg Meu.teeth hmeu :),
      fun n raw d c hr hd hc => ?_⟩
    obtain ⟨t, ht, ha, ha', -⟩ := scanTaken_chan v o s n
    have hscan : (scanTaken v o s).meu.chans.get n = chanScan s.set (rawOf v n) d := by
      rw [ha'.scan, scanOne_scan, ht.set, ha.scan, hd]
      rfl
    refine ⟨?_, fun m r b x hs hp hm hv hflag hb hx => ?_⟩
    · rw [hscan, chanScan_bias, hraw v n raw hr]
      rfl
    · have hsteady : (chanScan t.set (rawOf v n) (t.meu.chans.get n)).flag = (t.meu.chans.get n).flag := by
        rw [ha.scan, ← hd, ← hflag, hscan, ht.set]
        rfl
      rw [ha'.chan, scanOne_steady hsteady, scanHanded_chan, ha.chan, ha.scan, ht.now, ← hc, ← hd,
        takeScan_running ((evaluating_iff _).mpr hs) hp hm hv]
      simp only [accAdd, hb, hx, hraw v n raw hr, Nat.pow_two]
      rfl
  · obtain ⟨t, ht, ha, ha', -⟩ := scanTaken_chan v o s n
    have hset : t.set = s.set := ht.set
    have hdt : t.meu.chans.get n = d := ha.scan.trans hd.symm
    have hct : t.vwa.chans.get n = c := ha.chan.trans hc.symm
    have hround : b = biasRound (biasNext (rawOf v n) d.bias) := by rw [hb, hraw v n raw hr]; rfl
    have hscan : (scanTaken v o s).meu.chans.get n = chanScan s.set (rawOf v n) d := by
      rw [ha'.scan, scanOne_scan, hset, hdt]
    refine ⟨fun hf hout hsens => ?_, fun hf hlo hhi hsens => ?_⟩
    · have hin : insideBias s.set (biasNext (rawOf v n) d.bias) = d.flag := by
        rw [hf, insideBias, ← hround, Bool.and_eq_false_iff, decide_eq_false_iff_not, decide_eq_false_iff_not]
        omega
      have hchanges := chanScan_changes hcount hin
      have hflag : (chanScan s.set (rawOf v n) d).flag = true := by rw [hchanges, hf]; rfl
      have hone : scanOne v o t n = putChan o n (sensorFaultSet c) (scanHanded v t n) := by
        rw [← hct]
        exact scanOne_set (by rw [hdt, hf]) (by rw [hdt, hset, hflag])
      have hcmd : exec (.sensorFaultSet n v o) s = .next (scanTaken v o s) :=
        congrArg Host.Outcome.next (if_pos (by rw [flagAfter, ← hd, hf, hflag]; rfl))
      have hold : ((scanHanded v t n).vwa.chans.get n).sensorCond = false := by
        obtain ⟨a, hacc⟩ := takeScan_rest (scanValue (rawOf v n) (t.meu.chans.get n)) t.now (t.vwa.chans.get n)
        rw [scanHanded_chan, hacc, hct]
        exact hsens
      obtain ⟨hview, hwarn⟩ := putChan_sensor_set o (c := sensorFaultSet c) hold rfl
      have hchan : (scanTaken v o s).vwa.chans.get n = settleChannel (s.set.action n) (sensorFaultSet c) := by
        rw [ha'.chan, hone, putChan_get o n _ rfl, ← hset]
        rfl
      refine ⟨_, hcmd, rfl, by rw [hscan, hflag], by rw [hscan, hchanges], ?_⟩
      rw [hchan]
      exact ⟨rfl, rfl, rfl, rfl, rfl, rfl, rfl, rfl, rfl, rfl, ha'.view.mpr (by rw [hone]; exact hview),
        ha'.warns.mpr (by rw [hone]; exact hwarn)⟩
    · have hin : insideBias s.set (biasNext (rawOf v n) d.bias) = d.flag := by
        rw [hf, insideBias, ← hround, decide_eq_true hlo, decide_eq_true hhi]
        rfl
      have hchanges := chanScan_changes hcount hin
      have hflag : (chanScan s.set (rawOf v n) d).flag = false := by rw [hchanges, hf]; rfl
      have hone : scanOne v o t n =
          putChan o n (sensorFaultClear s.set.watchMin (s.refSpeedOf n) t.now c) (scanHanded v t n) := by
        have hspeed : t.refSpeedOf n = s.refSpeedOf n := by
          rw [State.refSpeedOf, ht.set, ht.stu]
          rfl
        rw [← hct, ← hspeed, ← hset]
        exact scanOne_clear (by rw [hdt, hf]) (by rw [hdt, hset, hflag])
      have hcmd : exec (.sensorFaultClear n v o) s = .next (scanTaken v o s) :=
        congrArg Host.Outcome.next (if_pos (by rw [flagAfter, ← hd, hf, hflag]; rfl))
      have hold : ((scanHanded v t n).vwa.chans.get n).sensorCond = true := by
        obtain ⟨a, hacc⟩ := takeScan_rest (scanValue (rawOf v n) (t.meu.chans.get n)) t.now (t.vwa.chans.get n)
        rw [scanHanded_chan, hacc, hct]
        exact hsens
      obtain ⟨e, he, hstate, htable, hcompleted, hsync, hresid, hphase, hcontr⟩ :=
        sensorFaultClear_values s.set.watchMin (s.refSpeedOf n) t.now c (s.set.action n)
      have hchan : (scanTaken v o s).vwa.chans.get n = e := by
        rw [ha'.chan, hone, putChan_get o n _ (sensorFaultClear_inDanger ..), he, ← hset]
        rfl
      have hnot : (sensorFaultClear s.set.watchMin (s.refSpeedOf n) t.now c).state ≠ .sensorFault := by
        have hs : (sensorFaultClear s.set.watchMin (s.refSpeedOf n) t.now c).state = e.state := by rw [he]; rfl
        rw [hs, hstate]
        split <;> exact fun h => nomatch h
      obtain ⟨hview, hwarn⟩ := putChan_sensor_clear o hold hnot (sensorFaultClear_inDanger ..)
      refine ⟨_, hcmd, rfl, by rw [hscan, hflag], by rw [hscan, hchanges], ?_⟩
      rw [hchan]
      exact ⟨hstate, htable, hcompleted, hsync, hresid, hphase, hcontr,
        fun h => hview (by rw [← hone]; exact ha'.view.mp h), fun h => hwarn (by rw [← hone]; exact ha'.warns.mp h)⟩

end Sys2Proof.Machine
end

section
/-! What the work of the other channels leaves of a channel: its row of the table, its part of the watch, and what it
has published (`ChanLeft`); then tooth edges, markers and marker deadlines (R34 to R36, R69, R95 to R109). -/

namespace Sys2Proof.Machine

/-! ### The settings of a channel -/

/-- The table after the profiles of other channels than `n` have been taken and settings of class STOPPED may have become
active: every other row stays. -/
structure SetApart (n : Chan) (z y : SetTable) : Prop where
  full : FullTable z → FullTable y
  rows : FullTable z → ∀ (i : Nat) (r : SetSpec), catalogue[i]? = some r → r.cls ≠ .stopped →
    (∀ j, j ≠ n → i ≠ 62 + chanNumber j) → y.active[i]? = z.active[i]? ∧ y.staged[i]? = z.staged[i]?

theorem SetApart.refl (n : Chan) (z : SetTable) : SetApart n z z := ⟨id, fun _ _ _ _ _ _ => ⟨rfl, rfl⟩⟩

theorem SetApart.trans {n : Chan} {z y x : SetTable} (h : SetApart n z y) (k : SetApart n y x) : SetApart n z x where
  full hz := k.full (h.full hz)
  rows hz i r hr hc hi := by
    obtain ⟨ha, hs⟩ := h.rows hz i r hr hc hi
    obtain ⟨ka, ks⟩ := k.rows (h.full hz) i r hr hc hi
    exact ⟨ka.trans ha, ks.trans hs⟩

theorem SetSteady.apart {z y : SetTable} (h : SetSteady z y) (n : Chan) : SetApart n z y :=
  ⟨h.full, fun hz i r hr hc _ => h.rows hz i r hr hc⟩

theorem profileId_pred (n : Chan) : profileId n - 1 = 62 + chanNumber n := by
  unfold profileId
  omega

theorem chanNumber_inj {n m : Chan} (h : chanNumber n = chanNumber m) : n = m := by
  cases n <;> cases m <;> simp_all [chanNumber]

theorem profileTaken_apart {n j : Chan} (hj : j ≠ n) (v : SetValue) (z : SetTable) : SetApart n z (profileTaken j v z) where
  full h := ⟨by simpa [profileTaken] using h.active, by simpa [profileTaken] using h.staged⟩
  rows hz i r hr hc hi := by
    have hne : profileId j - 1 ≠ i := by rw [profileId_pred]; exact (hi j hj).symm
    exact ⟨List.getElem?_set_ne hne, List.getElem?_set_ne hne⟩

/-- The row of channel `n`'s profile is no other channel's. -/
theorem profileRow_apart (n j : Chan) (hj : j ≠ n) : 62 + chanNumber n ≠ 62 + chanNumber j := fun h =>
  hj (chanNumber_inj (by omega)).symm

theorem SetApart.profileRow {n : Chan} {z y : SetTable} (h : SetApart n z y) (hz : FullTable z) :
    y.active[62 + chanNumber n]? = z.active[62 + chanNumber n]? ∧
      y.staged[62 + chanNumber n]? = z.staged[62 + chanNumber n]? := by
  obtain ⟨r, hr, hc⟩ : ∃ r, catalogue[62 + chanNumber n]? = some r ∧ r.cls ≠ .stopped := by
    cases n <;> exact ⟨_, rfl, by decide⟩
  exact h.rows hz _ r hr hc (profileRow_apart n)

theorem SetApart.profile {n : Chan} {z y : SetTable} (h : SetApart n z y) (hz : FullTable z) :
    y.profile n = z.profile n := by
  rw [SetTable.profile, (h.profileRow hz).1, ← SetTable.profile]

theorem SetApart.stagedProfile {n : Chan} {z y : SetTable} (h : SetApart n z y) (hz : FullTable z) :
    stagedProfile n y = stagedProfile n z := by
  rw [Machine.stagedProfile, profileId_pred, (h.profileRow hz).2, ← profileId_pred, ← Machine.stagedProfile]

theorem SetApart.action {n : Chan} {z y : SetTable} (h : SetApart n z y) (hz : FullTable z) (i : Chan) :
    y.action i = z.action i := by
  obtain ⟨r, hr, hc⟩ : ∃ r, catalogue[66 + chanNumber i]? = some r ∧ r.cls ≠ .stopped := by
    cases i <;> exact ⟨_, rfl, by decide⟩
  have hrow : ∀ j, j ≠ n → 66 + chanNumber i ≠ 62 + chanNumber j := fun j _ => by cases i <;> cases j <;> decide
  rw [SetTable.action, (h.rows hz _ r hr hc hrow).1, ← SetTable.action]

theorem SetApart.num {n : Chan} {z y : SetTable} (h : SetApart n z y) (hz : FullTable z) {id : Nat} {r : SetSpec}
    (hr : catalogue[id - 1]? = some r) (hc : r.cls ≠ .stopped) (hid : ∀ j, id - 1 ≠ 62 + chanNumber j) :
    y.num id = z.num id := by
  rw [SetTable.num, (h.rows hz _ r hr hc fun j _ => hid j).1, ← SetTable.num]

theorem SetApart.watchMin {n : Chan} {z y : SetTable} (h : SetApart n z y) (hz : FullTable z) :
    y.watchMin = z.watchMin :=
  h.num hz (r := _) rfl (by decide) (fun j => by cases j <;> decide)

/-! ### What the work of other channels leaves -/

/-- What the work of the other channels, with what it reports, leaves of channel `n`. -/
structure ChanLeft (n : Chan) (s t : State) : Prop where
  base : SameBase s t
  links : LinksRaised s t
  stu : StuKept s.stu t.stu
  set : SetApart n s.set t.set
  chan : t.vwa.chans.get n = s.vwa.chans.get n
  woken : t.vwa.woken.get n = s.vwa.woken.get n
  taken : t.vwa.periodTaken = s.vwa.periodTaken
  view : .vibDanger n ∈ t.pru.view ↔ .vibDanger n ∈ s.pru.view
  latched : ∀ k, latchedActive k s.pru = true → latchedActive k t.pru = true

theorem ChanLeft.refl (n : Chan) (s : State) : ChanLeft n s s :=
  ⟨.refl s, .refl s, .refl _, .refl n _, rfl, rfl, rfl, .rfl, fun _ => id⟩

theorem ChanLeft.trans {n : Chan} {s t u : State} (h : ChanLeft n s t) (k : ChanLeft n t u) : ChanLeft n s u :=
  ⟨h.base.trans k.base, h.links.trans k.links, h.stu.trans k.stu, h.set.trans k.set, k.chan.trans h.chan,
   k.woken.trans h.woken, k.taken.trans h.taken, k.view.trans h.view, fun j hj => k.latched j (h.latched j hj)⟩

/-- Messages that do not publish VIB_DANGER_n leave the channel. -/
theorem Carried.chanLeft {n : Chan} {K : Cause → Prop} {s t : State} (h : Carried K s t) (hk : K (.vibDanger n))
    (hv : t.vwa = s.vwa) : ChanLeft n s t where
  base := h.base
  links := h.links
  stu := h.stu
  set := h.set.apart n
  chan := by rw [hv]
  woken := by rw [hv]
  taken := by rw [hv]
  view := h.pru.view _ ⟨hk, .inl (by intro x; simp)⟩
  latched := h.pru.latched

theorem chanPut_left {n j : Chan} (hj : j ≠ n) (c : VChan) (s : State) : ChanLeft n s (chanPut j c s).1 where
  base := chanPut_base j c s
  links := .of_eq rfl
  stu := .refl _
  set := .refl n _
  chan := (chanPut_get j n c s).trans (if_neg (Ne.symm hj))
  woken := rfl
  taken := rfl
  view := .rfl
  latched := fun _ => id

theorem tellOwners_left (n : Chan) (ids : List Nat) (s : State) : ChanLeft n s (tellOwners ids s) :=
  (raiseTo_carried (K := fun _ => True) .applied (ownersOf ids) s).chanLeft trivial (tellOwners_same ids s).vwa

theorem chanStaged_eq {n : Chan} {s : State} {v : SetValue} (h : stagedProfile n s.set = some v) :
    chanStaged n s = chanPut n
      (takeProfile (s.set.profile n) ((profileTaken n v s.set).profile n) s.now (s.vwa.chans.get n))
      (tellOwners [profileId n] { s with set := profileTaken n v s.set }) := by
  have hsame := tellOwners_same [profileId n] { s with set := profileTaken n v s.set }
  unfold chanStaged
  rw [h]
  dsimp only
  rw [hsame.now, hsame.vwa, hsame.set]

theorem chanStaged_none {n : Chan} {s : State} (h : stagedProfile n s.set = none) : chanStaged n s = (s, []) := by
  unfold chanStaged
  rw [h]

theorem chanStaged_left {n j : Chan} (hj : j ≠ n) (s : State) : ChanLeft n s (chanStaged j s).1 := by
  cases hv : stagedProfile j s.set with
  | none => rw [chanStaged_none hv]; exact .refl n s
  | some v =>
    rw [chanStaged_eq hv]
    have htaken : ChanLeft n s { s with set := profileTaken j v s.set } :=
      { ChanLeft.refl n s with set := profileTaken_apart hj v s.set, base := ⟨rfl, rfl, rfl, rfl, rfl, rfl⟩ }
    exact (htaken.trans (tellOwners_left n _ _)).trans (chanPut_left hj _ _)

theorem chanPut_untold {n j : Chan} (hj : j ≠ n) (c : VChan) (s : State) : untold (chanPut j c s).2 (.vibDanger n) := by
  intro b hm
  rcases mem_chanPut_msgs hm with ⟨k, st, h⟩ | hm | hm
  · cases h
  · rcases mem_condMsgs hm with ⟨h, -⟩ | ⟨h, -⟩
    · exact hj (Cause.vibDanger.inj (Msg.cond.inj h).1).symm
    · cases h
  · rcases mem_condMsgs hm with ⟨h, -⟩ | ⟨h, -⟩ <;> cases h

theorem chanStaged_untold {n j : Chan} (hj : j ≠ n) (s : State) : untold (chanStaged j s).2 (.vibDanger n) := by
  cases hv : stagedProfile j s.set with
  | none => rw [chanStaged_none hv]; exact fun b hm => nomatch hm
  | some v => rw [chanStaged_eq hv]; exact chanPut_untold hj _ _

theorem Flow.post_left {n : Chan} {r : State × List Msg} (o : Sched) (later : List Taking) (f : Flow)
    (hs : ChanLeft n f.state r.1) (hm : untold r.2 (.vibDanger n)) : ChanLeft n f.state (Flow.post o later r f).state :=
  hs.trans ((Flow.post_carried o later r f).chanLeft hm (Flow.post_vwa o later r f))

theorem deliver_vwa (o : Sched) (ms : List Msg) (s : State) : (deliver o ms s).vwa = s.vwa :=
  (deliver_reported o ms s).vwa.trans (calmed_same ms s).vwa

theorem posted_left {n : Chan} {s : State} {r : State × List Msg} (o : Sched) (hs : ChanLeft n s r.1)
    (hm : untold r.2 (.vibDanger n)) : ChanLeft n s (posted o r) :=
  hs.trans ((deliver_carried o r.2 r.1).chanLeft hm (deliver_vwa o r.2 r.1))

/-- The work of every channel, around that of channel `n`. -/
theorem eachChan_chan (o : Sched) (later : List Taking) {work : Chan → State → State × List Msg} (n : Chan)
    (h : ∀ j s, j ≠ n → ChanLeft n s (work j s).1 ∧ untold (work j s).2 (.vibDanger n)) (f : Flow) :
    ∃ g, ChanLeft n f.state g.state ∧
      ChanLeft n (Flow.post o later (work n g.state) g).state (eachChan o later work f).state :=
  foldl_apart (R := fun f g : Flow => ChanLeft n f.state g.state) (fun f => .refl n f.state) (fun h k => h.trans k)
    (fun g j hj => Flow.post_left o later g (h j g.state hj).1 (h j g.state hj).2)
    (mem_chanOrder o n) (nodup_chanOrder o) f

/-! ### Markers -/

theorem putChan_vwa (o : Sched) (n : Chan) (c : VChan) (s : State) : (putChan o n c s).vwa = (chanPut n c s).1.vwa :=
  deliver_vwa o _ _

/-- The channel after its change, as it is settled. -/
theorem putChan_chan (o : Sched) (n : Chan) (c : VChan) (s : State) :
    (putChan o n c s).vwa.chans.get n = settleChannel (s.set.action n) c :=
  (congrArg (fun w : Vwa => w.chans.get n) (putChan_vwa o n c s)).trans ((chanPut_get n n c s).trans (if_pos rfl))

theorem chanMarker_other {k : Marker} {s : State} {n : Chan} (h : (s.set.profile n).marker ≠ k) (t : Tick) (o : Sched) :
    chanMarker k t o s n = s := if_neg h

theorem chanMarker_taken {k : Marker} {s : State} {n : Chan} {c : VChan} {t : Tick} (h : (s.set.profile n).marker = k)
    (hc : takeMarker (s.set.profile n) t (s.vwa.chans.get n) = (c, false)) (o : Sched) :
    chanMarker k t o s n = putChan o n c s := by
  unfold chanMarker
  rw [if_pos h, hc]
  rfl

theorem chanMarker_completes {k : Marker} {s : State} {n : Chan} {c : VChan} {t : Tick} (h : (s.set.profile n).marker = k)
    (hc : takeMarker (s.set.profile n) t (s.vwa.chans.get n) = (c, true)) (o : Sched) :
    chanMarker k t o s n = takeStaged o n (putChan o n c s) := by
  unfold chanMarker
  rw [if_pos h, hc]
  rfl

theorem chanMarker_base (k : Marker) (t : Tick) (o : Sched) (s : State) (n : Chan) : SameBase s (chanMarker k t o s n) := by
  unfold chanMarker
  split
  · dsimp only
    split
    · exact (putChan_base ..).trans (takeStaged_base ..)
    · exact putChan_base ..
  · exact .refl s

theorem chanMarker_left {n j : Chan} (hj : j ≠ n) (k : Marker) (t : Tick) (o : Sched) (s : State) :
    ChanLeft n s (chanMarker k t o s j) := by
  have hput : ∀ c, ChanLeft n s (putChan o j c s) := fun c =>
    posted_left o (chanPut_left hj c s) (chanPut_untold hj c s)
  unfold chanMarker
  split
  · dsimp only
    split
    · exact (hput _).trans (posted_left o (chanStaged_left hj _) (chanStaged_untold hj _))
    · exact hput _
  · exact .refl n s

/-- A marker, around what channel `n` makes of it (R36). -/
theorem markerTaken_chan (k : Marker) (t : Tick) (o : Sched) (s : State) (n : Chan) :
    ∃ u, ChanLeft n s u ∧ ChanLeft n (chanMarker k t o u n) (markerTaken k t o s) ∧ SameBase s (markerTaken k t o s) := by
  obtain ⟨u, hu, hv⟩ := foldl_apart (R := ChanLeft n) (fun s => .refl n s) (fun h k => h.trans k)
    (fun s j hj => chanMarker_left hj k t o s) (mem_chanOrder o n) (nodup_chanOrder o) s
  exact ⟨u, hu, hv, (hu.base.trans (chanMarker_base k t o u n)).trans hv.base⟩

/-- The line of a marker input. -/
def markerLine : Marker → PulseLine
  | .ka => .ka
  | .kb => .kb
  | .ks => .ks

theorem exec_pulseQualifiedEdge {l : PulseLine} {s : State} {c : Candidate} (h : (s.meu.line l).cand = some c)
    (o : Sched) : exec (.pulseQualifiedEdge l o) s = .next (pulseTaken l c o s) := by
  change Host.Outcome.next (match (s.meu.line l).cand with | none => s | some c => pulseTaken l c o s) = _
  rw [h]

/-- A marker edge that has persisted is the marker's taking, the line at its level (R34, R36). -/
theorem exec_marker {k : Marker} {s : State} {q : Candidate} (hq : (s.meu.line (markerLine k)).cand = some q)
    (hup : q.level = true) (o : Sched) : exec (.pulseQualifiedEdge (markerLine k) o) s =
      .next (markerTaken k q.stamp o
        { s with now := plus q.stamp pulsePersist, meu := s.meu.putLine (markerLine k) ⟨true, none⟩ }) := by
  rw [exec_pulseQualifiedEdge hq, pulseTaken, if_pos hup, qualTake, hup]
  cases k <;> rfl

/-! ### What a channel makes of a marker -/

theorem takeMarker_stopped {c : VChan} (h : c.state = .paused ∨ c.state = .sensorFault) (p : Profile) (t : Tick) :
    takeMarker p t c = (c, false) := by
  rcases h with h | h <;> simp only [takeMarker, h]

theorem takeMarker_evaluating {c : VChan} (h : evaluating c.state = true) (p : Profile) (t : Tick) :
    takeMarker p t c = markerEvaluating p t c := by
  rcases (evaluating_iff _).mp h with h | h | h | h <;> simp only [takeMarker, h]

theorem takeMarker_starts {c : VChan} (h : evaluating c.state = true) (hp : c.phase = .wait) (p : Profile) (t : Tick) :
    takeMarker p t c = (startTiming t c, false) := by
  rw [takeMarker_evaluating h, markerEvaluating, hp]

theorem takeMarker_returns {c : VChan} {h : Held} (hs : c.state = .unreferenced) (hh : c.held = some h) (p : Profile)
    (t : Tick) : takeMarker p t c = ({ startTiming t c with state := h.state, held := none }, false) := by
  simp only [takeMarker, hs, heldState, hh]

theorem markerEvaluating_timed {c : VChan} {m : Tick} (hp : c.phase ≠ .wait) (hm : c.lastMarker = some m) (p : Profile)
    (t : Tick) : markerEvaluating p t c =
      if markerRejected t m c.trev then (c, false) else (markerCompletes p t m c, true) := by
  unfold markerEvaluating
  rw [hm]
  cases h : c.phase with
  | wait => exact absurd h hp
  | timing => rfl
  | running => rfl

theorem takeMarker_rejected {c : VChan} {m t : Tick} {r : Nat} (h : evaluating c.state = true) (hp : c.phase ≠ .wait)
    (hm : c.lastMarker = some m) (hr : c.trev = some r) (hearly : since t m < r / 2) (p : Profile) :
    takeMarker p t c = (c, false) := by
  rw [takeMarker_evaluating h, markerEvaluating_timed hp hm, hr]
  exact if_pos (decide_eq_true hearly)

theorem takeMarker_completes {c : VChan} {m t : Tick} (h : evaluating c.state = true) (hp : c.phase ≠ .wait)
    (hm : c.lastMarker = some m) (hlate : ∀ r, c.trev = some r → r / 2 ≤ since t m) (p : Profile) :
    takeMarker p t c = (markerCompletes p t m c, true) := by
  have hnot : markerRejected t m c.trev = false := by
    unfold markerRejected
    split
    · rfl
    · rename_i r hr
      exact decide_eq_false (Nat.not_lt.mpr (hlate r hr))
  rw [takeMarker_evaluating h, markerEvaluating_timed hp hm, hnot]
  rfl

theorem inDanger_eq (c : VChan) : inDanger c = (decide (c.state = .danger) ||
    (decide (c.state = .unreferenced) && decide (c.held.map Held.state = some .danger))) := by
  unfold inDanger
  cases c.state <;> cases c.held <;> simp

theorem deliver_noticed (o : Sched) {ms : List Msg} {k : Notice} {st : Station} (h : .notice k st ∈ ms) (s : State) :
    k ∈ ((deliver o ms s).links.get st).notices ∧ ((deliver o ms s).links.get st).attention = true := by
  obtain ⟨hk, ha⟩ := calmed_noticed h s
  have hr := (deliver_reported o ms s).links st
  exact ⟨hr.notices _ hk, hr.attention ha⟩

theorem chanPut_notice {n : Chan} {c : VChan} {s : State} (h : (s.vwa.chans.get n).state ≠ c.state) :
    .notice .channel .m ∈ (chanPut n c s).2 := by
  rw [chanPut_msgs, vwaNotices, if_neg (show ¬ _ = (settleChannel (s.set.action n) c).state from h)]
  simp

/-! ### The four commands' clauses -/

/-- A tooth edge of a pinion that is not excluded (R35). -/
theorem toothTaken_steady {x : Side} {s : State} (h : (s.stu.motors.get x).excluded = false) (t : Tick) (o : Sched) :
    toothTaken x t o s = { s with meu := meuTooth x t s.meu } := by
  have htooth : stuTooth x s.stu = (s.stu, []) := by simp [stuTooth, h]
  rw [toothTaken, htooth, deliver_calm o (fun m hm => absurd hm List.not_mem_nil)]
  rfl

/-- A pinion that is no longer excluded (R69). -/
def readmitted (m : Motor) : Motor := { m with excluded := false, exclCount := 0, sensorCond := false }

theorem toothTaken_meu (x : Side) (t : Tick) (o : Sched) (s : State) :
    (toothTaken x t o s).meu = meuTooth x t s.meu := (deliver_carried o _ _).base.meu

/-- A tooth edge of an excluded pinion readmits it (R69). -/
theorem toothTaken_readmits {x : Side} {s : State} (h : (s.stu.motors.get x).excluded = true)
    (hs : (s.stu.motors.get x).sensorCond = true) (t : Tick) (o : Sched) :
    toothTaken x t o s = { s with
      meu := meuTooth x t s.meu,
      stu := { s.stu with motors := s.stu.motors.put x (readmitted (s.stu.motors.get x)) },
      pru := pruCond (.speedSensor x) false s.pru } := by
  have htooth : stuTooth x s.stu = ({ s.stu with motors := s.stu.motors.put x (readmitted (s.stu.motors.get x)) },
      [.cond (.speedSensor x) false]) := by
    simp [stuTooth, h, hs, condMsgs, readmitted]
  have hcalm : noReports [Msg.cond (.speedSensor x) false] := fun m hm => by rw [List.mem_singleton.mp hm]; rfl
  rw [toothTaken, htooth, deliver_calm o hcalm]
  rfl

/-- The marker deadline of an evaluating channel (R99, R107, R108). -/
theorem markerDeadline_left {s : State} {n : Chan} {c : VChan} {d : Tick} (hc : s.vwa.chans.get n = c)
    (hs : evaluating c.state = true) (hlevel : derateRight s.vwa = true) (o : Sched) :
    ∃ u, u = putChan o n (takeDeadline c) { s with now := d } ∧ u.now = d ∧
      u.vwa.chans.get n = { c with
        state := .unreferenced, held := some { state := c.state, contribution := c.contribution },
        acc := revAccClear, phase := .wait, deadline := none,
        dangerCond := (s.set.action n).dangerTrip && decide (c.state = .danger), sensorCond := false } ∧
      u.vwa.level = s.vwa.level ∧ .channel ∈ u.links.m.notices ∧ u.links.m.attention = true ∧
      (∀ j : Chan, j ≠ n → u.vwa.chans.get j = s.vwa.chans.get j) ∧ u.msy = s.msy ∧ u.meu = s.meu := by
  have htake : takeDeadline c = { c with
      state := .unreferenced, held := some { state := c.state, contribution := c.contribution }, acc := revAccClear,
      phase := .wait, deadline := none } := if_pos hs
  have hstate : c.state ≠ .unreferenced := fun h => by rw [h] at hs; cases hs
  have hbase := putChan_base o n (takeDeadline c) { s with now := d }
  have hvwa := putChan_vwa o n (takeDeadline c) { s with now := d }
  have hnotice : .notice .channel .m ∈ (chanPut n (takeDeadline c) { s with now := d }).2 :=
    chanPut_notice (by rw [htake]; change (s.vwa.chans.get n).state ≠ _; rw [hc]; exact hstate)
  obtain ⟨hm, hatt⟩ := deliver_noticed o hnotice (chanPut n (takeDeadline c) { s with now := d }).1
  refine ⟨_, rfl, hbase.now, ?_, ?_, hm, hatt, fun j hj => ?_, hbase.msy, hbase.meu⟩
  · rw [putChan_chan, htake]
    rfl
  · rw [hvwa]
    have hright : s.vwa.level = levelOf s.vwa.chans := of_decide_eq_true hlevel
    rw [hright]
    exact levelOf_put (by rw [htake, hc]; rfl)
  · rw [hvwa]
    exact (chanPut_get n j _ _).trans (if_neg hj)

/-- Settles O28: tooth edges by `toothTaken`, markers by what `takeMarker` makes of each state, the deadline last. -/
theorem edgesMarkersAndDeadlines : Obligations.EdgesMarkersAndDeadlines := by
  refine ⟨fun l o s c hc => ⟨fun hdown => ?_, fun x hup hl => ?_⟩,
    fun l k o s q n c hset hq hup hl hc => ?_, fun a c => ?_, fun n o s c d hc hd hs hlevel => ?_⟩
  · rw [exec_pulseQualifiedEdge hc, pulseTaken, hdown, qualTake, hdown]
    rfl
  · have hexec : exec (.pulseQualifiedEdge l o) s = .next (toothTaken x c.stamp o
        { s with now := plus c.stamp pulsePersist, meu := s.meu.putLine l ⟨true, none⟩ }) := by
      rw [exec_pulseQualifiedEdge hc, pulseTaken, if_pos hup, qualTake, hup, hl]
      cases x <;> rfl
    have hteeth : (s.meu.putLine l ⟨true, none⟩).teeth = s.meu.teeth := by cases l <;> rfl
    have hmeu : ∀ w : Meu, w.teeth = s.meu.teeth → { meuTooth x c.stamp w with teeth := s.meu.teeth } = w :=
      fun w hw => by rw [← hw]; rfl
    cases hex : (s.stu.motors.get x).excluded with
    | false =>
      rw [toothTaken_steady (s := { s with now := plus c.stamp pulsePersist, meu := s.meu.putLine l ⟨true, none⟩ }) hex]
        at hexec
      refine ⟨_, hexec, ?_, hmeu _ hteeth, fun _ => rfl, fun h => (nomatch h)⟩
      change (s.meu.putLine l ⟨true, none⟩).teeth.put x _ = _
      rw [hteeth]
    | true =>
      cases hcond : (s.stu.motors.get x).sensorCond with
      | false =>
        refine ⟨_, hexec, ?_, ?_, (fun h => nomatch h), fun _ h => nomatch h⟩
        · rw [toothTaken_meu]
          change (s.meu.putLine l ⟨true, none⟩).teeth.put x _ = _
          rw [hteeth]
        · rw [toothTaken_meu]
          exact hmeu _ hteeth
      | true =>
        rw [toothTaken_readmits (s := { s with now := plus c.stamp pulsePersist, meu := s.meu.putLine l ⟨true, none⟩ })
          hex hcond] at hexec
        refine ⟨_, hexec, ?_, hmeu _ hteeth, (fun h => nomatch h), fun _ _ => ⟨?_, ?_, ?_, ?_, rfl⟩⟩
        · change (s.meu.putLine l ⟨true, none⟩).teeth.put x _ = _
          rw [hteeth]
        · exact Pair.get_put ..
        · cases x <;> rfl
        · simp [pruCond, dropCause]
        · simp [pruCond, dropCause]
  · obtain rfl : l = markerLine k := hl.trans (by cases k <;> rfl)
    have hfull : FullTable s.set := settingsRight_full hset
    obtain ⟨w, hw, hu, hbase⟩ := markerTaken_chan k q.stamp o
      { s with now := plus q.stamp pulsePersist, meu := s.meu.putLine (markerLine k) ⟨true, none⟩ } n
    have hprofile : w.set.profile n = s.set.profile n := hw.set.profile hfull
    have haction : w.set.action n = s.set.action n := hw.set.action hfull n
    have hchan : w.vwa.chans.get n = c := hw.chan.trans hc.symm
    have hput : ∀ e, (s.set.profile n).marker = k → takeMarker (s.set.profile n) q.stamp c = (e, false) →
        (markerTaken k q.stamp o
          { s with now := plus q.stamp pulsePersist, meu := s.meu.putLine (markerLine k) ⟨true, none⟩ }).vwa.chans.get n =
          settleChannel (s.set.action n) e := fun e hk he => by
      rw [hu.chan, chanMarker_taken (by rw [hprofile]; exact hk) (by rw [hprofile, hchan]; exact he), putChan_chan,
        haction]
    refine ⟨_, exec_marker hq hup o, hbase.now, hbase.meu, hbase.msy, fun hk => ?_, fun hk => ⟨fun hs => ?_,
      fun st hd hstart => ?_, fun m r hs hp hm hr hearly => ?_⟩⟩
    · rw [hu.chan, chanMarker_other (by rw [hprofile]; exact hk), hchan]
    · exact hput c hk (takeMarker_stopped hs _ _)
    · rcases hstart with ⟨hs, hp, rfl, rfl⟩ | ⟨h, hs, hh, rfl, rfl⟩
      · exact (hput _ hk (takeMarker_starts hs hp _ _)).trans rfl
      · exact (hput _ hk (takeMarker_returns hs hh _ _)).trans rfl
    · exact hput c hk (takeMarker_rejected hs hp hm hr hearly _)
  · have hcontr : contributionOf a c = (match c.state with
      | .paused | .learning | .normal => 0
      | .alert => a.alertLevel
      | .danger => 3
      | .unreferenced => (match c.held with | none => 0 | some h => h.contribution)
      | .sensorFault => a.faultLevel) := by unfold contributionOf; cases c.state <;> rfl
    have hsettle : settleChannel a c = { c with
        contribution := contributionOf a c, dangerCond := a.dangerTrip && inDanger c,
        sensorCond := decide (c.state = .sensorFault) } := rfl
    rw [hcontr, inDanger_eq] at hsettle
    exact hsettle
  · subst hc
    obtain ⟨u, hu, h⟩ := markerDeadline_left (d := d) rfl ((evaluating_iff _).mpr hs) hlevel o
    refine ⟨u, ?_, h⟩
    rw [hu]
    change Host.Outcome.next (match (s.vwa.chans.get n).deadline with | none => s | some d => _) = _
    rw [hd]

end Sys2Proof.Machine
end

section
/-! A completed revolution (R98, R102 to R109): the table, the two figures, the counters and the grade. -/

namespace Sys2Proof.Machine

/-! ### The integer square root -/

/-- The bits below `2 ^ k` of an integer square root (R103). -/
theorem isqrt_bits (n k r : Nat) (hlo : r ^ 2 ≤ n) (hhi : n < (r + 2 ^ k) ^ 2) :
    ((List.range k).reverse.foldl (isqrtBit n) r) ^ 2 ≤ n ∧
      n < ((List.range k).reverse.foldl (isqrtBit n) r + 1) ^ 2 := by
  induction k generalizing r with
  | zero => exact ⟨hlo, hhi⟩
  | succ k ih =>
    rw [List.range_succ, List.reverse_append, List.reverse_singleton, List.singleton_append, List.foldl_cons, isqrtBit]
    by_cases h : (r + 2 ^ k) * (r + 2 ^ k) ≤ n
    · rw [if_pos h]
      refine ih _ (by rw [Nat.pow_two]; exact h) ?_
      rwa [Nat.add_assoc, ← Nat.two_mul, ← Nat.pow_succ']
    · rw [if_neg h]
      exact ih _ hlo (by rw [Nat.pow_two]; omega)

theorem isqrt_spec (n : Nat) : isqrt n ^ 2 ≤ n ∧ n < (isqrt n + 1) ^ 2 := by
  refine isqrt_bits n (n.log2 / 2 + 1) 0 (by simp) ?_
  calc n < 2 ^ (n.log2 + 1) := Nat.lt_log2_self
    _ ≤ 2 ^ ((n.log2 / 2 + 1) * 2) := Nat.pow_le_pow_right (by decide) (by omega)
    _ = (0 + 2 ^ (n.log2 / 2 + 1)) ^ 2 := by rw [Nat.zero_add, Nat.pow_mul]

/-! ### The span of the table -/

theorem foldl_max_spec (xs : List Int) (x : Int) :
    xs.foldl max x ∈ x :: xs ∧ ∀ y ∈ x :: xs, y ≤ xs.foldl max x := by
  induction xs generalizing x with
  | nil => simp
  | cons z xs ih =>
    obtain ⟨hmem, hle⟩ := ih (max x z)
    rw [List.foldl_cons]
    refine ⟨?_, fun y hy => ?_⟩
    · rcases List.mem_cons.mp hmem with h | h
      · rcases max_choice x z with h' | h' <;> rw [h, h'] <;> simp
      · simp [h]
    · have hmax := hle (max x z) List.mem_cons_self
      rcases List.mem_cons.mp hy with rfl | hy
      · exact (le_max_left _ _).trans hmax
      · rcases List.mem_cons.mp hy with rfl | hy
        · exact (le_max_right _ _).trans hmax
        · exact hle y (List.mem_cons_of_mem _ hy)

theorem foldl_min_spec (xs : List Int) (x : Int) :
    xs.foldl min x ∈ x :: xs ∧ ∀ y ∈ x :: xs, xs.foldl min x ≤ y := by
  induction xs generalizing x with
  | nil => simp
  | cons z xs ih =>
    obtain ⟨hmem, hle⟩ := ih (min x z)
    rw [List.foldl_cons]
    refine ⟨?_, fun y hy => ?_⟩
    · rcases List.mem_cons.mp hmem with h | h
      · rcases min_choice x z with h' | h' <;> rw [h, h'] <;> simp
      · simp [h]
    · have hmin := hle (min x z) List.mem_cons_self
      rcases List.mem_cons.mp hy with rfl | hy
      · exact hmin.trans (min_le_left _ _)
      · rcases List.mem_cons.mp hy with rfl | hy
        · exact hmin.trans (min_le_right _ _)
        · exact hle y (List.mem_cons_of_mem _ hy)

/-- SYNC is the span of the table (R103). -/
theorem syncFigure_spec {table : List Int} (h : table ≠ []) :
    (∀ x ∈ table, ∀ y ∈ table, x - y ≤ (syncFigure table : Int)) ∧
    ∃ x ∈ table, ∃ y ∈ table, x - y = (syncFigure table : Int) := by
  cases table with
  | nil => exact absurd rfl h
  | cons x xs =>
    obtain ⟨hmax, hle⟩ := foldl_max_spec xs x
    obtain ⟨hmin, hge⟩ := foldl_min_spec xs x
    have hspan : (syncFigure (x :: xs) : Int) = xs.foldl max x - xs.foldl min x := by
      have := hle _ hmin
      rw [syncFigure]
      omega
    rw [hspan]
    exact ⟨fun y hy z hz => by have := hle y hy; have := hge z hz; omega, _, hmax, _, hmin, rfl⟩

/-! ### The table -/

theorem tableUpdate_length (w : Nat) {table : List Int} {acc : RevAcc} (h : table.length = 64)
    (hs : acc.sums.length = 64) (hc : acc.counts.length = 64) : (tableUpdate w table acc).length = 64 := by
  simp [tableUpdate, h, hs, hc]

theorem tableUpdate_getElem? {w i count : Nat} {table : List Int} {acc : RevAcc} {avg sum : Int}
    (h : table[i]? = some avg) (hs : acc.sums[i]? = some sum) (hc : acc.counts[i]? = some count) :
    (tableUpdate w table acc)[i]? =
      some (if count = 0 then avg else avg + Int.tdiv (Int.tdiv sum count - avg) (2 ^ w)) := by
  have hzip : (table.zip (acc.sums.zip acc.counts))[i]? = some (avg, sum, count) :=
    List.getElem?_zip_eq_some.mpr ⟨h, List.getElem?_zip_eq_some.mpr ⟨hs, hc⟩⟩
  rw [tableUpdate, List.getElem?_map, hzip, Option.map_some, binUpdate]
  push_cast
  rfl

/-! ### The completed revolution -/

/-- The channel at a completed revolution before its counters and its grade (R98, R102 to R104). -/
def revolved (p : Profile) (t : Tick) (r : Nat) (c : VChan) : VChan :=
  { c with
    trev := some r, lastMarker := some t, deadline := some (deadlineFrom t (some r)),
    table := tableUpdate p.w c.table c.acc, serial := (c.serial + 1) % 65536,
    sync := syncFigure (tableUpdate p.w c.table c.acc), resid := residFigure c.acc,
    acc := revAccClear, completed := min (c.completed + 1) 64 }

theorem markerCompletes_running {c : VChan} (h : c.phase = .running) (p : Profile) (t m : Tick) :
    markerCompletes p t m c = gradeStep p (revolved p t (min (since t m) trevMax) c) := by
  simp only [markerCompletes, h]
  rw [completeRevolution, revolved, h]

theorem markerCompletes_timing {c : VChan} (h : c.phase = .timing) (p : Profile) (t m : Tick) :
    markerCompletes p t m c = { c with
      trev := some (min (since t m) trevMax), lastMarker := some t, phase := .running,
      deadline := some (deadlineFrom t (some (min (since t m) trevMax))) } := by
  simp only [markerCompletes, h]

/-- The grading changes the state and the three counters alone (R104 to R107). -/
theorem gradeStep_rest (p : Profile) (c : VChan) :
    { gradeStep p c with state := c.state, alert := c.alert, danger := c.danger, release := c.release } = c := by
  unfold gradeStep
  split
  · split <;> rfl
  · rfl

theorem gradeStep_learning {c : VChan} (h : c.state = .learning) (p : Profile) :
    gradeStep p c = { clearCounters c with state := if 2 ^ p.w ≤ c.completed then .normal else .learning } := by
  simp only [gradeStep, h]
  split
  · rfl
  · rw [← h]
    rfl

theorem gradeStep_graded {c : VChan} (h : c.state ≠ .learning) (p : Profile) :
    gradeStep p c = takeGrade p (advanceCounters p c) := by
  unfold gradeStep
  split
  · exact absurd ‹_› h
  · rfl

theorem persistNext_or (P Q : Prop) [Decidable P] [Decidable Q] (n : Nat) :
    persistNext (decide P || decide Q) n = if P ∨ Q then min (n + 1) 64 else 0 := by
  by_cases hP : P <;> by_cases hQ : Q <;> simp [persistNext, hP, hQ]

theorem persistNext_and (P Q : Prop) [Decidable P] [Decidable Q] (n : Nat) :
    persistNext (decide P && decide Q) n = if P ∧ Q then min (n + 1) 64 else 0 := by
  by_cases hP : P <;> by_cases hQ : Q <;> simp [persistNext, hP, hQ]

theorem gradeStep_counts {c : VChan} (h : c.state ≠ .learning) (p : Profile) :
    (gradeStep p c).alert = (if p.syncAlert ≤ c.sync ∨ p.residAlert ≤ c.resid then min (c.alert + 1) 64 else 0) ∧
    (gradeStep p c).danger = (if p.syncDanger ≤ c.sync ∨ p.residDanger ≤ c.resid then min (c.danger + 1) 64 else 0) := by
  rw [gradeStep_graded h]
  exact ⟨persistNext_or .., persistNext_or ..⟩

theorem gradeStep_normal {c : VChan} (h : c.state = .normal) (p : Profile) :
    (gradeStep p c).release = 0 ∧
    (gradeStep p c).state = (if p.nDanger ≤ (gradeStep p c).danger then .danger
      else if p.nAlert ≤ (gradeStep p c).alert then .alert else .normal) := by
  rw [gradeStep_graded (by rw [h]; decide)]
  simp only [takeGrade, gradeNext, advanceCounters, releaseHit, h, persistNext, Bool.false_eq_true, if_false, ite_self,
    true_and]

theorem gradeStep_alert {c : VChan} (h : c.state = .alert) (p : Profile) {rel : Nat}
    (hrel : rel = if c.sync < p.syncAlert * 7 / 8 ∧ c.resid < p.residAlert * 7 / 8 then min (c.release + 1) 64 else 0) :
    (gradeStep p c).state = (if p.nDanger ≤ (gradeStep p c).danger then .danger
      else if p.nRelease ≤ rel then .normal else .alert) ∧
    (gradeStep p c).release = (if p.nDanger ≤ (gradeStep p c).danger ∨ p.nRelease ≤ rel then 0 else rel) := by
  rw [gradeStep_graded (by rw [h]; decide)]
  simp only [takeGrade, gradeNext, advanceCounters, releaseHit, h, persistNext_and, ← hrel]
  generalize persistNext _ c.danger = e
  by_cases he : p.nDanger ≤ e <;> by_cases hr : p.nRelease ≤ rel <;> simp [he, hr]

theorem gradeStep_danger {c : VChan} (h : c.state = .danger) (p : Profile) {rel : Nat}
    (hrel : rel = if c.sync < p.syncDanger * 7 / 8 ∧ c.resid < p.residDanger * 7 / 8 then min (c.release + 1) 64
      else 0) :
    (gradeStep p c).state = (if p.nRelease ≤ rel then .alert else .danger) ∧
    (gradeStep p c).release = (if p.nRelease ≤ rel then 0 else rel) := by
  rw [gradeStep_graded (by rw [h]; decide)]
  simp only [takeGrade, gradeNext, advanceCounters, releaseHit, h, persistNext_and, ← hrel]
  by_cases hr : p.nRelease ≤ rel <;> simp [hr]

theorem evaluating_ite {P : Prop} [Decidable P] {a b : ChanState} (ha : evaluating a = true) (hb : evaluating b = true) :
    evaluating (if P then a else b) = true := by
  split
  · exact ha
  · exact hb

theorem gradeStep_evaluating {c : VChan} (h : evaluating c.state = true) (p : Profile) :
    evaluating (gradeStep p c).state = true := by
  rcases (evaluating_iff _).mp h with h | h | h | h
  · rw [gradeStep_learning h]
    exact evaluating_ite rfl rfl
  · rw [(gradeStep_normal h p).2]
    exact evaluating_ite rfl (evaluating_ite rfl rfl)
  · rw [(gradeStep_alert h p rfl).1]
    exact evaluating_ite rfl (evaluating_ite rfl rfl)
  · rw [(gradeStep_danger h p rfl).1]
    exact evaluating_ite rfl rfl

/-! ### What a change of the grade publishes -/

/-- A condition that a block's work publishes as holding is in the view after its messages. -/
theorem Flow.post_joins (o : Sched) (later : List Taking) {r : State × List Msg} {k : Cause} (ht : .cond k true ∈ r.2)
    (hf : .cond k false ∉ r.2) (hk : notHot k) (f : Flow) : k ∈ (Flow.post o later r f).state.pru.view :=
  have hr := Flow.post_reported o later r f
  (hr.pru.view k ⟨trivial, .inl hk⟩).mpr (calmed_joins ht hf r.1)

/-- A condition that a block's work publishes as clear is not in the view after its messages. -/
theorem Flow.post_leaves (o : Sched) (later : List Taking) {r : State × List Msg} {k : Cause} (hf : .cond k false ∈ r.2)
    (ht : .cond k true ∉ r.2) (hk : notHot k) (f : Flow) : k ∉ (Flow.post o later r f).state.pru.view :=
  have hr := Flow.post_reported o later r f
  fun h => (calmed_leaves hf ht r.1).1 ((hr.pru.view k ⟨trivial, .inl hk⟩).mp h)

theorem notHot_vibDanger (n : Chan) : notHot (.vibDanger n) := fun x => by simp

/-- VIB_DANGER_n that comes to hold is in the view and, where its report does not wait, latched (R109). -/
theorem chanPut_dangers (o : Sched) (later : List Taking) {n : Chan} {c : VChan} {s : State}
    (hold : (s.vwa.chans.get n).dangerCond = false) (hnew : ((s.set.action n).dangerTrip && inDanger c) = true) (f : Flow) :
    .vibDanger n ∈ (Flow.post o later (chanPut n c s) f).state.pru.view ∧
    (Taking.report (.vibDanger n) ∉ later →
      latchedActive (.vibDanger n) (Flow.post o later (chanPut n c s) f).state.pru = true) := by
  have hmem : ∀ m, m ∈ condMsgs (.vibDanger n) s.vwa.periodTaken false true → m ∈ (chanPut n c s).2 := fun m hm => by
    rw [chanPut_msgs, hold, hnew]
    exact List.mem_append_left _ (List.mem_append_right _ hm)
  have hclear : .cond (.vibDanger n) false ∉ (chanPut n c s).2 := fun hm => by
    rcases mem_chanPut_msgs hm with ⟨k, st, h⟩ | hm | hm
    · cases h
    · rw [hold, hnew] at hm
      rcases mem_condMsgs hm with ⟨h, -⟩ | ⟨h, -⟩ <;> cases h
    · rcases mem_condMsgs hm with ⟨h, -⟩ | ⟨h, -⟩ <;> cases h
  refine ⟨Flow.post_joins o later (hmem _ (by simp [condMsgs])) hclear (notHot_vibDanger n) f, fun hl => ?_⟩
  have hreport : .report (.vibDanger n) s.vwa.periodTaken ∈ (chanPut n c s).2 := hmem _ (by simp [condMsgs])
  exact Flow.post_latches o hreport hl f fun z _ h => nomatch h

theorem chanPut_ends {n : Chan} {c : VChan} {s : State} (hold : (s.vwa.chans.get n).dangerCond = true)
    (hnew : ((s.set.action n).dangerTrip && inDanger c) = false) :
    .cond (.vibDanger n) false ∈ (chanPut n c s).2 ∧ .cond (.vibDanger n) true ∉ (chanPut n c s).2 := by
  refine ⟨?_, fun hm => ?_⟩
  · rw [chanPut_msgs, hold, hnew]
    exact List.mem_append_left _ (List.mem_append_right _ (by simp [condMsgs]))
  · rcases mem_chanPut_msgs hm with ⟨k, st, h⟩ | hm | hm
    · cases h
    · rw [hold, hnew] at hm
      rcases mem_condMsgs hm with ⟨h, -⟩ | ⟨h, -⟩ <;> cases h
    · rcases mem_condMsgs hm with ⟨h, -⟩ | ⟨h, -⟩ <;> cases h

/-- VIB_DANGER_n that ends leaves the view (R109). -/
theorem chanPut_safe (o : Sched) (later : List Taking) {n : Chan} {c : VChan} {s : State}
    (hold : (s.vwa.chans.get n).dangerCond = true) (hnew : ((s.set.action n).dangerTrip && inDanger c) = false) (f : Flow) :
    .vibDanger n ∉ (Flow.post o later (chanPut n c s) f).state.pru.view := by
  obtain ⟨hclear, hset⟩ := chanPut_ends hold hnew
  exact Flow.post_leaves o later hclear hset (notHot_vibDanger n) f

theorem putChan_eq (o : Sched) (n : Chan) (c : VChan) (s : State) :
    putChan o n c s = (Flow.post o [] (chanPut n c s) { state := (chanPut n c s).1, mail := [] }).state :=
  deliver_eq ..

theorem takeStaged_none {n : Chan} {s : State} (h : stagedProfile n s.set = none) (o : Sched) : takeStaged o n s = s := by
  rw [takeStaged, chanStaged_none h, posted, deliver_calm o (fun m hm => absurd hm List.not_mem_nil)]
  rfl

theorem contribution_graded {c : VChan} (h : evaluating c.state = true) (a : Action) : contributionOf a c =
    if c.state = .danger then 3 else if c.state = .alert then a.alertLevel else 0 := by
  unfold contributionOf
  rcases (evaluating_iff _).mp h with h | h | h | h <;> simp [h]

theorem inDanger_graded {c : VChan} (h : evaluating c.state = true) : inDanger c = decide (c.state = .danger) := by
  unfold inDanger
  rcases (evaluating_iff _).mp h with h | h | h | h <;> simp [h]

/-- The tables of the watch have their 64 bins (R101, R102). -/
theorem binsRight_chan {v : Vwa} (h : binsRight v = true) (n : Chan) :
    (v.chans.get n).table.length = 64 ∧ (v.chans.get n).acc.sums.length = 64 ∧ (v.chans.get n).acc.counts.length = 64 := by
  have hn := (binsRight_iff v).mp h n
  simp only [chanBinsRight, Bool.and_eq_true, decide_eq_true_eq] at hn
  exact ⟨hn.1.1, hn.1.2, hn.2⟩

/-- Settles O29: `takeMarker_completes` for the channel, the figures by their specifications, the grade by
`gradeStep`'s cases. -/
theorem revolutionIsCompletedAndGraded : Obligations.RevolutionIsCompletedAndGraded := by
  intro l k o s q n c m r p hset hq hup hl hc hp hk hnone hstate hphase hm hlate hr
  obtain rfl : l = markerLine k := hl.trans (by cases k <;> rfl)
  have hfull : FullTable s.set := settingsRight_full hset
  have heval : evaluating c.state = true := (evaluating_iff _).mpr hstate
  obtain ⟨w, hw, hu, -⟩ := markerTaken_chan k q.stamp o
    { s with now := plus q.stamp pulsePersist, meu := s.meu.putLine (markerLine k) ⟨true, none⟩ } n
  have hprofile : w.set.profile n = p := (hw.set.profile hfull).trans hp.symm
  have haction : w.set.action n = s.set.action n := hw.set.action hfull n
  have hchan : w.vwa.chans.get n = c := hw.chan.trans hc.symm
  have hfullw : FullTable w.set := hw.set.full hfull
  have hstaged : stagedProfile n (putChan o n (markerCompletes p q.stamp m c) w).set = none := by
    have hsteady : SetSteady w.set (putChan o n (markerCompletes p q.stamp m c) w).set :=
      (deliver_carried o (chanPut n (markerCompletes p q.stamp m c) w).2 (chanPut n (markerCompletes p q.stamp m c) w).1).set
    rw [hsteady.stagedProfile hfullw, hw.set.stagedProfile hfull]
    exact hnone
  have hone : chanMarker k q.stamp o w n = putChan o n (markerCompletes p q.stamp m c) w := by
    rw [chanMarker_completes (by rw [hprofile]; exact hk)
      (by rw [hprofile, hchan]; exact takeMarker_completes heval hphase hm hlate p), takeStaged_none hstaged]
  rw [hone] at hu
  have hd := hu.chan
  rw [putChan_chan, haction] at hd
  refine ⟨_, _, exec_marker hq hup o, rfl, ?_⟩
  rw [hd]
  have hr : min (since q.stamp m) trevMax = r := hr.symm
  cases hphase' : c.phase with
  | wait => exact absurd hphase' hphase
  | timing =>
    rw [markerCompletes_timing hphase', hr]
    exact ⟨rfl, rfl, rfl, rfl, rfl, fun _ => ⟨rfl, rfl, rfl, rfl, rfl, rfl, rfl, rfl, rfl, rfl⟩, fun h => nomatch h⟩
  | running =>
    have hcompletes := markerCompletes_running hphase' p q.stamp m
    rw [hr] at hcompletes
    generalize hE : revolved p q.stamp r c = e at hcompletes
    have hrest := gradeStep_rest p e
    have hevale : evaluating e.state = true := by rw [← hE]; exact heval
    have hgraded := gradeStep_evaluating hevale p
    rw [← hcompletes] at hrest hgraded
    generalize hg : markerCompletes p q.stamp m c = g at *
    have hstates : e.state = c.state := by rw [← hE]; rfl
    have hfield : ∀ {α : Type} (f : VChan → α),
        f { g with state := e.state, alert := e.alert, danger := e.danger, release := e.release } =
          f (revolved p q.stamp r c) := fun f => by rw [hE, hrest]
    have htable : g.table = tableUpdate p.w c.table c.acc := hfield VChan.table
    have hsync : g.sync = syncFigure (tableUpdate p.w c.table c.acc) := hfield VChan.sync
    have hresid : g.resid = residFigure c.acc := hfield VChan.resid
    have hsyncE : e.sync = g.sync := (congrArg VChan.sync hrest :).symm
    have hresidE : e.resid = g.resid := (congrArg VChan.resid hrest :).symm
    have halert : e.alert = c.alert ∧ e.danger = c.danger ∧ e.release = c.release := by rw [← hE]; exact ⟨rfl, rfl, rfl⟩
    have hcounts : ∀ a b : Nat, c.state ≠ .learning →
        a = (if p.syncAlert ≤ g.sync ∨ p.residAlert ≤ g.resid then min (c.alert + 1) 64 else 0) →
        b = (if p.syncDanger ≤ g.sync ∨ p.residDanger ≤ g.resid then min (c.danger + 1) 64 else 0) →
        g.alert = a ∧ g.danger = b := fun a b hs ha hb => by
      have h := gradeStep_counts (c := e) (by rw [hstates]; exact hs) p
      rw [← hcompletes, hsyncE, hresidE, halert.1, halert.2.1, ← ha, ← hb] at h
      exact h
    have hold : (w.vwa.chans.get n).dangerCond = c.dangerCond := by rw [hchan]
    have hnew : ((w.set.action n).dangerTrip && inDanger g) =
        ((s.set.action n).dangerTrip && decide (g.state = .danger)) := by rw [haction, inDanger_graded hgraded]
    have hputs := putChan_eq o n g w
    refine ⟨(hfield VChan.phase).trans hphase', hfield VChan.trev, hfield VChan.lastMarker, hfield VChan.held,
      hfield VChan.deadline, (fun h => nomatch h), fun _ => ⟨hfield VChan.completed, hfield VChan.serial,
      hfield VChan.acc, fun hbins => ?_, fun htotal => ?_, fun htotal => ?_, fun hs => ?_,
      fun a b rel ha hb => ⟨fun hs => ?_, fun hs hrel => ?_, fun hs hrel => ?_⟩, contribution_graded hgraded _, ?_,
      fun hcond hdanger htrip => ?_, fun hcond hsafe => ?_, fun hchange => ?_⟩⟩
    · obtain ⟨hlen, hsums, hcounts⟩ := binsRight_chan hbins n
      rw [← hc] at hlen hsums hcounts
      have h64 : (tableUpdate p.w c.table c.acc).length = 64 := tableUpdate_length p.w hlen hsums hcounts
      have hne : tableUpdate p.w c.table c.acc ≠ [] := fun h => by rw [h] at h64; cases h64
      obtain ⟨hspan, hreached⟩ := syncFigure_spec hne
      have hsettled : (settleChannel (s.set.action n) g).table = tableUpdate p.w c.table c.acc := htable
      have hsettled' : (settleChannel (s.set.action n) g).sync = syncFigure (tableUpdate p.w c.table c.acc) := hsync
      rw [hsettled, hsettled']
      exact ⟨fun i avg sum count h1 h2 h3 => tableUpdate_getElem? h1 h2 h3, hspan, hreached, h64⟩
    · exact hresid.trans (if_pos htotal)
    · have hroot : g.resid = isqrt (c.acc.sumSq / c.acc.total) := hresid.trans (if_neg (by omega))
      have hspec := isqrt_spec (c.acc.sumSq / c.acc.total)
      rw [← hroot] at hspec
      exact hspec
    · have hlearn := gradeStep_learning (hstates.trans hs) p
      rw [← hcompletes] at hlearn
      have hcount : e.completed = min (c.completed + 1) 64 := by rw [← hE]; rfl
      rw [hcount] at hlearn
      rw [hlearn]
      exact ⟨rfl, rfl, rfl, rfl⟩
    · obtain ⟨ha, hb⟩ := hcounts a b (by rw [hs]; decide) ha hb
      have h := gradeStep_normal (hstates.trans hs) p
      rw [← hcompletes, ha, hb] at h
      exact ⟨ha, hb, h⟩
    · obtain ⟨ha, hb⟩ := hcounts a b (by rw [hs]; decide) ha hb
      have hrel : rel = if e.sync < p.syncAlert * 7 / 8 ∧ e.resid < p.residAlert * 7 / 8 then min (e.release + 1) 64
          else 0 := by rw [hsyncE, hresidE, halert.2.2]; exact hrel
      have h := gradeStep_alert (hstates.trans hs) p hrel
      rw [← hcompletes, hb] at h
      exact ⟨ha, hb, h⟩
    · obtain ⟨ha, hb⟩ := hcounts a b (by rw [hs]; decide) ha hb
      have hrel : rel = if e.sync < p.syncDanger * 7 / 8 ∧ e.resid < p.residDanger * 7 / 8 then min (e.release + 1) 64
          else 0 := by rw [hsyncE, hresidE, halert.2.2]; exact hrel
      have h := gradeStep_danger (hstates.trans hs) p hrel
      rw [← hcompletes] at h
      exact ⟨ha, hb, h⟩
    · exact (congrArg (fun b => (s.set.action n).dangerTrip && b) (inDanger_graded hgraded) :)
    · obtain ⟨hview, hlatched⟩ := chanPut_dangers o [] (hold.trans hcond)
        (hnew.trans (by rw [htrip, decide_eq_true (show g.state = .danger from hdanger)]; rfl))
        { state := (chanPut n g w).1, mail := [] }
      rw [← hputs] at hview hlatched
      exact ⟨hu.view.mpr hview, hu.latched _ (hlatched List.not_mem_nil)⟩
    · have hview := chanPut_safe o [] (hold.trans hcond)
        (hnew.trans (by rw [decide_eq_false (show ¬ g.state = .danger from hsafe), Bool.and_false]))
        { state := (chanPut n g w).1, mail := [] }
      rw [← hputs] at hview
      exact fun h => hview (hu.view.mp h)
    · have hnotice := chanPut_notice (n := n) (c := g) (s := w) (by rw [hchan]; exact fun h => hchange h.symm)
      exact (hu.links .m).notices _ (deliver_noticed o hnotice (chanPut n g w).1).1

end Sys2Proof.Machine
end

section
/-! The apply points of the settings (R184 to R188): the settings table's and the watch's takings of a period event, an
entry into a stopped state, and the completion of a revolution. -/

namespace Sys2Proof.Machine

theorem takePeriod_due {b : Block} {n : Period} {f : Flow} (h : f.state.takenBy b ≠ n) (o : Sched) (t : Tick)
    (later : List Taking) : takePeriod o n t b later f = periodWork o n t b later f := if_neg h

/-! ### Owners -/

theorem mem_ownersOf {ids : List Nat} {id : Nat} {r : SetSpec} (hid : id ∈ ids) (hr : specOf id = some r) :
    r.owner ∈ ownersOf ids := by
  refine List.mem_filter.mpr ⟨by cases r.owner <;> decide, List.any_eq_true.mpr ⟨id, hid, ?_⟩⟩
  rw [hr]
  exact decide_eq_true rfl

theorem tellOwners_applied {ids : List Nat} {id : Nat} {r : SetSpec} (hid : id ∈ ids) (hr : specOf id = some r)
    (s : State) : .applied ∈ ((tellOwners ids s).links.get r.owner).notices :=
  (raiseTo_noticed .applied (mem_ownersOf hid hr) s).1

theorem specOf_succ (i : Nat) : specOf (i + 1) = catalogue[i]? := rfl

/-- The identifier of a staged row whose class is applied is among those applied. -/
theorem row_applied {choose : ApplyClass → Bool} {z : SetTable} (hz : FullTable z) {i : Nat} {r : SetSpec} {w : SetValue}
    (hr : catalogue[i]? = some r) (hc : choose r.cls = true) (hw : z.staged[i]? = some (some w)) :
    i + 1 ∈ appliedIds choose z := by
  refine (mem_appliedIds_iff hz (id := i + 1) hr (by omega)).mpr ⟨hc, ?_⟩
  rw [Nat.add_sub_cancel, hw]
  rfl

/-! ### The settings table's taking of a period event -/

/-- The identifiers applied at a period event (R184, R185). -/
def periodIds (s : State) : List Nat := appliedIds (atPeriod s.set.driveView) s.set

/-- The part after the settings table's apply at the period event `n`, its owners told (R184, R188). -/
def setTold (n : Period) (s : State) : State :=
  tellOwners (periodIds s) { s with set := { applyClasses (atPeriod s.set.driveView) s.set with periodTaken := n } }

/-- The part after the hand-over of the settings of class STOPPED (R187). -/
def setHanded (n : Period) (s : State) : State :=
  handStopped (setTold n s).dsq.drive (periodIds s) (setTold n s)

/-- The flow after the channels have taken the applies of their actions (R187). -/
def actionsHanded (o : Sched) (n : Period) (later : List Taking) (f : Flow) : Flow :=
  eachChan o later (chanAction (periodIds f.state)) { f with state := setHanded n f.state }

theorem workSet_eq (o : Sched) (n : Period) (later : List Taking) (f : Flow) : workSet o n later f =
    if (periodIds f.state).contains 82 then
      Flow.perform o later (stallClass n (actionsHanded o n later f).state) (actionsHanded o n later f)
    else actionsHanded o n later f := rfl

theorem setHanded_set (n : Period) (s : State) :
    (setHanded n s).set = { applyClasses (atPeriod s.set.driveView) s.set with periodTaken := n } :=
  (handStopped_same ..).2.2.2.trans (tellOwners_same ..).set

theorem setHanded_dsq (n : Period) (s : State) : (setHanded n s).dsq = s.dsq :=
  (handStopped_same ..).2.1.trans (tellOwners_same ..).dsq

theorem setHanded_links (n : Period) (s : State) : LinksRaised (setTold n s) (setHanded n s) :=
  (handStopped_handed ..).links

/-- The kinds that an apply at a period event leaves alone. -/
def applyQuiet (k : Cause) : Prop := k ≠ .stall ∧ (∀ i, k ≠ .vibDanger i) ∧ ∀ i, k ≠ .vibSensor i

theorem chanPut_carried {K : Cause → Prop} (n : Chan) (c : VChan) (s : State) : Carried K s (chanPut n c s).1 :=
  ⟨chanPut_base n c s, .of_eq rfl, .refl _, .refl _, .refl _, .refl, fun x => by cases x <;> exact .of_eq rfl, .refl _,
    fun _ _ => id, fun _ => rfl⟩

/-- The change of a channel publishes its own two conditions alone. -/
theorem chanPut_tells {k : Cause} (n : Chan) (c : VChan) (s : State) (hd : ∀ i, k ≠ .vibDanger i)
    (hs : ∀ i, k ≠ .vibSensor i) : untold (chanPut n c s).2 k := by
  intro b hm
  rcases mem_chanPut_msgs hm with ⟨j, st, h⟩ | hm | hm
  · cases h
  · rcases mem_condMsgs hm with ⟨h, -⟩ | ⟨h, -⟩
    · exact hd n (Msg.cond.inj h).1
    · cases h
  · rcases mem_condMsgs hm with ⟨h, -⟩ | ⟨h, -⟩
    · exact hs n (Msg.cond.inj h).1
    · cases h

theorem chanAction_carried {K : Cause → Prop} (ids : List Nat) (n : Chan) (s : State) :
    Carried K s (chanAction ids n s).1 := by
  unfold chanAction
  split
  · exact chanPut_carried ..
  · exact .refl s

theorem chanAction_tells {k : Cause} (ids : List Nat) (n : Chan) (s : State) (hd : ∀ i, k ≠ .vibDanger i)
    (hs : ∀ i, k ≠ .vibSensor i) : untold (chanAction ids n s).2 k := by
  unfold chanAction
  split
  · exact chanPut_tells n _ s hd hs
  · exact fun b hm => nomatch hm

theorem actionsHanded_carried (o : Sched) (n : Period) (later : List Taking) (f : Flow) :
    Carried applyQuiet (setHanded n f.state) (actionsHanded o n later f).state :=
  eachChan_carried o later (fun i s => chanAction_carried _ i s)
    (fun i s _ hk => chanAction_tells _ i s hk.2.1 hk.2.2) { f with state := setHanded n f.state }

/-- STALL out of the warning set (R141). -/
def stallDropped (s : State) : State := { s with pru := { s.pru with warnings := dropCause .stall s.pru.warnings } }

theorem stallDropped_carried (s : State) : Carried applyQuiet s (stallDropped s) := by
  refine SameDrive.carried ⟨⟨rfl, rfl, rfl, rfl, rfl, rfl⟩, rfl, rfl, rfl, rfl, rfl, rfl⟩ (.of_eq rfl) (.refl _) ?_
    fun _ _ h => ⟨h.view, fun hw => h.warned (List.mem_of_mem_filter hw)⟩
  exact ⟨rfl, fun _ _ => .rfl, fun _ hk hw => List.mem_filter.mpr ⟨hw, decide_eq_true hk.1.1⟩, fun h => ⟨h, rfl, rfl⟩,
    fun _ => id⟩

theorem workSet_carried (o : Sched) (n : Period) (later : List Taking) (f : Flow) :
    Carried applyQuiet (setHanded n f.state) (workSet o n later f).state := by
  have hg := actionsHanded_carried o n later f
  rw [workSet_eq]
  generalize actionsHanded o n later f = g at hg
  split
  · unfold stallClass
    split
    · exact (hg.trans (stallDropped_carried g.state)).trans
        (Flow.report_reported o later .stall n { g with state := stallDropped g.state }).carried
    · exact hg
  · exact hg

/-! ### An entry into a stopped state -/

theorem handStopped_links (d : Drive) (ids : List Nat) (s : State) : LinksRaised s (handStopped d ids s) :=
  (handStopped_handed d ids s).links

theorem setEntry_applied {new : Drive} {s : State} {id : Nat} {r : SetSpec} (hd : stoppedState new = true)
    (hid : id ∈ appliedIds atEntry s.set) (hr : specOf id = some r) (old : Drive) :
    .applied ∈ ((setEntry old new s).links.get r.owner).notices := by
  unfold setEntry
  rw [if_pos hd]
  exact (handStopped_links _ _ _ r.owner).notices _ (tellOwners_applied hid hr _)

/-- A move of the drive into a stopped state tells the owners of what it applies (R185, R188). -/
theorem moveDrive_applied (o : Sched) {d : Dsq} {s : State} {id : Nat} {r : SetSpec} (hne : d.drive ≠ s.dsq.drive)
    (hd : stoppedState d.drive = true) (hid : id ∈ appliedIds atEntry s.set) (hr : specOf id = some r) :
    .applied ∈ ((moveDrive o d s).links.get r.owner).notices := by
  unfold moveDrive
  rw [if_neg hne]
  split
  · have hentry := setEntry_applied (s := { s with dsq := d }) hd hid hr s.dsq.drive
    exact (driveTold_links s.dsq _ r.owner).notices _ hentry
  · have hset : (driveTold s.dsq { s with dsq := d }).set = s.set := (raiseTo_same .driveState [.c, .p] _).set
    exact setEntry_applied (s := driveTold s.dsq { s with dsq := d }) hd (by rw [hset]; exact hid) hr d.drive

/-! ### A channel's staged profile -/

theorem profileTaken_profile {z : SetTable} (hz : FullTable z) (n : Chan) (p : Profile) :
    (profileTaken n (.profile p) z).profile n = p := by
  have hlt : 62 + chanNumber n < z.active.length := by rw [hz.active]; cases n <;> decide
  rw [SetTable.profile, profileTaken, profileId_pred, List.getElem?_set_self hlt]

theorem profileTaken_staged {z : SetTable} (hz : FullTable z) (n : Chan) (v : SetValue) :
    stagedProfile n (profileTaken n v z) = none := by
  have hlt : 62 + chanNumber n < z.staged.length := by rw [hz.staged]; cases n <;> decide
  rw [stagedProfile, profileTaken, profileId_pred, List.getElem?_set_self hlt]

theorem chanStaged_set {n : Chan} {s : State} {v : SetValue} (h : stagedProfile n s.set = some v) :
    (chanStaged n s).1.set = profileTaken n v s.set := by
  rw [chanStaged_eq h]
  exact (tellOwners_same ..).set

theorem chanStaged_applied {n : Chan} {s : State} {v : SetValue} (h : stagedProfile n s.set = some v) :
    .applied ∈ (chanStaged n s).1.links.m.notices := by
  rw [chanStaged_eq h]
  obtain ⟨r, hr, hm⟩ : ∃ r, specOf (profileId n) = some r ∧ r.owner = .m := by cases n <;> exact ⟨_, rfl, rfl⟩
  have htold := tellOwners_applied (List.mem_singleton_self (profileId n)) hr { s with set := profileTaken n v s.set }
  rw [hm] at htold
  exact htold

/-- Channel `n` has taken the profile `p`, and station M is told. -/
structure ProfileTaken (n : Chan) (p : Profile) (t : State) : Prop where
  full : FullTable t.set
  profile : t.set.profile n = p
  staged : stagedProfile n t.set = none
  told : .applied ∈ t.links.m.notices

theorem ProfileTaken.keep {n : Chan} {p : Profile} {s t : State} (h : ProfileTaken n p s) (hs : SetApart n s.set t.set)
    (hl : LinksRaised s t) : ProfileTaken n p t :=
  ⟨hs.full h.full, (hs.profile h.full).trans h.profile, (hs.stagedProfile h.full).trans h.staged,
   (hl .m).notices _ h.told⟩

theorem profileTaken_full {z : SetTable} (hz : FullTable z) (n : Chan) (v : SetValue) : FullTable (profileTaken n v z) :=
  ⟨by simpa [profileTaken] using hz.active, by simpa [profileTaken] using hz.staged⟩

theorem chanStaged_takes {n : Chan} {p : Profile} {s : State} (hz : FullTable s.set)
    (h : stagedProfile n s.set = some (.profile p)) : ProfileTaken n p (chanStaged n s).1 := by
  have hset := chanStaged_set h
  refine ⟨?_, ?_, ?_, chanStaged_applied h⟩ <;> rw [hset]
  · exact profileTaken_full hz n _
  · exact profileTaken_profile hz n p
  · exact profileTaken_staged hz n _

/-! ### The watch's taking of a period event -/

/-- The part as the watch takes the period event `n`: what the speeds noted is used up (R113). -/
def vwaStarted (n : Period) (s : State) : State := { s with vwa := { s.vwa with woken := noneWoken, periodTaken := n } }

theorem chanPeriod_left {n j : Chan} (hj : j ≠ n) (woken : Quad (Option SetValue)) (s : State) :
    ChanLeft n s (chanPeriod woken j s).1 ∧ untold (chanPeriod woken j s).2 (.vibDanger n) := by
  unfold chanPeriod
  split
  · exact ⟨chanStaged_left hj s, chanStaged_untold hj s⟩
  · exact ⟨.refl n s, fun b hm => nomatch hm⟩

theorem chanPeriod_woken (woken : Quad (Option SetValue)) (n : Chan) (s : State) :
    (chanPeriod woken n s).1.vwa.woken = s.vwa.woken := by
  unfold chanPeriod
  split
  · cases hv : stagedProfile n s.set with
    | none => rw [chanStaged_none hv]
    | some v =>
      rw [chanStaged_eq hv]
      exact (congrArg Vwa.woken (tellOwners_same [profileId n] { s with set := profileTaken n v s.set }).vwa :)
  · rfl

/-- The watch's work at a period event, around that of channel `n`. -/
theorem workVwa_chan (o : Sched) (n : Period) (later : List Taking) (f : Flow) (i : Chan) :
    ∃ g, ChanLeft i (vwaStarted n f.state) g.state ∧
      ChanLeft i (Flow.post o later (chanPeriod f.state.vwa.woken i g.state) g).state (workVwa o n later f).state :=
  eachChan_chan o later i (fun _ s hj => chanPeriod_left hj _ s) { f with state := vwaStarted n f.state }

theorem workVwa_woken (o : Sched) (n : Period) (later : List Taking) (f : Flow) (i : Chan) :
    (workVwa o n later f).state.vwa.woken.get i = none := by
  obtain ⟨g, hg, hu⟩ := workVwa_chan o n later f i
  rw [hu.woken, Flow.post_vwa, chanPeriod_woken, hg.woken]
  cases i <;> rfl

theorem takesAtPeriod_iff (woken staged : Option SetValue) (c : VChan) : takesAtPeriod woken staged c = true ↔
    (∃ v, woken = some v ∧ staged = some v) ∨ evaluating c.state = false := by
  unfold takesAtPeriod
  cases hs : c.state <;> cases woken <;> simp [evaluating, eq_comm]

/-- A profile that the watch takes at the period event `n` (R113). -/
theorem workVwa_takes (o : Sched) (n : Period) (later : List Taking) {f : Flow} {i : Chan} {p : Profile}
    (hz : FullTable f.state.set) (hp : stagedProfile i f.state.set = some (.profile p))
    (h : takesAtPeriod (f.state.vwa.woken.get i) (stagedProfile i f.state.set) (f.state.vwa.chans.get i) = true) :
    ProfileTaken i p (workVwa o n later f).state := by
  obtain ⟨g, hg, hu⟩ := workVwa_chan o n later f i
  have hstaged : stagedProfile i g.state.set = stagedProfile i f.state.set := hg.set.stagedProfile hz
  have hchan : g.state.vwa.chans.get i = f.state.vwa.chans.get i := hg.chan
  have hone : chanPeriod f.state.vwa.woken i g.state = chanStaged i g.state := by
    rw [chanPeriod, hstaged, hchan, if_pos h]
  rw [hone] at hu
  have hcarried := Flow.post_carried o later (chanStaged i g.state) g
  exact ((chanStaged_takes (hg.set.full hz) (hstaged.trans hp)).keep (hcarried.set.apart i) hcarried.links).keep
    hu.set hu.links

/-- A profile that stays staged at the period event `n` (R113, R186). -/
theorem workVwa_holds (o : Sched) (n : Period) (later : List Taking) {f : Flow} {i : Chan}
    (hz : FullTable f.state.set)
    (h : takesAtPeriod (f.state.vwa.woken.get i) (stagedProfile i f.state.set) (f.state.vwa.chans.get i) = false) :
    (workVwa o n later f).state.set.profile i = f.state.set.profile i ∧
      stagedProfile i (workVwa o n later f).state.set = stagedProfile i f.state.set := by
  obtain ⟨g, hg, hu⟩ := workVwa_chan o n later f i
  have hstaged : stagedProfile i g.state.set = stagedProfile i f.state.set := hg.set.stagedProfile hz
  have hchan : g.state.vwa.chans.get i = f.state.vwa.chans.get i := hg.chan
  have hone : chanPeriod f.state.vwa.woken i g.state = (g.state, []) := by
    rw [chanPeriod, hstaged, hchan, h]
    rfl
  rw [hone] at hu
  have hset : SetApart i f.state.set (workVwa o n later f).state.set :=
    hg.set.trans (((Flow.post_carried o later (g.state, []) g).set.apart i).trans hu.set)
  exact ⟨hset.profile hz, hset.stagedProfile hz⟩

/-! ### The speeds published -/

/-- The part and the flow after the speed and torque unit's own work and its reports (R67). -/
def stuPosted (o : Sched) (n : Period) (t : Tick) (later : List Taking) (f : Flow) : Flow :=
  Flow.post o later ({ f.state with stu := (stuPeriod f.state.set (f.state.stuView n t) f.state.stu).1 },
    (stuPeriod f.state.set (f.state.stuView n t) f.state.stu).2) f

theorem workStu_eq (o : Sched) (n : Period) (t : Tick) (later : List Taking) (f : Flow) :
    workStu o n t later f = eachChan o later chanSpeeds (stuPosted o n t later f) := rfl

theorem stuPosted_carried (o : Sched) (n : Period) (t : Tick) (later : List Taking) (f : Flow) :
    Carried (untold (stuPeriod f.state.set (f.state.stuView n t) f.state.stu).2)
      { f.state with stu := stuWork f.state.set (f.state.stuView n t) f.state.stu } (stuPosted o n t later f).state :=
  Flow.post_carried o later ({ f.state with stu := (stuPeriod f.state.set (f.state.stuView n t) f.state.stu).1 },
    (stuPeriod f.state.set (f.state.stuView n t) f.state.stu).2) f

theorem stuPosted_vwa (o : Sched) (n : Period) (t : Tick) (later : List Taking) (f : Flow) :
    (stuPosted o n t later f).state.vwa = f.state.vwa := Flow.post_vwa ..

theorem chanSpeeds_left {n j : Chan} (hj : j ≠ n) (s : State) :
    ChanLeft n s (chanSpeeds j s).1 ∧ untold (chanSpeeds j s).2 (.vibDanger n) := by
  have hput := chanPut_left hj (speedTest s.set.watchMin (s.set.profile j) (s.refSpeedOf j) s.now (s.vwa.chans.get j)) s
  exact ⟨⟨chanSpeeds_base j s, .of_eq rfl, .refl _, .refl n _, hput.chan, Quad.get_put_ne _ _ (Ne.symm hj), rfl, .rfl,
    fun _ => id⟩, chanPut_untold hj _ s⟩

/-- The speed and torque unit's work at a period event, around what channel `i` makes of the speeds. -/
theorem workStu_chan (o : Sched) (n : Period) (t : Tick) (later : List Taking) (f : Flow) (i : Chan) :
    ∃ g, ChanLeft i (stuPosted o n t later f).state g.state ∧
      ChanLeft i (Flow.post o later (chanSpeeds i g.state) g).state (workStu o n t later f).state :=
  eachChan_chan o later i (fun _ s hj => chanSpeeds_left hj s) (stuPosted o n t later f)

theorem workStu_set (o : Sched) (n : Period) (t : Tick) (later : List Taking) (f : Flow) (i : Chan) :
    SetApart i f.state.set (workStu o n t later f).state.set ∧ LinksRaised f.state (workStu o n t later f).state := by
  obtain ⟨g, hg, hu⟩ := workStu_chan o n t later f i
  have hstu := stuPosted_carried o n t later f
  have hpost := Flow.post_carried o later (chanSpeeds i g.state) g
  exact ⟨((hstu.set.apart i).trans hg.set).trans ((hpost.set.apart i).trans hu.set),
    LinksRaised.trans (LinksRaised.trans hstu.links hg.links) (LinksRaised.trans hpost.links hu.links)⟩

/-- What the speeds make of channel `i` before its messages, with what stood before them. -/
theorem workStu_speeds (o : Sched) {n : Period} (t : Tick) (later : List Taking) {f : Flow} {w : Stu} (i : Chan)
    (hz : FullTable f.state.set) (hw : w = stuWork f.state.set (f.state.stuView n t) f.state.stu) :
    ∃ g c, c = speedTest f.state.set.watchMin (f.state.set.profile i)
        (refSpeed (f.state.set.profile i).marker w.motors.a.speed w.motors.b.speed w.s) f.state.now
        (f.state.vwa.chans.get i) ∧
      g.state.vwa.chans.get i = f.state.vwa.chans.get i ∧ g.state.set.action i = f.state.set.action i ∧
      chanSpeeds i g.state = ({ (chanPut i c g.state).1 with
        vwa := vwaWake n i (f.state.vwa.chans.get i).state (stagedProfile i f.state.set) (chanPut i c g.state).1.vwa },
        (chanPut i c g.state).2) ∧
      g.state.vwa.periodTaken = f.state.vwa.periodTaken ∧
      ChanLeft i (Flow.post o later (chanSpeeds i g.state) g).state (workStu o n t later f).state := by
  obtain ⟨g, hg, hu⟩ := workStu_chan o n t later f i
  have hstu := stuPosted_carried o n t later f
  rw [← hw] at hstu
  have hvwa := stuPosted_vwa o n t later f
  have hset : SetApart i f.state.set g.state.set := (hstu.set.apart i).trans hg.set
  have hkept : StuKept w g.state.stu := hstu.stu.trans hg.stu
  have hnow : g.state.now = f.state.now := hg.base.now.trans hstu.base.now
  have hchan : g.state.vwa.chans.get i = f.state.vwa.chans.get i := hg.chan.trans (by rw [hvwa])
  have hspeed : ∀ x, (g.state.stu.motors.get x).speed = (w.motors.get x).speed := fun x =>
    (congrArg Motor.speed (hkept.motor x) :)
  have hmean : g.state.stu.s = w.s := (congrArg Stu.s hkept.rest :)
  have hnumber : g.state.stu.periodTaken = n := by
    have h : g.state.stu.periodTaken = w.periodTaken := (congrArg Stu.periodTaken hkept.rest :)
    rw [h, hw]
    rfl
  have href : g.state.refSpeedOf i =
      refSpeed (f.state.set.profile i).marker w.motors.a.speed w.motors.b.speed w.s := by
    have ha := hspeed .a
    have hb := hspeed .b
    simp only [Pair.get] at ha hb
    rw [State.refSpeedOf, hset.profile hz, ha, hb, hmean]
  refine ⟨g, _, rfl, hchan, hset.action hz i, ?_, hg.taken.trans (by rw [hvwa]), hu⟩
  rw [chanSpeeds, href, hset.watchMin hz, hset.profile hz, hnow, hchan, hnumber, hset.stagedProfile hz]

theorem chanSpeeds_msgs (n : Chan) (s : State) : (chanSpeeds n s).2 =
    (chanPut n (speedTest s.set.watchMin (s.set.profile n) (s.refSpeedOf n) s.now (s.vwa.chans.get n)) s).2 := rfl

theorem vwaWake_noted (n : Period) (k : Chan) (old : ChanState) (staged : Option SetValue) (v : Vwa) :
    (vwaWake n k old staged v).woken.get k =
      if old = .paused ∧ (v.chans.get k).state ≠ .paused ∧ v.periodTaken ≠ n then staged else none := by
  have hput : (vwaWake n k old staged v).woken.get k =
      (if decide (old = .paused) && decide ((v.chans.get k).state ≠ .paused) && decide (v.periodTaken ≠ n)
        then staged else none) := Quad.get_put ..
  rw [hput]
  simp only [Bool.and_eq_true, decide_eq_true_eq, and_assoc]

/-- Channel `i` after the speed and torque unit's work: its state by the speeds, settled, and what the watch notes of it
(R95, R113). -/
theorem workStu_channel (o : Sched) {n : Period} (t : Tick) (later : List Taking) {f : Flow} {w : Stu} (i : Chan)
    (hz : FullTable f.state.set) (hw : w = stuWork f.state.set (f.state.stuView n t) f.state.stu) :
    ∃ c, c = speedTest f.state.set.watchMin (f.state.set.profile i)
        (refSpeed (f.state.set.profile i).marker w.motors.a.speed w.motors.b.speed w.s) f.state.now
        (f.state.vwa.chans.get i) ∧
      (workStu o n t later f).state.vwa.chans.get i = settleChannel (f.state.set.action i) c ∧
      (workStu o n t later f).state.vwa.woken.get i =
        (if (f.state.vwa.chans.get i).state = .paused ∧ c.state ≠ .paused ∧ f.state.vwa.periodTaken ≠ n
         then stagedProfile i f.state.set else none) ∧
      (workStu o n t later f).state.vwa.periodTaken = f.state.vwa.periodTaken ∧
      ((f.state.vwa.chans.get i).state ≠ c.state → .channel ∈ (workStu o n t later f).state.links.m.notices) ∧
      ((f.state.vwa.chans.get i).dangerCond = true → inDanger c = false →
        .vibDanger i ∉ (workStu o n t later f).state.pru.view) := by
  obtain ⟨g, c, hc, hchan, haction, hone, htaken, hu⟩ := workStu_speeds o t later i hz hw
  have hmsgs : (chanSpeeds i g.state).2 = (chanPut i c g.state).2 := by rw [hone]
  have hvwa : (Flow.post o later (chanSpeeds i g.state) g).state.vwa =
      vwaWake n i (f.state.vwa.chans.get i).state (stagedProfile i f.state.set) (chanPut i c g.state).1.vwa := by
    rw [Flow.post_vwa, hone]
  have hput : (chanPut i c g.state).1.vwa.chans.get i = settleChannel (f.state.set.action i) c := by
    rw [chanPut_get, if_pos rfl, haction]
  refine ⟨c, hc, ?_, ?_, ?_, fun hs => ?_, fun hd hsafe => ?_⟩
  · rw [hu.chan, hvwa]
    exact hput
  · have hperiod : (chanPut i c g.state).1.vwa.periodTaken = f.state.vwa.periodTaken := htaken
    have hstate : (settleChannel (f.state.set.action i) c).state = c.state := rfl
    rw [hu.woken, hvwa, vwaWake_noted, hput, hperiod, hstate]
  · rw [hu.taken, hvwa]
    exact htaken
  · have hnotice : .notice .channel .m ∈ (chanSpeeds i g.state).2 := by
      rw [hmsgs]
      exact chanPut_notice (by rw [hchan]; exact hs)
    have hpost := Flow.post_reported o later (chanSpeeds i g.state) g
    exact (hu.links .m).notices _ ((hpost.links .m).notices _ (calmed_noticed hnotice _).1)
  · obtain ⟨hclear, hset⟩ := chanPut_ends (n := i) (c := c) (s := g.state) (by rw [hchan]; exact hd)
      (by rw [hsafe, Bool.and_false])
    rw [← hmsgs] at hclear hset
    exact fun h => Flow.post_leaves o later hclear hset (notHot_vibDanger i) g (hu.view.mp h)

theorem speedTest_wakes {c : VChan} {low speed : Nat} (h : c.state = .paused) (hs : low ≤ speed) (p : Profile) (t : Tick) :
    speedTest low p speed t c = leavePaused p t c := by
  simp only [speedTest, h]
  exact if_neg (Nat.not_lt.mpr hs)

theorem speedTest_pauses {c : VChan} {low speed : Nat} (hp : c.state ≠ .paused) (hf : c.state ≠ .sensorFault)
    (hs : speed < low) (p : Profile) (t : Tick) : speedTest low p speed t c = enterPaused c := by
  unfold speedTest
  cases h : c.state with
  | paused => exact absurd h hp
  | sensorFault => exact absurd h hf
  | learning | normal | alert | danger | unreferenced => exact if_pos hs

theorem speedTest_keeps {c : VChan} {low speed : Nat} (h : (c.state = .paused ∧ speed < low) ∨ c.state = .sensorFault ∨
    (c.state ≠ .paused ∧ low ≤ speed)) (p : Profile) (t : Tick) : speedTest low p speed t c = c := by
  unfold speedTest
  cases hc : c.state with
  | paused =>
    rcases h with ⟨-, h⟩ | h | ⟨h, -⟩
    · exact if_pos h
    · rw [hc] at h
      cases h
    · exact absurd hc h
  | sensorFault => rfl
  | learning | normal | alert | danger | unreferenced =>
    rcases h with ⟨h, -⟩ | h | ⟨-, h⟩
    · rw [hc] at h
      cases h
    · rw [hc] at h
      cases h
    · exact if_neg (Nat.not_lt.mpr h)

/-- A channel woken is in LEARNING or NORMAL, settled (R95, R107 to R110). -/
theorem settle_leavePaused (a : Action) (p : Profile) (t : Tick) (c : VChan) :
    settleChannel a (leavePaused p t c) = { c with
      state := (if c.completed < 2 ^ p.w then .learning else .normal), phase := .wait, contribution := 0,
      deadline := some (deadlineFrom t c.trev), dangerCond := false, sensorCond := false } := by
  unfold settleChannel leavePaused contributionOf inDanger
  split <;> simp

/-- Settles O15: `workStu_channel`, with the channel's test against the watch minimum case by case. -/
theorem publishedSpeedsMoveTheChannels : Obligations.PublishedSpeedsMoveTheChannels := by
  intro o n t later f s u w i c p speed hs hset htaken hw hu hc hp hspeed
  subst hs
  have hz : FullTable f.state.set := settingsRight_full hset
  have hwork : u = (workStu o n t later f).state := hu.trans (congrArg Flow.state (takePeriod_due (b := .stu) htaken o t later))
  obtain ⟨d, hd, hchan, hwoken, -, hnotice, hview⟩ := workStu_channel o t later i hz hw
  have hspeed : refSpeed (f.state.set.profile i).marker w.motors.a.speed w.motors.b.speed w.s = speed := by
    rw [hspeed, hp]
    cases (f.state.set.profile i).marker <;> rfl
  rw [hspeed, ← hp, ← hc] at hd
  rw [← hwork, ← hc] at hnotice hview
  rw [← hwork] at hchan hwoken
  rw [← hc] at hwoken
  refine ⟨fun hpaused hfast => ?_, fun hnp hnf hslow => ?_, fun hkeep => ?_, ?_⟩
  · rw [speedTest_wakes hpaused hfast] at hd
    refine ⟨?_, hnotice ?_⟩
    · rw [hchan, hd, settle_leavePaused]
      rfl
    · rw [hpaused, hd, leavePaused]
      dsimp only
      split <;> exact fun h => nomatch h
  · rw [speedTest_pauses hnp hnf hslow] at hd
    refine ⟨?_, hnotice (by rw [hd]; exact hnp), fun hdanger => hview hdanger (by rw [hd]; rfl)⟩
    rw [hchan, hd, settleChannel, show inDanger (enterPaused c) = false from rfl, Bool.and_false]
    rfl
  · rw [speedTest_keeps hkeep] at hd
    have hcontr : contributionOf (f.state.set.action i) c = (match c.state with
      | .paused | .learning | .normal => 0
      | .alert => (f.state.set.action i).alertLevel
      | .danger => 3
      | .unreferenced => (match c.held with | none => 0 | some h => h.contribution)
      | .sensorFault => (f.state.set.action i).faultLevel) := by unfold contributionOf; cases c.state <;> rfl
    have hsettle : settleChannel (f.state.set.action i) c = { c with
        contribution := contributionOf (f.state.set.action i) c,
        dangerCond := (f.state.set.action i).dangerTrip && inDanger c,
        sensorCond := decide (c.state = .sensorFault) } := rfl
    rw [hcontr] at hsettle
    rw [hchan, hd]
    exact hsettle
  · rw [hwoken]
    by_cases hpaused : c.state = .paused
    · by_cases hfast : f.state.set.watchMin ≤ speed
      · have hawake : d.state ≠ .paused := by
          rw [hd, speedTest_wakes hpaused hfast, leavePaused]
          dsimp only
          split <;> exact fun h => nomatch h
        simp only [hpaused, hfast, hawake, ne_eq, not_false_eq_true, true_and]
      · have hasleep : d.state = .paused := by
          rw [hd, speedTest_keeps (.inl ⟨hpaused, Nat.lt_of_not_le hfast⟩)]
          exact hpaused
        simp only [hpaused, hfast, hasleep, ne_eq, not_true, false_and, and_false, if_false]
    · simp only [hpaused, false_and, if_false]

/-! ### The apply points -/

/-- A row that the settings table's taking of a period event applies (R184, R185). -/
theorem workSet_applies (o : Sched) (n : Period) (later : List Taking) {f : Flow} {i : Nat} {r : SetSpec} {v : SetValue}
    {w : Option SetValue} (hz : FullTable f.state.set) (hr : catalogue[i]? = some r)
    (hv : f.state.set.active[i]? = some v) (hw : f.state.set.staged[i]? = some w)
    (hc : atPeriod f.state.set.driveView r.cls = true) :
    (workSet o n later f).state.set.active[i]? = some (w.getD v) ∧
    (workSet o n later f).state.set.staged[i]? = some none ∧
    (w ≠ none → .applied ∈ ((workSet o n later f).state.links.get r.owner).notices) := by
  have hcarried := workSet_carried o n later f
  have hset := setHanded_set n f.state
  obtain ⟨v', w', hv', hw', ha, hs⟩ := applyClasses_getElem? (choose := atPeriod f.state.set.driveView) hz hr
  obtain rfl : v' = v := Option.some.inj (hv'.symm.trans hv)
  obtain rfl : w' = w := Option.some.inj (hw'.symm.trans hw)
  rw [hc, if_pos rfl] at ha hs
  have hfull : FullTable (setHanded n f.state).set := by
    rw [hset]
    exact ⟨(applyClasses_full hz).active, (applyClasses_full hz).staged⟩
  obtain ⟨hactive, hstaged⟩ := hcarried.set.settled hfull i (w'.getD v') (by rw [hset]; exact ha) (by rw [hset]; exact hs)
  refine ⟨hactive, hstaged, fun hsome => ?_⟩
  obtain ⟨x, rfl⟩ := Option.ne_none_iff_exists'.mp hsome
  have htold := tellOwners_applied (row_applied hz hr hc hw) (specOf_succ i ▸ hr)
    { f.state with set := { applyClasses (atPeriod f.state.set.driveView) f.state.set with periodTaken := n } }
  exact (hcarried.links r.owner).notices _ ((setHanded_links n f.state r.owner).notices _ htold)

/-- A row that the settings table's taking of a period event leaves as it is: one of class REVOLUTION, or one of class
STOPPED while the drive does not move (R185, R186). -/
theorem workSet_leaves (o : Sched) (n : Period) (later : List Taking) {f : Flow} {i : Nat} {r : SetSpec} {v : SetValue}
    {w : Option SetValue} (hz : FullTable f.state.set) (hr : catalogue[i]? = some r)
    (hv : f.state.set.active[i]? = some v) (hw : f.state.set.staged[i]? = some w)
    (hc : atPeriod f.state.set.driveView r.cls = false)
    (hstill : r.cls ≠ .stopped ∨ (workSet o n later f).state.dsq.drive = f.state.dsq.drive) :
    (workSet o n later f).state.set.active[i]? = some v ∧ (workSet o n later f).state.set.staged[i]? = some w := by
  have hcarried := workSet_carried o n later f
  have hset := setHanded_set n f.state
  obtain ⟨v', w', hv', hw', ha, hs⟩ := applyClasses_getElem? (choose := atPeriod f.state.set.driveView) hz hr
  obtain rfl : v' = v := Option.some.inj (hv'.symm.trans hv)
  obtain rfl : w' = w := Option.some.inj (hw'.symm.trans hw)
  rw [hc, if_neg Bool.false_ne_true] at ha hs
  have hfull : FullTable (setHanded n f.state).set := by
    rw [hset]
    exact ⟨(applyClasses_full hz).active, (applyClasses_full hz).staged⟩
  have hrow : (setHanded n f.state).set.active[i]? = some v' ∧ (setHanded n f.state).set.staged[i]? = some w' := by
    rw [hset]
    exact ⟨ha, hs⟩
  rcases hstill with hstill | hstill
  · obtain ⟨hactive, hstaged⟩ := hcarried.set.rows hfull i r hr hstill
    exact ⟨hactive.trans hrow.1, hstaged.trans hrow.2⟩
  · rw [hcarried.still (hstill.trans (congrArg Dsq.drive (setHanded_dsq n f.state)).symm)]
    exact hrow

/-- What a completed revolution leaves of the channel's grade and its Trev_est (R98). -/
theorem markerCompletes_graded {c : VChan} (he : evaluating c.state = true) (hp : c.phase ≠ .wait) (p : Profile)
    (t m : Tick) : evaluating (markerCompletes p t m c).state = true ∧
      (markerCompletes p t m c).trev = some (min (since t m) trevMax) := by
  cases hphase : c.phase with
  | wait => exact absurd hphase hp
  | timing =>
    rw [markerCompletes_timing hphase]
    exact ⟨he, rfl⟩
  | running =>
    rw [markerCompletes_running hphase]
    have hrev : evaluating (revolved p t (min (since t m) trevMax) c).state = true := he
    exact ⟨gradeStep_evaluating hrev p, (congrArg VChan.trev (gradeStep_rest p (revolved p t _ c)) :)⟩

/-- A marker that completes a revolution with a profile staged takes it (R98, R113). -/
theorem chanMarker_takesProfile {k : Marker} {s : State} {n : Chan} {c : VChan} {t : Tick} {p p' : Profile}
    (hz : FullTable s.set) (hp : s.set.profile n = p) (hk : p.marker = k)
    (hstaged : stagedProfile n s.set = some (.profile p'))
    (hc : takeMarker p t (s.vwa.chans.get n) = (c, true)) (o : Sched) :
    ProfileTaken n p' (chanMarker k t o s n) ∧
    ∃ a b, (chanMarker k t o s n).vwa.chans.get n = settleChannel a (takeProfile p p' s.now (settleChannel b c)) := by
  have hput : SetSteady s.set (putChan o n c s).set := (deliver_carried o (chanPut n c s).2 (chanPut n c s).1).set
  have hnow : (putChan o n c s).now = s.now := (putChan_base o n c s).now
  have hchan := putChan_chan o n c s
  have hone : chanMarker k t o s n = takeStaged o n (putChan o n c s) :=
    chanMarker_completes (by rw [hp]; exact hk) (by rw [hp]; exact hc) o
  have hvstaged : stagedProfile n (putChan o n c s).set = some (.profile p') := (hput.stagedProfile hz n).trans hstaged
  have hvprofile : (putChan o n c s).set.profile n = p := (hput.profile hz n).trans hp
  have hvfull := hput.full hz
  generalize putChan o n c s = v at *
  have hcarried := deliver_carried o (chanStaged n v).2 (chanStaged n v).1
  have hstate : takeStaged o n v = deliver o (chanStaged n v).2 (chanStaged n v).1 := rfl
  rw [hone]
  refine ⟨(chanStaged_takes hvfull hvstaged).keep (hcarried.set.apart n) hcarried.links, ?_⟩
  rw [hstate, deliver_vwa, chanStaged_eq hvstaged, hvprofile, profileTaken_profile hvfull, hnow, hchan, chanPut_get,
    if_pos rfl]
  exact ⟨_, _, rfl⟩

/-- Settles O39, apply point by apply point. -/
theorem stagedSettingsBecomeActive : Obligations.StagedSettingsBecomeActive := by
  refine ⟨fun o n t later f s u i r v w hs hset htaken hr hv hw hu => ?_,
    fun g t o s i r v w hfree hset hd hr hv hw => ?_,
    fun o n t later f s u i p hs hset htaken hp hu => ?_,
    fun o n t later later' f s u i p hs hset hvwa hstu hpaused hp hu => ?_,
    fun l k o s q n c m p p' hset hq hup hl hc hp hk hstaged he hphase hm hlate => ?_⟩
  · subst hs
    have hz : FullTable f.state.set := settingsRight_full hset
    have hwork : u = (workSet o n later f).state :=
      hu.trans (congrArg Flow.state (takePeriod_due (b := .set) htaken o t later))
    subst hwork
    refine ⟨fun hc => workSet_applies o n later hz hr hv hw ?_, fun hc => workSet_leaves o n later hz hr hv hw ?_ ?_⟩
    · rcases hc with hc | ⟨hc, hd⟩
      · rw [hc]
        rfl
      · rw [hc]
        rcases hd with hd | hd | hd <;> rw [hd] <;> rfl
    · rcases hc with hc | ⟨hc, h1, h2, h3, -⟩
      · rw [hc]
        rfl
      · rw [hc]
        cases hd : f.state.set.driveView with
        | blocked => exact absurd hd h1
        | tripped => exact absurd hd h2
        | aux => exact absurd hd h3
        | _ => rfl
    · rcases hc with hc | ⟨-, -, -, -, hd⟩
      · exact .inl (by rw [hc]; decide)
      · exact .inr hd
  · have hz : FullTable s.set := settingsRight_full hset
    have hstop : stopTest s.dsq = .ok := by rw [stopTest, hd]
    have hdrive : (dsqStop s.dsq).drive = .blocked := by rw [dsqStop, hd]; rfl
    have hne : (dsqStop s.dsq).drive ≠ ({ s with now := t } : State).dsq.drive := by
      rw [hdrive]
      change Drive.blocked ≠ s.dsq.drive
      rw [hd]
      decide
    have hmoved := moveDrive_moved o hne
    have hmset : (moveDrive o (dsqStop s.dsq) { s with now := t }).set =
        { applyClasses atEntry s.set with driveView := .blocked } := by
      rw [hmoved.set, hdrive]
      rfl
    have hexec : exec (.stop .c g t o) s = .next (replied .c .stop g
        (answered { s with now := t } (moveDrive o (dsqStop s.dsq) { s with now := t }) .ok)) := by
      rw [exec_stop hfree, reqStop, show stopTest ({ s with now := t } : State).dsq = .ok from hstop]
    obtain ⟨v', w', hv', hw', ha, hst⟩ := applyClasses_getElem? (choose := atEntry) hz hr
    obtain rfl : v' = v := Option.some.inj (hv'.symm.trans hv)
    obtain rfl : w' = w := Option.some.inj (hw'.symm.trans hw)
    refine ⟨_, hexec, ?_, fun hc => ?_, fun hc => ?_⟩
    · exact congrArg SetTable.driveView hmset
    · rw [hc, show atEntry .stopped = true from rfl, if_pos rfl] at ha hst
      refine ⟨?_, ?_, fun hsome => ?_⟩
      · exact (congrArg (fun z : SetTable => z.active[i]?) hmset).trans ha
      · exact (congrArg (fun z : SetTable => z.staged[i]?) hmset).trans hst
      · obtain ⟨x, rfl⟩ := Option.ne_none_iff_exists'.mp hsome
        refine startReply_noticed .c _ (moveDrive_applied o hne (by rw [hdrive]; rfl) ?_ (specOf_succ i ▸ hr))
        exact row_applied hz hr (by rw [hc]; rfl) hw
    · have hfalse : atEntry r.cls = false := by
        cases h : r.cls with
        | stopped => exact absurd h hc
        | live | revolution => rfl
      rw [hfalse, if_neg Bool.false_ne_true] at ha hst
      exact ⟨(congrArg (fun z : SetTable => z.active[i]?) hmset).trans ha,
        (congrArg (fun z : SetTable => z.staged[i]?) hmset).trans hst⟩
  · subst hs
    have hz : FullTable f.state.set := settingsRight_full hset
    have hwork : u = (workVwa o n later f).state :=
      hu.trans (congrArg Flow.state (takePeriod_due (b := .vwa) htaken o t later))
    subst hwork
    refine ⟨fun h => ?_, fun heval hwoken => ?_, workVwa_woken o n later f⟩
    · have htakes := (takesAtPeriod_iff (f.state.vwa.woken.get i) (stagedProfile i f.state.set)
        (f.state.vwa.chans.get i)).mpr (by
          rcases h with h | h | h | h
          · exact .inr (by rw [h]; rfl)
          · exact .inr (by rw [h]; rfl)
          · exact .inr (by rw [h]; rfl)
          · exact .inl ⟨_, h, hp⟩)
      have h := workVwa_takes o n later hz hp htakes
      exact ⟨h.profile, h.staged, h.told⟩
    · have hholds : takesAtPeriod (f.state.vwa.woken.get i) (stagedProfile i f.state.set)
          (f.state.vwa.chans.get i) = false := by
        rw [← Bool.not_eq_true, takesAtPeriod_iff]
        rintro (⟨x, hx, hx'⟩ | hfalse)
        · exact hwoken (hx.trans (hx'.symm.trans hp))
        · rw [hfalse] at heval
          cases heval
      obtain ⟨hprofile, hstill⟩ := workVwa_holds o n later hz hholds
      exact ⟨hprofile, hstill.trans hp⟩
  · subst hs
    have hz : FullTable f.state.set := settingsRight_full hset
    rcases hu with rfl | rfl
    · rw [takePeriod_due (b := .stu) hstu]
      obtain ⟨d, hd, hchan, hwoken, hkept, -⟩ := workStu_channel o t later i hz rfl
      obtain ⟨hapart, -⟩ := workStu_set o n t later f i
      change (workStu o n t later f).state.vwa.periodTaken = _ at hkept
      have hdue : (workStu o n t later f).state.takenBy .vwa ≠ n := fun h => hvwa (hkept.symm.trans h)
      have htakes : takesAtPeriod ((workStu o n t later f).state.vwa.woken.get i)
          (stagedProfile i (workStu o n t later f).state.set) ((workStu o n t later f).state.vwa.chans.get i) = true := by
        rw [takesAtPeriod_iff, hwoken, hchan, hapart.stagedProfile hz, hp]
        by_cases hstate : d.state = .paused
        · exact .inr (by rw [show (settleChannel _ d).state = .paused from hstate]; rfl)
        · exact .inl ⟨_, if_pos ⟨hpaused, hstate, hvwa⟩, rfl⟩
      have h := workVwa_takes o n later' (hapart.full hz) ((hapart.stagedProfile hz).trans hp) htakes
      have heq := takePeriod_due (b := .vwa) (f := workStu o n t later f) hdue o t later'
      have h' : ProfileTaken i p (takePeriod o n t .vwa later' (workStu o n t later f)).state := by
        rw [heq]
        exact h
      exact ⟨h'.profile, h'.staged, h'.told⟩
    · rw [takePeriod_due (b := .vwa) hvwa]
      have htakes : takesAtPeriod (f.state.vwa.woken.get i) (stagedProfile i f.state.set)
          (f.state.vwa.chans.get i) = true :=
        (takesAtPeriod_iff _ _ _).mpr (.inr (by rw [hpaused]; rfl))
      have h := workVwa_takes o n later hz hp htakes
      have h' : ProfileTaken i p (takePeriod o n t .stu later' (workVwa o n later f)).state := by
        unfold takePeriod
        split
        · exact h
        · obtain ⟨hapart, hlinks⟩ := workStu_set o n t later' (workVwa o n later f) i
          exact h.keep hapart hlinks
      exact ⟨h'.profile, h'.staged, h'.told⟩
  · obtain rfl : l = markerLine k := hl.trans (by cases k <;> rfl)
    have hz : FullTable s.set := settingsRight_full hset
    obtain ⟨w, hw, hu, -⟩ := markerTaken_chan k q.stamp o
      { s with now := plus q.stamp pulsePersist, meu := s.meu.putLine (markerLine k) ⟨true, none⟩ } n
    have hchan : w.vwa.chans.get n = c := hw.chan.trans hc.symm
    have hcompletes : takeMarker p q.stamp (w.vwa.chans.get n) = (markerCompletes p q.stamp m c, true) := by
      rw [hchan]
      exact takeMarker_completes he hphase hm hlate p
    obtain ⟨htaken, a, b, hchan'⟩ := chanMarker_takesProfile (hw.set.full hz) ((hw.set.profile hz).trans hp.symm) hk
      ((hw.set.stagedProfile hz).trans hstaged) hcompletes o
    have hkept := htaken.keep hu.set hu.links
    refine ⟨_, exec_marker hq hup o, hkept.profile, hkept.staged, hkept.told, fun hchange => ?_⟩
    obtain ⟨hgraded, htrev⟩ := markerCompletes_graded he hphase p q.stamp m
    have hnot : ∀ st, evaluating st = false → (settleChannel b (markerCompletes p q.stamp m c)).state ≠ st :=
      fun st hst h => by
        rw [show (markerCompletes p q.stamp m c).state = st from h, hst] at hgraded
        cases hgraded
    rw [hu.chan, hchan', takeProfile, if_pos (hchange.imp Ne.symm Ne.symm),
      clearChannel_learning (hnot _ rfl) (hnot _ rfl)]
    refine ⟨rfl, rfl, rfl, rfl, ?_⟩
    change (if decide (p.marker ≠ p'.marker) = true then none else (markerCompletes p q.stamp m c).trev) = _
    rw [htrev]
    by_cases hmarker : p.marker = p'.marker
    · simp only [hmarker, ne_eq, not_true, decide_false, Bool.false_eq_true, if_false]
      rfl
    · have hmarker' : p'.marker ≠ p.marker := fun h => hmarker h.symm
      simp only [hmarker, hmarker', ne_eq, not_false_eq_true, decide_true, if_true]

end Sys2Proof.Machine
end

section
/-! What the blocks do at an apply of settings (R187), and what a part in a stopped state keeps of it when reports and
trip demands follow: nothing of class STOPPED is staged any more, and no demand leaves the stopped states. -/

namespace Sys2Proof.Machine

/-! ### A part at rest -/

/-- Nothing of class STOPPED is staged. -/
structure Unstaged (z : SetTable) : Prop extends FullTable z where
  rows : ∀ (i : Nat) (r : SetSpec), catalogue[i]? = some r → r.cls = .stopped → z.staged[i]? = some none

theorem Unstaged.congr {z y : SetTable} (h : Unstaged z) (ha : y.active = z.active) (hs : y.staged = z.staged) :
    Unstaged y :=
  ⟨⟨by rw [ha, h.active], by rw [hs, h.staged]⟩, fun i r hr hc => by rw [hs]; exact h.rows i r hr hc⟩

theorem atEntry_iff (c : ApplyClass) : atEntry c = true ↔ c = .stopped := by cases c <;> decide

theorem Unstaged.applies {z : SetTable} (h : Unstaged z) : applyClasses atEntry z = z := by
  have hfull := applyClasses_full (choose := atEntry) h.toFullTable
  have hrow : ∀ i, (applyClasses atEntry z).active[i]? = z.active[i]? ∧
      (applyClasses atEntry z).staged[i]? = z.staged[i]? := fun i => by
    by_cases hi : i < 87
    · obtain ⟨r, hr⟩ : ∃ r, catalogue[i]? = some r :=
        ⟨_, List.getElem?_eq_getElem (catalogue_length.symm ▸ hi)⟩
      obtain ⟨v, w, hv, hw, ha, hs⟩ := applyClasses_getElem? (choose := atEntry) h.toFullTable hr
      rw [ha, hs, hv, hw]
      by_cases hc : r.cls = .stopped
      · obtain rfl : w = none := Option.some.inj (hw.symm.trans (h.rows i r hr hc))
        rw [if_pos ((atEntry_iff _).mpr hc), if_pos ((atEntry_iff _).mpr hc)]
        exact ⟨rfl, rfl⟩
      · rw [if_neg (mt (atEntry_iff _).mp hc), if_neg (mt (atEntry_iff _).mp hc)]
        exact ⟨rfl, rfl⟩
    · have hi : 87 ≤ i := Nat.le_of_not_lt hi
      have hout : ∀ {α : Type} {l : List α}, l.length = 87 → l[i]? = none := fun hl =>
        List.getElem?_eq_none (hl.trans_le hi)
      exact ⟨(hout hfull.active).trans (hout h.active).symm, (hout hfull.staged).trans (hout h.staged).symm⟩
  have hactive : (applyClasses atEntry z).active = z.active := List.ext_getElem? fun i => (hrow i).1
  have hstaged : (applyClasses atEntry z).staged = z.staged := List.ext_getElem? fun i => (hrow i).2
  calc applyClasses atEntry z
      = { z with active := (applyClasses atEntry z).active, staged := (applyClasses atEntry z).staged } := rfl
    _ = z := by rw [hactive, hstaged]

theorem Unstaged.ids {z : SetTable} (h : Unstaged z) : appliedIds atEntry z = [] := by
  refine List.eq_nil_iff_forall_not_mem.mpr fun id hid => ?_
  obtain ⟨v, hv⟩ := mem_appliedIds hid
  have h1 : 1 ≤ id := by
    simp only [appliedIds, List.mem_filterMap] at hid
    obtain ⟨⟨⟨r, a, w⟩, i⟩, hm, hi⟩ := hid
    have hle := (List.mem_zipIdx hm).1
    split at hi
    · obtain rfl := Option.some.inj hi
      exact hle
    · cases hi
  have hlt : id - 1 < 87 := h.staged ▸ (List.getElem?_eq_some_iff.mp hv).1
  obtain ⟨r, hr⟩ : ∃ r, catalogue[id - 1]? = some r := ⟨_, List.getElem?_eq_getElem (catalogue_length.symm ▸ hlt)⟩
  have hc := ((mem_appliedIds_iff h.toFullTable hr h1).mp hid).1
  rw [h.rows _ r hr ((atEntry_iff _).mp hc)] at hv
  cases hv

theorem Unstaged.quietEntry {z : SetTable} (h : Unstaged z) (d : Drive) : quietEntry d z := fun _ => ⟨h.applies, h.ids⟩

/-- A part in a stopped state with nothing of class STOPPED staged. -/
structure AtRest (s : State) : Prop where
  drive : stoppedState s.dsq.drive = true
  table : Unstaged s.set

/-- What a part at rest keeps: the state stopped, the table, the pending firings, the envelope, the thermal accounts and
their states. -/
structure RestKept (s t : State) : Prop where
  drive : stoppedState t.dsq.drive = true
  active : t.set.active = s.set.active
  staged : t.set.staged = s.set.staged
  firings : ∀ x, (t.conv x).firings = (s.conv x).firings
  tenv : t.stu.tenv = s.stu.tenv
  q : ∀ x, (t.stu.motors.get x).q = (s.stu.motors.get x).q
  thermal : ∀ x, (t.stu.motors.get x).thermal = (s.stu.motors.get x).thermal
  hotCond : ∀ x, (t.stu.motors.get x).hotCond = (s.stu.motors.get x).hotCond

theorem RestKept.num {s t : State} (h : RestKept s t) (id : Nat) : t.set.num id = s.set.num id := by
  rw [SetTable.num, h.active, SetTable.num]

/-- From a part at rest: what it keeps. -/
structure Rests (s t : State) : Prop where
  kept : AtRest s → RestKept s t

theorem Rests.refl (s : State) : Rests s s :=
  ⟨fun h => ⟨h.drive, rfl, rfl, fun _ => rfl, rfl, fun _ => rfl, fun _ => rfl, fun _ => rfl⟩⟩

theorem Rests.trans {s t u : State} (h : Rests s t) (k : Rests t u) : Rests s u where
  kept hs := by
    have ht := h.kept hs
    have hu := k.kept ⟨ht.drive, hs.table.congr ht.active ht.staged⟩
    exact ⟨hu.drive, hu.active.trans ht.active, hu.staged.trans ht.staged, fun x => (hu.firings x).trans (ht.firings x),
      hu.tenv.trans ht.tenv, fun x => (hu.q x).trans (ht.q x), fun x => (hu.thermal x).trans (ht.thermal x),
      fun x => (hu.hotCond x).trans (ht.hotCond x)⟩

theorem Rests.of_blocks {s t : State} (hd : t.dsq = s.dsq) (hz : t.set = s.set) (hc : ∀ x, t.conv x = s.conv x)
    (hs : t.stu = s.stu) : Rests s t :=
  ⟨fun h => ⟨hd ▸ h.drive, by rw [hz], by rw [hz], fun x => by rw [hc x], by rw [hs], fun x => by rw [hs],
    fun x => by rw [hs], fun x => by rw [hs]⟩⟩

theorem SameDrive.rests {s t : State} (h : SameDrive s t) : Rests s t :=
  .of_blocks h.dsq h.set (fun x => by cases x; exacts [h.cca, h.ccb]) h.stu

theorem dsqDemand_stopped (c : Class) {d : Dsq} (h : stoppedState d.drive = true) :
    stoppedState (dsqDemand c d).drive = true := by
  cases hd : d.drive <;> rw [hd] at h <;> cases h <;> cases c <;> simp [dsqDemand, hd, dsqTripped, dsqEnter, stoppedState]

theorem stuDrive_stopped {old new : Drive} (ho : stoppedState old = true) (hn : stoppedState new = true) (z : SetTable)
    (level : Nat) (u : Stu) : stuDrive z level old new u = stuIdle u := by
  cases old <;> cases ho <;> cases new <;> cases hn <;> rfl

theorem convTakeEnable_firings (old new : Bool) (sync : SyncState) (c : Conv) :
    (convTakeEnable old new sync c).firings = c.firings := by
  unfold convTakeEnable convEnable convDisable
  split
  · rfl
  · split <;> split <;> (try split) <;> rfl

theorem demand_rests (o : Sched) (c : Class) (s : State) : Rests s (demand o c s) where
  kept h := by
    have hdrive := dsqDemand_stopped c h.drive
    unfold demand
    by_cases hne : (dsqDemand c s.dsq).drive = s.dsq.drive
    · rw [moveDrive_stay o hne]
      exact ⟨hdrive, rfl, rfl, fun x => by cases x <;> rfl, rfl, fun _ => rfl, fun _ => rfl, fun _ => rfl⟩
    · rw [moveDrive_quiet o hne (h.table.quietEntry _)]
      have hstu : (quietMove (dsqDemand c s.dsq) s).stu = stuIdle s.stu := by
        rw [quietMove_eq]
        exact stuDrive_stopped h.drive hdrive ..
      refine ⟨?_, ?_, ?_, fun x => ?_, ?_, fun x => ?_, fun x => ?_, fun x => ?_⟩
      · rw [quietMove_eq]
        exact hdrive
      · rw [quietMove_eq]
      · rw [quietMove_eq]
      · rw [quietMove_conv]
        exact convTakeEnable_firings ..
      · rw [hstu]
        rfl
      all_goals
        rw [hstu]
        cases x <;> rfl

theorem judge_same (k : Cause) (n : Period) (s : State) : SameDrive s (judge k n s).1 := by
  have hrise : ∀ (c : Class) (b : Bool) (u : State), SameDrive s u → SameDrive s (classRise c b u).1 := fun c b u hu => by
    unfold classRise
    split
    · exact hu.trans (raiseTo_same ..)
    · exact hu
  have hlatch : ∀ (c : Class) (u : Rcu), SameDrive s { s with pru := pruLatch k c s.pru, rcu := u } := fun _ _ =>
    ⟨⟨rfl, rfl, rfl, rfl, rfl, rfl⟩, rfl, rfl, rfl, rfl, rfl, rfl⟩
  have hcause : ∀ c : Class, SameDrive s (takeCause k n c s).1 := fun c => by
    unfold takeCause
    split
    · unfold latchReport
      split
      · exact .refl s
      · exact hrise _ _ _ (hlatch c s.rcu)
      · exact hrise _ _ _ (hlatch c _)
    · rw [openEpisode_eq]
      exact ⟨⟨rfl, rfl, rfl, rfl, rfl, rfl⟩, rfl, rfl, rfl, rfl, rfl, rfl⟩
  unfold judge
  split
  · exact takeWarning_same ..
  all_goals exact hcause _

theorem Flow.send_rests (o : Sched) (later : List Taking) (c : Class) (f : Flow) :
    Rests f.state (Flow.send o later c f).state := by
  unfold Flow.send
  split
  · exact .refl _
  · exact demand_rests ..

theorem Flow.report_rests (o : Sched) (later : List Taking) (k : Cause) (n : Period) (f : Flow) :
    Rests f.state (Flow.report o later k n f).state := by
  unfold Flow.report
  split
  · exact (judge_same ..).rests
  · exact (judge_same k n f.state).rests.trans (Flow.send_rests o later _ { f with state := (judge k n f.state).1 })

theorem Flow.arrive_rests (o : Sched) (later : List Taking) (f : Flow) (m : Msg) :
    Rests f.state (Flow.arrive o later f m).state := by
  cases hm : reportKind m with
  | none =>
    rw [Flow.arrive_calm o later f hm]
    exact (takeMild_same ..).rests
  | some k =>
    unfold Flow.arrive
    split
    · exact .refl _
    · cases m with
      | report k n => exact Flow.report_rests ..
      | cond k b | notice k st | capture x c => cases hm

/-- A fold of steps each of which is in a relation is in it. -/
theorem Flow.foldl_kept {R : State → State → Prop} (hrefl : ∀ s, R s s) (htrans : ∀ {s t u}, R s t → R t u → R s u)
    {α : Type} {f : Flow → α → Flow} (l : List α) (h : ∀ g, ∀ a ∈ l, R g.state (f g a).state) (g : Flow) :
    R g.state (l.foldl f g).state := by
  induction l generalizing g with
  | nil => exact hrefl _
  | cons a l ih =>
    exact htrans (h g a List.mem_cons_self) (ih (fun g a ha => h g a (List.mem_cons_of_mem _ ha)) (f g a))

theorem Flow.post_rests (o : Sched) (later : List Taking) {r : State × List Msg} {f : Flow} (h : Rests f.state r.1) :
    Rests f.state (Flow.post o later r f).state :=
  h.trans (Flow.foldl_kept Rests.refl Rests.trans _ (fun g m _ => Flow.arrive_rests o later g m) { f with state := r.1 })

theorem chanAction_rests (ids : List Nat) (n : Chan) (s : State) : Rests s (chanAction ids n s).1 := by
  unfold chanAction
  split
  · exact .of_blocks rfl rfl (fun x => by cases x <;> rfl) rfl
  · exact .refl s

/-- What the reports and demands of a hand-over leave of a part at rest. -/
theorem workSet_rests (o : Sched) (n : Period) (later : List Taking) (f : Flow) :
    Rests (setHanded n f.state) (workSet o n later f).state := by
  have hchans : Rests (setHanded n f.state) (actionsHanded o n later f).state :=
    Flow.foldl_kept Rests.refl Rests.trans (chanOrder o)
      (fun g i _ => Flow.post_rests o later (chanAction_rests (periodIds f.state) i g.state))
      { f with state := setHanded n f.state }
  rw [workSet_eq]
  generalize actionsHanded o n later f = g at hchans
  split
  · unfold stallClass
    split
    · have hdrop : Rests g.state (stallDropped g.state) := .of_blocks rfl rfl (fun x => by cases x <;> rfl) rfl
      exact (hchans.trans hdrop).trans (Flow.report_rests o later .stall n { g with state := stallDropped g.state })
    · exact hchans
  · exact hchans

/-! ### The hand-over in a stopped state -/

theorem stuSplit_tenv (z : SetTable) (u : Stu) : (stuSplit z u).tenv = u.tenv := rfl

theorem stuReform_tenv (z : SetTable) (level : Nat) (d : Drive) (u : Stu) :
    (stuReform z level d u).tenv = envelope z level u.window := by
  unfold stuReform
  split <;> rfl

/-- The thermal part of a motor: its account, its thermal state and THERMAL_HOT_x. -/
def Motor.account (m : Motor) : Int × Thermal × Bool := (m.q, m.thermal, m.hotCond)

theorem stuReform_account (z : SetTable) (level : Nat) (d : Drive) (u : Stu) (x : Side) :
    ((stuReform z level d u).motors.get x).account = (u.motors.get x).account := by
  unfold stuReform
  split
  · cases x <;> rfl
  · rfl

/-- An apply of Tbreak, Tgear or a derate factor is among the identifiers. -/
def envelopeApply (ids : List Nat) : Bool := ids.any (fun id => decide (49 ≤ id) && decide (id ≤ 53))

/-- The part after the hand-over of the angle limits and of what forms the envelope (R65, R82). -/
def envelopeHanded (d : Drive) (ids : List Nat) (s : State) : State :=
  let v := if anglesApply ids then handAngles s else s
  if envelopeApply ids then { v with stu := stuReform v.set v.vwa.level d v.stu } else v

theorem envelopeHanded_set (d : Drive) (ids : List Nat) (s : State) : (envelopeHanded d ids s).set = s.set := by
  unfold envelopeHanded
  cases anglesApply ids <;> cases envelopeApply ids <;> rfl

theorem envelopeHanded_stu (d : Drive) (ids : List Nat) (s : State) : (envelopeHanded d ids s).stu =
    if envelopeApply ids then stuReform s.set s.vwa.level d s.stu else s.stu := by
  unfold envelopeHanded
  cases anglesApply ids <;> cases envelopeApply ids <;> rfl

theorem handStopped_eq (d : Drive) (ids : List Nat) (s : State) : handStopped d ids s =
    if thermalApply ids then handThermal (envelopeHanded d ids s) else envelopeHanded d ids s := rfl

theorem handStopped_tenv {ids : List Nat} (h : envelopeApply ids = true) (d : Drive) (s : State) :
    (handStopped d ids s).stu.tenv = envelope s.set s.vwa.level s.stu.window := by
  have hstu := envelopeHanded_stu d ids s
  rw [if_pos h] at hstu
  have htenv : (envelopeHanded d ids s).stu.tenv = envelope s.set s.vwa.level s.stu.window := by
    rw [hstu, stuReform_tenv]
  rw [handStopped_eq]
  split
  · rw [(handThermal_same _).stu]
    exact htenv
  · exact htenv

theorem handStopped_account {ids : List Nat} (h : thermalApply ids = true) (d : Drive) (s : State) (x : Side) :
    ((handStopped d ids s).stu.motors.get x).account =
      (thermalTaken s.set { s.stu.motors.get x with q := min (s.stu.motors.get x).q s.set.qmax }).account := by
  have haccount : ((envelopeHanded d ids s).stu.motors.get x).account = (s.stu.motors.get x).account := by
    rw [envelopeHanded_stu]
    split
    · exact stuReform_account ..
    · rfl
  obtain ⟨hq, hthermal, -⟩ : _ = _ ∧ _ = _ ∧ _ = _ := by simpa only [Motor.account, Prod.mk.injEq] using haccount
  have htaken : ((stuThermalApply s.set (envelopeHanded d ids s).stu).1.motors.get x) =
      thermalTaken s.set { (envelopeHanded d ids s).stu.motors.get x with
        q := min ((envelopeHanded d ids s).stu.motors.get x).q s.set.qmax } := by cases x <;> rfl
  rw [handStopped_eq, if_pos h, (handThermal_same _).stu, envelopeHanded_set, htaken]
  simp only [Motor.account, thermalTaken, hq, hthermal]

/-- A staged row applied is among the identifiers of its apply. -/
theorem periodIds_contains {s : State} {i : Nat} {r : SetSpec} {v : SetValue} (hz : FullTable s.set)
    (hr : catalogue[i]? = some r) (hc : atPeriod s.set.driveView r.cls = true) (hv : s.set.staged[i]? = some (some v)) :
    (periodIds s).contains (i + 1) = true :=
  List.contains_iff_mem.mpr (row_applied hz hr hc hv)

/-- The settings table's taking of a period event in a stopped state leaves nothing of class STOPPED staged. -/
theorem setHanded_atRest {s : State} (hz : FullTable s.set) (hview : s.set.driveView = s.dsq.drive)
    (hd : stoppedState s.dsq.drive = true) (n : Period) : AtRest (setHanded n s) where
  drive := by rw [setHanded_dsq]; exact hd
  table := by
    rw [setHanded_set]
    refine ⟨⟨(applyClasses_full hz).active, (applyClasses_full hz).staged⟩, fun i r hr hc => ?_⟩
    obtain ⟨v, w, -, -, -, hs⟩ := applyClasses_getElem? (choose := atPeriod s.set.driveView) hz hr
    rw [hc, hview, atPeriod, hd, if_pos rfl] at hs
    rw [hview]
    exact hs

theorem stoppedState_iff (d : Drive) : stoppedState d = true ↔ d = .blocked ∨ d = .tripped ∨ d = .aux := by
  cases d <;> decide

/-- The stopped-state part of O40: what of the hand-over in a stopped state still stands after its reports and demands
(R65, R79, R83, R84). -/
theorem workSet_stopped (o : Sched) (n : Period) (later : List Taking) {f : Flow} (hz : FullTable f.state.set)
    (hview : f.state.set.driveView = f.state.dsq.drive) (hd : stoppedState f.state.dsq.drive = true) {u : State}
    (hu : u = (workSet o n later f).state) :
    (anglesApply (periodIds f.state) = true → ∀ x, (u.conv x).firings = (f.state.conv x).firings.filter
      (fun g => decide (u.set.num 21 ≤ g.angle) && decide (g.angle ≤ u.set.num 22))) ∧
    (envelopeApply (periodIds f.state) = true → u.stu.tenv = envelope u.set f.state.vwa.level f.state.stu.window) ∧
    (thermalApply (periodIds f.state) = true → ∀ x, (u.stu.motors.get x).account =
      (thermalTaken u.set { f.state.stu.motors.get x with q := min (f.state.stu.motors.get x).q u.set.qmax }).account) := by
  have hkept := (workSet_rests o n later f).kept (setHanded_atRest hz hview hd n)
  rw [← hu] at hkept
  have htold := tellOwners_same (periodIds f.state)
    { f.state with set := { applyClasses (atPeriod f.state.set.driveView) f.state.set with periodTaken := n } }
  have hset : (setHanded n f.state).set = (setTold n f.state).set := (handStopped_same ..).2.2.2
  have hactive : u.set.active = (setTold n f.state).set.active := by rw [hkept.active, hset]
  have hnum : ∀ id, u.set.num id = (setTold n f.state).set.num id := fun id => by
    rw [SetTable.num, hactive, SetTable.num]
  refine ⟨fun h x => ?_, fun h => ?_, fun h x => ?_⟩
  · have hconv : (setTold n f.state).conv x = f.state.conv x := by cases x; exacts [htold.cca, htold.ccb]
    rw [hkept.firings x, setHanded, (handStopped_handed ..).conv x, convHand, if_pos h, hconv, hnum, hnum]
    rfl
  · have hstu : (setTold n f.state).stu = f.state.stu := htold.stu
    have hvwa : (setTold n f.state).vwa = f.state.vwa := htold.vwa
    rw [hkept.tenv, setHanded, handStopped_tenv h, hstu, hvwa]
    simp only [envelope, SetTable.tgear, SetTable.tbreak, hnum]
    congr 2
    unfold SetTable.derateFactor
    split <;> simp only [hnum]
  · have hstu : (setTold n f.state).stu = f.state.stu := htold.stu
    have haccount : (u.stu.motors.get x).account = ((setHanded n f.state).stu.motors.get x).account := by
      simp only [Motor.account, hkept.q, hkept.thermal, hkept.hotCond]
    have hqmax : u.set.qmax = (setTold n f.state).set.qmax := hnum 58
    have hqwarn : u.set.qwarn = (setTold n f.state).set.qwarn := hnum 59
    have hnext : ∀ (q : Int) (k : Thermal), thermalNext u.set q k = thermalNext (setTold n f.state).set q k := fun q k => by
      cases k <;> simp only [thermalNext, hqmax, hqwarn]
    rw [haccount, setHanded, handStopped_account h, hstu]
    simp only [Motor.account, thermalTaken, hqmax, hnext]

/-! ### The actions of the channels -/

theorem chanAction_left {n j : Chan} (hj : j ≠ n) (ids : List Nat) (s : State) :
    ChanLeft n s (chanAction ids j s).1 ∧ untold (chanAction ids j s).2 (.vibDanger n) := by
  unfold chanAction
  split
  · exact ⟨chanPut_left hj _ s, chanPut_untold hj _ s⟩
  · exact ⟨.refl n s, fun b hm => nomatch hm⟩

theorem setTold_vwa (n : Period) (s : State) : (setTold n s).vwa = s.vwa := (tellOwners_same ..).vwa

theorem setHanded_vwa (n : Period) (s : State) : (setHanded n s).vwa = s.vwa :=
  ((handStopped_same ..).2.2.1).trans (setTold_vwa n s)

theorem Reported.chanLeft {s t : State} (h : Reported s t) (n : Chan) : ChanLeft n s t :=
  h.toCarried.chanLeft trivial h.vwa

/-- After the actions of the channels a report of STALL may follow: it leaves the channels as they are. -/
theorem workSet_left (o : Sched) (n : Period) (later : List Taking) (f : Flow) (i : Chan) :
    ChanLeft i (actionsHanded o n later f).state (workSet o n later f).state := by
  rw [workSet_eq]
  generalize actionsHanded o n later f = g
  split
  · unfold stallClass
    split
    · have hdrop : ChanLeft i g.state (stallDropped g.state) :=
        ⟨⟨rfl, rfl, rfl, rfl, rfl, rfl⟩, .of_eq rfl, .refl _, .refl i _, rfl, rfl, rfl, .rfl, fun _ => id⟩
      exact hdrop.trans
        ((Flow.report_reported o later .stall n { g with state := stallDropped g.state }).chanLeft i)
    · exact .refl i _
  · exact .refl i _

theorem action_row (i : Chan) : ∃ r, catalogue[66 + chanNumber i]? = some r ∧ r.cls = .live := by
  cases i <;> exact ⟨_, rfl, rfl⟩

theorem contributionOf_eq (a : Action) (c : VChan) : contributionOf a c = (match c.state with
    | .paused | .learning | .normal => 0
    | .alert => a.alertLevel
    | .danger => 3
    | .unreferenced => (match c.held with | none => 0 | some h => h.contribution)
    | .sensorFault => a.faultLevel) := by unfold contributionOf; cases c.state <;> rfl

/-- Channel `i` at an apply of its action (R108, R109, R113). -/
theorem workSet_action (o : Sched) (n : Period) (later : List Taking) {f : Flow} {i : Chan} {a : Action} {c : VChan}
    {u : State} (hz : FullTable f.state.set)
    (hstaged : f.state.set.staged[66 + chanNumber i]? = some (some (.action a))) (hc : c = f.state.vwa.chans.get i)
    (hu : u = (workSet o n later f).state) :
    u.vwa.chans.get i = settleChannel a c ∧
    (c.dangerCond = false → a.dangerTrip = true → inDanger c = true → .vibDanger i ∈ u.pru.view ∧
      (Taking.report (.vibDanger i) ∉ later → latchedActive (.vibDanger i) u.pru = true)) ∧
    (c.dangerCond = true → a.dangerTrip = false → .vibDanger i ∉ u.pru.view) := by
  obtain ⟨r, hr, hlive⟩ := action_row i
  have happlied : atPeriod f.state.set.driveView r.cls = true := by rw [hlive]; rfl
  obtain ⟨v, w, -, hw, ha, -⟩ := applyClasses_getElem? (choose := atPeriod f.state.set.driveView) hz hr
  obtain rfl : w = some (.action a) := Option.some.inj (hw.symm.trans hstaged)
  rw [if_pos happlied] at ha
  have hids : (periodIds f.state).contains (67 + chanNumber i) = true := by
    have h := periodIds_contains hz hr happlied hstaged
    rwa [show 66 + chanNumber i + 1 = 67 + chanNumber i by omega] at h
  obtain ⟨g, hg, hleft⟩ := eachChan_chan o later i (fun j s hj => chanAction_left hj (periodIds f.state) s)
    { f with state := setHanded n f.state }
  have hhanded : FullTable (setHanded n f.state).set ∧ (setHanded n f.state).set.action i = a := by
    rw [setHanded_set]
    exact ⟨⟨(applyClasses_full hz).active, (applyClasses_full hz).staged⟩, by rw [SetTable.action, ha]; rfl⟩
  have haction : g.state.set.action i = a := (hg.set.action hhanded.1 i).trans hhanded.2
  have hchan : g.state.vwa.chans.get i = c := by
    have hset : g.state.vwa.chans.get i = (setHanded n f.state).vwa.chans.get i := hg.chan
    rw [hset, setHanded_vwa, hc]
  have hone : chanAction (periodIds f.state) i g.state = chanPut i c g.state := by rw [chanAction, if_pos hids, hchan]
  rw [hone] at hleft
  have hafter : ChanLeft i (Flow.post o later (chanPut i c g.state) g).state u := by
    rw [hu]
    exact hleft.trans (workSet_left o n later f i)
  refine ⟨?_, fun hd ht hin => ?_, fun hd ht => ?_⟩
  · rw [hafter.chan, Flow.post_vwa, chanPut_get, if_pos rfl, haction]
  · obtain ⟨hview, hlatched⟩ := chanPut_dangers o later (n := i) (c := c) (s := g.state) (by rw [hchan]; exact hd)
      (by rw [haction, ht, hin]; rfl) g
    exact ⟨hafter.view.mpr hview, fun hl => hafter.latched _ (hlatched hl)⟩
  · have hview := chanPut_safe o later (n := i) (c := c) (s := g.state) (by rw [hchan]; exact hd)
      (by rw [haction, ht, Bool.false_and]) g
    exact fun h => hview (hafter.view.mp h)

/-! ### STALL at an apply of its class -/

/-- The episode and the record unit are left. -/
structure Unopened (s t : State) : Prop where
  episode : SameEpisode s.pru t.pru
  rcu : t.rcu = s.rcu

theorem Unopened.refl (s : State) : Unopened s s := ⟨.refl _, rfl⟩

theorem Unopened.trans {s t u : State} (h : Unopened s t) (k : Unopened t u) : Unopened s u :=
  ⟨h.episode.trans k.episode, k.rcu.trans h.rcu⟩

theorem takeWarning_unopened (k : Cause) (s : State) : Unopened s (takeWarning k s) := by
  refine ⟨?_, ?_⟩
  · rcases takeWarning_pru k s with h | h <;> rw [h]
    · exact .refl _
    · exact pruWarn_episode ..
  · unfold takeWarning
    split
    · rfl
    · exact (raiseTo_units ..).2

/-- A message of a channel's change that opens no episode: the report of VIB_DANGER_n waits. -/
theorem Flow.arrive_unopened (o : Sched) {later : List Taking} {i : Chan} {m : Msg} {c : VChan} {s : State}
    (hl : Taking.report (.vibDanger i) ∈ later) (hm : m ∈ (chanPut i c s).2) (f : Flow) :
    Unopened f.state (Flow.arrive o later f m).state := by
  rcases mem_chanPut_msgs hm with ⟨j, st, rfl⟩ | hm | hm
  · exact ⟨.refl _, rfl⟩
  · rcases mem_condMsgs hm with ⟨rfl, -⟩ | ⟨rfl, -⟩
    · exact ⟨pruCond_episode .., rfl⟩
    · have hwait : mustWait later (.report (.vibDanger i) s.vwa.periodTaken) = true := List.contains_iff_mem.mpr hl
      rw [Flow.arrive, if_pos hwait]
      exact .refl _
  · rcases mem_condMsgs hm with ⟨rfl, -⟩ | ⟨rfl, -⟩
    · exact ⟨pruCond_episode .., rfl⟩
    · unfold Flow.arrive
      split
      · exact .refl _
      · rw [Flow.take, Flow.report, judge_warning _ rfl]
        exact takeWarning_unopened ..

/-- Without a VIB_DANGER_n taken at once the actions of the channels open no episode. -/
theorem actionsHanded_unopened (o : Sched) (n : Period) {later : List Taking} {f : Flow}
    (h : ∀ i : Chan, f.state.set.staged[66 + chanNumber i]? = some none ∨ Taking.report (.vibDanger i) ∈ later) :
    Unopened (setHanded n f.state) (actionsHanded o n later f).state := by
  refine Flow.foldl_kept (R := Unopened) .refl .trans (chanOrder o) (fun g i _ => ?_)
    { f with state := setHanded n f.state }
  unfold chanAction
  split
  · rename_i hids
    rcases h i with hnone | hl
    · obtain ⟨v, hv⟩ := mem_appliedIds (List.contains_iff_mem.mp hids)
      rw [show 67 + chanNumber i - 1 = 66 + chanNumber i by omega, hnone] at hv
      cases hv
    · have hmsgs : ∀ m ∈ orderMsgs o (chanPut i (g.state.vwa.chans.get i) g.state).2,
          m ∈ (chanPut i (g.state.vwa.chans.get i) g.state).2 := fun m hm => by
        simp only [orderMsgs, List.mem_append, List.mem_filter, List.mem_flatMap] at hm
        rcases hm with (⟨hm, -⟩ | ⟨-, -, hm, -⟩) | ⟨hm, -⟩ <;> exact hm
      have hput : Unopened g.state (chanPut i (g.state.vwa.chans.get i) g.state).1 := ⟨.refl _, rfl⟩
      exact hput.trans (Flow.foldl_kept (R := Unopened) .refl .trans _
        (fun e m hm => Flow.arrive_unopened o hl (hmsgs m hm) e) { g with state := (chanPut i _ g.state).1 })
  · rw [Flow.post, orderMsgs_nil]
    exact .refl _

theorem demand_warnings (o : Sched) (c : Class) (s : State) {k : Cause} (hk : notHot k) :
    k ∈ (demand o c s).pru.warnings ↔ k ∈ s.pru.warnings := by
  unfold demand
  by_cases h : (dsqDemand c s.dsq).drive = s.dsq.drive
  · rw [moveDrive_stay o h]
  · exact (moveDrive_moved o h).pru.warnings k (.inl hk)

/-- What a report of a class other than W leaves of the record unit and the episode, with or without its demand. -/
structure ReportTaken (k : Cause) (s t : State) : Prop where
  episode : SameEpisode s.pru t.pru
  slots : t.rcu.slots = s.rcu.slots
  warned : k ∈ t.pru.warnings ↔ k ∈ s.pru.warnings

theorem demand_taken (o : Sched) (c : Class) (s : State) {k : Cause} (hk : notHot k) : ReportTaken k s (demand o c s) where
  episode := demand_episode ..
  slots := (congrArg Rcu.slots (demand_rest o c s).2.1 :)
  warned := demand_warnings o c s hk

theorem Flow.report_taken (o : Sched) (later : List Taking) {k : Cause} (n : Period) {f : Flow} {c : Class}
    (h : f.state.set.classInForce k = c) (hc : c ≠ .w) (hk : notHot k) :
    ReportTaken k (takeCause k n c f.state).1 (Flow.report o later k n f).state := by
  unfold Flow.report
  rw [judge_cause n h hc]
  split
  · exact ⟨.refl _, rfl, .rfl⟩
  · unfold Flow.send
    split
    · exact ⟨.refl _, rfl, .rfl⟩
    · exact demand_taken o _ _ hk

theorem pruReport_warnings (k : Cause) (c : Class) (n : Nat) (p : Pru) : (pruReport k c n p).warnings = p.warnings := by
  unfold pruReport
  split
  · split <;> rfl
  · rfl

theorem setHanded_unopened (n : Period) (s : State) : Unopened s (setHanded n s) := by
  have hh := handStopped_handed (setTold n s).dsq.drive (periodIds s) (setTold n s)
  have ht := raiseTo_units .applied (ownersOf (periodIds s))
    { s with set := { applyClasses (atPeriod s.set.driveView) s.set with periodTaken := n } }
  have hp : (setTold n s).pru = s.pru := ht.1
  have hr : (setTold n s).rcu = s.rcu := ht.2
  refine ⟨?_, hh.rcu.trans hr⟩
  have hep := hh.pru.episode
  rw [hp] at hep
  exact hep

/-- STALL in the warning set while its class S is applied: the report at the apply (R141). -/
theorem workSet_stall (o : Sched) (n : Period) (later : List Taking) {f : Flow} {u : State} (hz : FullTable f.state.set)
    (hstaged : f.state.set.staged[81]? = some (some (.code 3))) (hw : .stall ∈ f.state.pru.warnings)
    (hu : u = (workSet o n later f).state) : ∃ g, Unopened (actionsHanded o n later f).state g ∧
      .stall ∉ g.pru.warnings ∧ latchedActive .stall u.pru = true ∧ ReportTaken .stall (takeCause .stall n .s g).1 u := by
  obtain ⟨r, hr, hlive⟩ : ∃ r, catalogue[81]? = some r ∧ r.cls = .live := ⟨_, rfl, rfl⟩
  have happlied : atPeriod f.state.set.driveView r.cls = true := by rw [hlive]; rfl
  obtain ⟨v, w, -, hw', ha, -⟩ := applyClasses_getElem? (choose := atPeriod f.state.set.driveView) hz hr
  obtain rfl : w = some (.code 3) := Option.some.inj (hw'.symm.trans hstaged)
  rw [if_pos happlied] at ha
  have hids : (periodIds f.state).contains 82 = true := periodIds_contains hz hr happlied hstaged
  have hhanded : FullTable (setHanded n f.state).set ∧ (setHanded n f.state).set.classInForce .stall = .s := by
    rw [setHanded_set]
    refine ⟨⟨(applyClasses_full hz).active, (applyClasses_full hz).staged⟩, ?_⟩
    rw [SetTable.classInForce, SetTable.num, ha]
    rfl
  have hpru : ((setTold n f.state).pru) = f.state.pru :=
    (raiseTo_units .applied (ownersOf (periodIds f.state))
      { f.state with set := { applyClasses (atPeriod f.state.set.driveView) f.state.set with periodTaken := n } }).1
  have hwarned : .stall ∈ (setHanded n f.state).pru.warnings :=
    ((handStopped_handed (setTold n f.state).dsq.drive (periodIds f.state) (setTold n f.state)).pru.warnings .stall
      (.inl fun x => by simp)).mpr (by rw [hpru]; exact hw)
  have hcarried : Carried (fun k => (∀ i, k ≠ .vibDanger i) ∧ ∀ i, k ≠ .vibSensor i) (setHanded n f.state)
      (actionsHanded o n later f).state :=
    eachChan_carried o later (fun i s => chanAction_carried _ i s)
      (fun i s _ hk => chanAction_tells _ i s hk.1 hk.2) { f with state := setHanded n f.state }
  have hstall : (∀ i, Cause.stall ≠ .vibDanger i) ∧ ∀ i, Cause.stall ≠ .vibSensor i :=
    ⟨(fun _ h => nomatch h), (fun _ h => nomatch h)⟩
  have hnot : notHot .stall := fun _ h => nomatch h
  have hgwarned := hcarried.pru.warnings .stall ⟨hstall, .inl hnot⟩ hwarned
  have hgclass : (actionsHanded o n later f).state.set.classInForce .stall = .s :=
    (hcarried.set.classInForce hhanded.1 .stall).trans hhanded.2
  rw [workSet_eq, if_pos hids] at hu
  generalize actionsHanded o n later f = g at *
  have hstallClass : stallClass n g.state = (stallDropped g.state, [.report .stall n]) := by
    rw [stallClass, List.contains_iff_mem.mpr hgwarned, hgclass]
    exact if_pos rfl
  rw [hstallClass] at hu
  have hreport : u = (Flow.report o later .stall n { g with state := stallDropped g.state }).state := hu
  refine ⟨stallDropped g.state, ⟨⟨rfl, rfl, rfl, rfl, rfl, rfl⟩, rfl⟩, fun h => ?_, ?_, ?_⟩
  · exact absurd rfl (of_decide_eq_true (List.mem_filter.mp h).2)
  · rw [hreport]
    exact Flow.report_latches o later n (f := { g with state := stallDropped g.state })
      (by rw [show (stallDropped g.state).set = g.state.set from rfl, hgclass]; decide)
  · rw [hreport]
    exact Flow.report_taken o later n (f := { g with state := stallDropped g.state }) hgclass (by decide) hnot

theorem mem_putLatch_fresh {k : Cause} {ls : List Latch} (hn : (ls.map Latch.kind).Nodup) (hk : ∀ e ∈ ls, e.kind ≠ k)
    (c : Class) (e : Latch) : e ∈ putLatch k c ls ↔ e ∈ ls ∨ e = { kind := k, cls := c } := by
  rw [mem_putLatch]
  constructor
  · rintro (he | ⟨-, he⟩)
    · exact .inr he
    · exact .inl (mem_latchOf he).1
  · rintro (he | he)
    · exact .inr ⟨hk e he, latchOf_of_mem hn he⟩
    · exact .inl he

theorem thermalNext_eq (z : SetTable) (q : Int) (k : Thermal) : thermalNext z q k =
    if k = .hot then (if (min z.qwarn z.qmax : Nat) ≤ q then .hot else .cool)
    else if q = z.qmax then .hot else if (z.qwarn : Int) ≤ q then .warm else .cool := by cases k <;> rfl

/-- Settles O40: the hand-over in a stopped state, the actions of the channels, and STALL at an apply of its class. -/
theorem handOverActsAtTheApply : Obligations.HandOverActsAtTheApply := by
  intro o n t later f s u hs hset htaken hview hu
  subst hs
  have hz := settingsRight_full hset
  have hwork : u = (workSet o n later f).state :=
    hu.trans (congrArg Flow.state (takePeriod_due (b := .set) htaken o t later))
  refine ⟨fun hd => ?_, fun i a hstaged => ?_, fun hstaged hw => ?_⟩
  · have hd := (stoppedState_iff _).mpr hd
    obtain ⟨hangles, henvelope, hthermal⟩ := workSet_stopped o n later hz hview hd hwork
    have hcontains : ∀ {i : Nat} {v : SetValue}, f.state.set.staged[i]? = some (some v) →
        (∃ r, catalogue[i]? = some r ∧ r.cls = .stopped) → (periodIds f.state).contains (i + 1) = true :=
      fun hv ⟨r, hr, hc⟩ => periodIds_contains hz hr (by rw [hc, hview]; exact hd) hv
    refine ⟨fun ⟨v, hv⟩ => hangles ?_, fun ⟨j, v, h1, h2, hv⟩ => ?_, fun ⟨v, hv⟩ x => ?_⟩
    · rw [anglesApply, Bool.or_eq_true]
      exact hv.imp (fun h => hcontains h ⟨_, rfl, rfl⟩) (fun h => hcontains h ⟨_, rfl, rfl⟩)
    · have hrow : ∃ r, catalogue[j]? = some r ∧ r.cls = .stopped := by
        interval_cases j <;> exact ⟨_, rfl, rfl⟩
      have happly : envelopeApply (periodIds f.state) = true :=
        List.any_eq_true.mpr ⟨j + 1, List.contains_iff_mem.mp (hcontains hv hrow), by simp; omega⟩
      exact henvelope happly
    · have happly : thermalApply (periodIds f.state) = true := by
        rw [thermalApply, Bool.or_eq_true]
        exact hv.imp (fun h => hcontains h ⟨_, rfl, rfl⟩) (fun h => hcontains h ⟨_, rfl, rfl⟩)
      have haccount := hthermal happly x
      simp only [Motor.account, thermalTaken, Prod.mk.injEq] at haccount
      obtain ⟨hq, hnext, hcond⟩ := haccount
      exact ⟨hq, hnext.trans (by rw [thermalNext_eq, hq]; rfl), by rw [hcond, hnext]⟩
  · obtain ⟨hchan, hdanger, hsafe⟩ := workSet_action o n later hz hstaged rfl hwork
    refine ⟨?_, ?_, ?_, hdanger, hsafe⟩
    · rw [hchan]
      rfl
    · rw [hchan]
      exact contributionOf_eq ..
    · rw [hchan]
      rfl
  · obtain ⟨g, hg, hdropped, hlatched, hreport⟩ := workSet_stall o n later hz hstaged hw hwork
    refine ⟨?_, hlatched, fun hvib => ?_⟩
    · rw [hreport.warned, takeCause_pru, pruReport_warnings]
      exact hdropped
    · have hopen := ((setHanded_unopened n f.state).trans (actionsHanded_unopened o n hvib)).trans hg
      have hepisode := hreport.episode
      rw [takeCause_pru] at hepisode
      refine ⟨fun hi => ?_, fun ha hfresh => ⟨fun hright e => ?_, fun i r hf hr hp hlen => ?_⟩⟩
      · rw [pruReport, if_neg (by rw [hopen.episode.active, hi]; exact Bool.false_ne_true)] at hepisode
        exact ⟨hepisode.firstOut, hepisode.cls, hepisode.latched⟩
      · have hnone : latchOf .stall g.pru.latched = none :=
          List.find?_eq_none.mpr fun e he => by simpa using hfresh e (hopen.episode.latched ▸ he)
        rw [pruReport, if_pos (hopen.episode.active.trans ha), if_pos (by rw [latches, hnone])] at hepisode
        have hlatch : u.pru.latched = putLatch .stall .s f.state.pru.latched := by
          rw [hepisode.latched, pruLatch, hopen.episode.latched]
        rw [hlatch]
        exact mem_putLatch_fresh (kinds_nodup ((tripRight_iff _).mp hright).inOrder) hfresh .s e
      · have hnone : latchOf .stall g.pru.latched = none :=
          List.find?_eq_none.mpr fun e he => by simpa using hfresh e (hopen.episode.latched ▸ he)
        have hsub := rcuSub_slots hf hr .stall n
        rw [if_pos hp] at hsub
        rw [hreport.slots, takeCause_fresh_rcu n .s (hopen.episode.active.trans ha) hnone, hopen.rcu, hsub, Six.get_put,
          addSub, if_pos hlen]

end Sys2Proof.Machine
end

section
/-! The period work of the speed and torque unit (R67 to R92), stage by stage: each stage as an update of the fields that
it alone gives, and what the whole leaves in each field. -/

namespace Sys2Proof.Machine

/-! ### The stages -/

/-- A motor after the exclusion test, with the other pinion's speed (R69). -/
def exclusionNext (either : Bool) (other : Nat) (d : Motor) : Motor :=
  if either then { d with exclCount := 0 } else exclusionTest other d

theorem stuExclusion_eq (u : Stu) : stuExclusion u = { u with motors :=
    ⟨exclusionNext (u.motors.a.excluded || u.motors.b.excluded) u.motors.b.speed u.motors.a,
     exclusionNext (u.motors.a.excluded || u.motors.b.excluded) u.motors.a.speed u.motors.b⟩ } := by
  unfold stuExclusion exclusionNext
  split <;> rfl

theorem exclusionNext_rest (either : Bool) (other : Nat) (d : Motor) : { exclusionNext either other d with
    exclCount := d.exclCount, excluded := d.excluded, sensorCond := d.sensorCond } = d := by
  unfold exclusionNext exclusionTest
  split
  · rfl
  · split
    · split <;> rfl
    · rfl

/-- The count of period events with the pinions apart (R71). -/
def mismatchNext (z : SetTable) (holds : Bool) (n : Nat) : Nat :=
  if holds then (if z.mismatchCount ≤ n + 1 then z.mismatchCount else n + 1) else 0

theorem stuMismatch_eq (z : SetTable) (u : Stu) : stuMismatch z u = { u with
    mismatch := mismatchNext z (mismatchHolds z u) u.mismatch,
    mismatchCond := mismatchHolds z u && (u.mismatchCond || decide (z.mismatchCount ≤ u.mismatch + 1)) } := by
  unfold stuMismatch mismatchNext
  split
  · rename_i h
    split
    · simp [*]
    · simp [*]
  · rename_i h
    simp [h]

/-- The breakaway window's count, if it stays open (R81). -/
def windowNext (z : SetTable) (s : Nat) : Option Nat → Option Nat
  | none => none
  | some c => if z.breakSpeed ≤ s then none else if z.breakTime ≤ c + 1 then none else some (c + 1)

theorem stuWindow_eq (z : SetTable) (u : Stu) : stuWindow z u = { u with window := windowNext z u.s u.window } := by
  obtain ⟨motors, s, mismatch, stationRef, hold, rr, y, td, window⟩ := u
  cases window with
  | none => rfl
  | some c =>
    unfold stuWindow windowNext
    dsimp only
    split
    · rfl
    · split <;> rfl

/-- The hold timer after a period event (R74). -/
def holdNext (d : Drive) (h : HoldTimer) : HoldTimer :=
  if drives d then
    match h with
    | .running c => if c ≤ 1 then .expired else .running (c - 1)
    | .stopped => .stopped
    | .expired => .expired
  else h

theorem holdNext_drives {d : Drive} (h : drives d = true) (t : HoldTimer) : holdNext d t = (match t with
    | .running c => if c ≤ 1 then .expired else .running (c - 1)
    | .stopped => .stopped
    | .expired => .expired) := if_pos h

theorem drives_iff (d : Drive) : drives d = true ↔ d = .starting ∨ d = .run := by cases d <;> decide

/-- The hold timer expires at this period event (R74). -/
def holdExpires (d : Drive) : HoldTimer → Bool
  | .running c => drives d && decide (c ≤ 1)
  | .stopped | .expired => false

theorem stuHold_eq (v : StuView) (u : Stu) : stuHold v u = { u with
    hold := holdNext v.drive u.hold, holdCond := u.holdCond || holdExpires v.drive u.hold } := by
  obtain ⟨motors, s, mismatch, stationRef, hold⟩ := u
  unfold stuHold holdNext
  cases hd : drives v.drive <;> cases hold <;> simp only [holdExpires, hd, Bool.or_false, Bool.false_and, if_true,
    Bool.true_and, Bool.false_eq_true, if_false]
  rename_i c
  by_cases hc : c ≤ 1 <;> simp only [hc, if_true, if_false, decide_true, decide_false, Bool.or_true, Bool.or_false]

theorem stuLoop_eq (z : SetTable) (v : StuView) (u : Stu) : stuLoop z v u = { u with
    y := if loopRuns v.drive then (if loopHeld z u then clampInt 0 ((u.tenv : Int) * 256) u.y else loopCandidate z u) else 0,
    td := if loopRuns v.drive then clampInt 0 u.tenv (loopDemand z u) else 0 } := by
  unfold stuLoop
  split <;> rfl

theorem stuTrim_eq (z : SetTable) (v : StuView) (u : Stu) : stuTrim z v u = { u with
    trim := if trimFrozen v u then u.trim else clampInt (-(z.trimLimit : Int)) z.trimLimit
      (u.trim - tdiv (sharingError z v.means * (z.trimGain : Int)) 256) } := by
  unfold stuTrim
  split <;> rfl

theorem stuLoss_eq (z : SetTable) (v : StuView) (u : Stu) : stuLoss z v u = { u with
    lostCond := drives v.drive && (if u.grace then u.lostCond else lossHolds z v.convs) } := by
  unfold stuLoss
  cases drives v.drive
  · rfl
  · by_cases h : u.grace = true
    · rw [if_pos rfl, if_pos h, if_pos h]
      rfl
    · rw [if_pos rfl, if_neg h, if_neg h]
      rfl

/-- The stall test holds (R92). -/
def stallHolds (z : SetTable) (v : StuView) (u : Stu) : Bool :=
  decide (v.drive = .run) && decide (u.td = u.tenv) && decide (u.s < z.stallSpeed)

theorem stuStall_eq (z : SetTable) (v : StuView) (u : Stu) : stuStall z v u = { u with
    stall := if stallHolds z v u then (if z.stallCount ≤ u.stall + 1 then z.stallCount else u.stall + 1) else 0,
    stallCond := stallHolds z v u && (u.stallCond || decide (z.stallCount ≤ u.stall + 1)) } := by
  unfold stuStall
  change (if stallHolds z v u = true then _ else _) = _
  split
  · rename_i h
    split
    · simp [*]
    · simp [*]
  · rename_i h
    simp [h]

/-! ### The period work by its stages -/

/-- The unit as the speed loop finds it (R67). -/
def stuRamped (z : SetTable) (v : StuView) (u : Stu) : Stu :=
  stuRamp z v (stuHold v (stuEnvelope z v (stuWindow z (stuThermal z v u))))

theorem stuTorque_eq (z : SetTable) (v : StuView) (u : Stu) :
    stuTorque z v u = stuSplit z (stuLimits z v (stuLoop z v (stuRamped z v u))) := rfl

/-- What the speed loop finds: the thermal accounts, the window, the envelope, the hold timer and the ramp have been
taken. -/
theorem stuRamped_eq (z : SetTable) (v : StuView) (u : Stu) : stuRamped z v u = { u with
    motors := (stuThermal z v u).motors,
    window := windowNext z u.s u.window,
    tenv := envelope z v.level (windowNext z u.s u.window),
    hold := holdNext v.drive u.hold,
    holdCond := u.holdCond || holdExpires v.drive u.hold,
    rr := (stuRamped z v u).rr } := by
  unfold stuRamped
  rw [stuHold_eq, stuWindow_eq]
  rfl

theorem stuTests_eq (z : SetTable) (v : StuView) (u : Stu) : stuTests z v u = { u with
    trim := (stuTrim z v u).trim,
    lostCond := drives v.drive && (if u.grace then u.lostCond else lossHolds z v.convs),
    grace := false,
    stall := if stallHolds z v u then (if z.stallCount ≤ u.stall + 1 then z.stallCount else u.stall + 1) else 0,
    stallCond := stallHolds z v u && (u.stallCond || decide (z.stallCount ≤ u.stall + 1)) } := by
  unfold stuTests
  rw [stuStall_eq, stuLoss_eq, stuTrim_eq]
  rfl

theorem stuChecks_eq (z : SetTable) (v : StuView) (u : Stu) : stuChecks z v u = { u with
    motors := (stuChecks z v u).motors,
    s := (stuChecks z v u).s,
    mismatch := (stuChecks z v u).mismatch,
    mismatchCond := (stuChecks z v u).mismatchCond,
    overspeedCond := (stuChecks z v u).overspeedCond } := by
  unfold stuChecks
  rw [stuMismatch_eq, stuExclusion_eq]
  rfl

/-- A motor after the checks (R68, R69). -/
theorem stuChecks_motor (z : SetTable) (v : StuView) (u : Stu) (x : Side) : { (stuChecks z v u).motors.get x with
    exclCount := (u.motors.get x).exclCount, excluded := (u.motors.get x).excluded,
    sensorCond := (u.motors.get x).sensorCond } =
      { u.motors.get x with speed := speedEstimate z v.instant (v.teeth.get x) } := by
  have hmotors : (stuChecks z v u).motors = (stuExclusion (stuSpeeds z v u)).motors := by
    unfold stuChecks
    rw [stuMismatch_eq]
    rfl
  rw [hmotors, stuExclusion_eq]
  cases x <;> exact exclusionNext_rest ..

/-- A motor after the stages up to the split (R83 to R87). -/
theorem stuTorque_motor (z : SetTable) (v : StuView) (u : Stu) (x : Side) : ∃ share : Int,
    (stuTorque z v u).motors.get x = motorShare z share { thermalTaken z { u.motors.get x with
      q := accountNext z (v.means.get x) (u.motors.get x).q } with
      limit := pinionLimit z (v.convs.get x) (thermalNext z (accountNext z (v.means.get x) (u.motors.get x).q)
        (u.motors.get x).thermal) } := by
  rw [stuTorque_eq, stuLoop_eq, stuRamped_eq]
  cases x <;> exact ⟨_, rfl⟩

theorem stuWork_motor (z : SetTable) (v : StuView) (u : Stu) (x : Side) :
    (stuWork z v u).motors.get x = (stuTorque z v (stuChecks z v u)).motors.get x := by
  have h : (stuWork z v u).motors = (stuTests z v (stuTorque z v (stuChecks z v u))).motors := rfl
  rw [h, stuTests_eq]

/-- What the checks leave of the unit. -/
theorem stuChecks_kept (z : SetTable) (v : StuView) (u : Stu) : ∃ c, c = stuChecks z v u ∧ c.window = u.window ∧
    c.hold = u.hold ∧ c.holdCond = u.holdCond ∧ c.stationRef = u.stationRef ∧ c.rr = u.rr ∧ c.y = u.y ∧ c.trim = u.trim ∧
    c.grace = u.grace ∧ c.lostCond = u.lostCond ∧ c.stall = u.stall ∧ c.stallCond = u.stallCond := by
  have h := stuChecks_eq z v u
  exact ⟨_, rfl, (congrArg Stu.window h :), (congrArg Stu.hold h :), (congrArg Stu.holdCond h :),
    (congrArg Stu.stationRef h :), (congrArg Stu.rr h :), (congrArg Stu.y h :), (congrArg Stu.trim h :),
    (congrArg Stu.grace h :), (congrArg Stu.lostCond h :), (congrArg Stu.stall h :), (congrArg Stu.stallCond h :)⟩

/-- What the speed loop, the limits and the split leave and give, from the unit as the loop finds it. -/
theorem stuTorque_kept (z : SetTable) (v : StuView) (c : Stu) : ∃ r, r = stuRamped z v c ∧ ∃ q, q = stuTorque z v c ∧
    q = { r with y := (stuLoop z v r).y, td := (stuLoop z v r).td, motors := q.motors, splitLimited := q.splitLimited } ∧
    splitTorque z.share r.trim q.motors.a.limit q.motors.b.limit q.td =
      ⟨q.motors.a.share, q.motors.b.share, q.splitLimited⟩ := by
  refine ⟨_, rfl, _, rfl, ?_⟩
  rw [stuTorque_eq]
  generalize stuRamped z v c = r
  rw [stuLoop_eq]
  exact ⟨rfl, rfl⟩

/-- The unit after the period work, from the unit after its split. -/
theorem stuWork_tests (z : SetTable) (v : StuView) (u : Stu) : ∃ q, q = stuTorque z v (stuChecks z v u) ∧
    stuWork z v u = { q with
      trim := (stuTrim z v q).trim,
      lostCond := drives v.drive && (if q.grace then q.lostCond else lossHolds z v.convs),
      grace := false,
      stall := if stallHolds z v q then (if z.stallCount ≤ q.stall + 1 then z.stallCount else q.stall + 1) else 0,
      stallCond := stallHolds z v q && (q.stallCond || decide (z.stallCount ≤ q.stall + 1)),
      pub := (stuWork z v u).pub, periodTaken := v.number } := by
  refine ⟨_, rfl, ?_⟩
  have h : stuWork z v u = { stuTests z v (stuTorque z v (stuChecks z v u)) with
    pub := (stuWork z v u).pub, periodTaken := v.number } := rfl
  rw [stuTests_eq] at h
  exact h

/-- What the unit publishes of its values (R67, R159). -/
def publishedOf (z : SetTable) (w : Stu) : Published :=
  { rr := w.rr, td := w.td, tenv := w.tenv, trim := w.trim, coarseA := coarseOf w.motors.a.q z.qmax,
    coarseB := coarseOf w.motors.b.q z.qmax }

/-- The unit `w` after the period work on `u`, with `c` as it stands after the checks, and `r` as the speed loop finds
it. -/
structure PeriodWork (z : SetTable) (v : StuView) (u c r w : Stu) : Prop where
  checks : c = stuChecks z v u
  ramped : r = stuRamped z v c
  speed : w.s = c.s
  speedLoop : r.s = c.s
  mismatch : w.mismatch = c.mismatch
  mismatchCond : w.mismatchCond = c.mismatchCond
  overspeedCond : w.overspeedCond = c.overspeedCond
  motors : w.motors = (stuTorque z v c).motors
  stationRef : w.stationRef = u.stationRef
  hold : w.hold = holdNext v.drive u.hold
  holdCond : w.holdCond = (u.holdCond || holdExpires v.drive u.hold)
  window : w.window = windowNext z c.s u.window
  tenv : w.tenv = envelope z v.level w.window
  tenvLoop : r.tenv = w.tenv
  rr : w.rr = r.rr
  integ : r.y = u.y
  y : w.y = (stuLoop z v r).y
  td : w.td = (stuLoop z v r).td
  split : splitTorque z.share u.trim w.motors.a.limit w.motors.b.limit w.td =
    ⟨w.motors.a.share, w.motors.b.share, w.splitLimited⟩
  trim : w.trim = (stuTrim z v { w with trim := u.trim }).trim
  lostCond : w.lostCond = (drives v.drive && (if u.grace then u.lostCond else lossHolds z v.convs))
  grace : w.grace = false
  stall : w.stall = if stallHolds z v w then (if z.stallCount ≤ u.stall + 1 then z.stallCount else u.stall + 1) else 0
  stallCond : w.stallCond = (stallHolds z v w && (u.stallCond || decide (z.stallCount ≤ u.stall + 1)))
  pub : w.pub = publishedOf z w
  taken : w.periodTaken = v.number

theorem stuTrim_trim (z : SetTable) (v : StuView) {u w : Stu} (ht : u.trim = w.trim) (hl : u.splitLimited = w.splitLimited)
    (hd : u.td = w.td) : (stuTrim z v u).trim = (stuTrim z v w).trim := by
  rw [stuTrim_eq, stuTrim_eq]
  dsimp only
  rw [trimFrozen, trimFrozen, ht, hl, hd]

theorem stuWork_stages (z : SetTable) (v : StuView) (u : Stu) : ∃ c r, PeriodWork z v u c r (stuWork z v u) := by
  obtain ⟨c, hc, hwindow, hhold, hholdCond, hstation, -, hy, htrim, hgrace, hlost, hstall, hstallCond⟩ :=
    stuChecks_kept z v u
  obtain ⟨r, hr, q, hq, hqr, hsplit⟩ := stuTorque_kept z v c
  obtain ⟨q', hq', hw⟩ := stuWork_tests z v u
  obtain rfl : q' = q := by rw [hq', ← hc, hq]
  have hpub : (stuWork z v u).pub = publishedOf z (stuWork z v u) := rfl
  have hrc := stuRamped_eq z v c
  rw [← hr] at hrc
  generalize stuWork z v u = w at *
  have hs : r.s = c.s := (congrArg Stu.s hrc :)
  have hstallw : stallHolds z v q' = stallHolds z v w ∧ q'.stall = u.stall ∧ q'.stallCond = u.stallCond := by
    refine ⟨?_, ?_, ?_⟩
    · rw [hw]
      rfl
    · rw [hqr, ← hstall, hrc]
    · rw [hqr, ← hstallCond, hrc]
  have hloss : q'.grace = u.grace ∧ q'.lostCond = u.lostCond := by
    rw [hqr, ← hgrace, ← hlost, hrc]
    exact ⟨rfl, rfl⟩
  have htenv : w.tenv = r.tenv := (congrArg Stu.tenv hw :).trans (congrArg Stu.tenv hqr :)
  have hwin : w.window = r.window := (congrArg Stu.window hw :).trans (congrArg Stu.window hqr :)
  have hmotors : w.motors = q'.motors := (congrArg Stu.motors hw :)
  have htd : w.td = q'.td := (congrArg Stu.td hw :)
  have hlim : w.splitLimited = q'.splitLimited := (congrArg Stu.splitLimited hw :)
  have hrtrim : r.trim = u.trim := (congrArg Stu.trim hrc :).trans htrim
  have hspeed : w.s = c.s := (congrArg Stu.s hw :).trans ((congrArg Stu.s hqr :).trans hs)
  exact ⟨c, r, {
    checks := hc
    ramped := hr
    speed := hspeed
    speedLoop := hs
    mismatch := (congrArg Stu.mismatch hw :).trans ((congrArg Stu.mismatch hqr :).trans (congrArg Stu.mismatch hrc :))
    mismatchCond := (congrArg Stu.mismatchCond hw :).trans
      ((congrArg Stu.mismatchCond hqr :).trans (congrArg Stu.mismatchCond hrc :))
    overspeedCond := (congrArg Stu.overspeedCond hw :).trans
      ((congrArg Stu.overspeedCond hqr :).trans (congrArg Stu.overspeedCond hrc :))
    motors := by rw [hmotors, hq]
    stationRef := (congrArg Stu.stationRef hw :).trans
      ((congrArg Stu.stationRef hqr :).trans ((congrArg Stu.stationRef hrc :).trans hstation))
    hold := (congrArg Stu.hold hw :).trans
      ((congrArg Stu.hold hqr :).trans ((congrArg Stu.hold hrc :).trans (congrArg (holdNext v.drive) hhold)))
    holdCond := by
      rw [← hhold, ← hholdCond]
      exact (congrArg Stu.holdCond hw :).trans ((congrArg Stu.holdCond hqr :).trans (congrArg Stu.holdCond hrc :))
    window := by
      rw [hwin, ← hwindow]
      exact (congrArg Stu.window hrc :)
    tenv := by
      rw [htenv, hwin, (congrArg Stu.window hrc :)]
      exact (congrArg Stu.tenv hrc :)
    tenvLoop := htenv.symm
    rr := (congrArg Stu.rr hw :).trans (congrArg Stu.rr hqr :)
    integ := (congrArg Stu.y hrc :).trans hy
    y := (congrArg Stu.y hw :).trans (congrArg Stu.y hqr :)
    td := htd.trans (congrArg Stu.td hqr :)
    split := by rw [hmotors, htd, hlim, ← hrtrim]; exact hsplit
    trim := (congrArg Stu.trim hw :).trans
      (stuTrim_trim z v ((congrArg Stu.trim hqr :).trans hrtrim) hlim.symm htd.symm)
    lostCond := by rw [← hloss.1, ← hloss.2]; exact (congrArg Stu.lostCond hw :)
    grace := (congrArg Stu.grace hw :)
    stall := by
      rw [← hstallw.1, ← hstallw.2.1]
      exact (congrArg Stu.stall hw :)
    stallCond := by
      rw [← hstallw.1, ← hstallw.2.1, ← hstallw.2.2]
      exact (congrArg Stu.stallCond hw :)
    pub := hpub
    taken := (congrArg Stu.periodTaken hw :) }⟩

/-- A motor `m` after the period work, with the motor `d` before it and the motor `e` after the checks. -/
structure MotorWork (z : SetTable) (v : StuView) (x : Side) (d e m : Motor) : Prop where
  speed : m.speed = speedEstimate z v.instant (v.teeth.get x)
  q : m.q = accountNext z (v.means.get x) d.q
  thermal : m.thermal = thermalNext z m.q d.thermal
  hotCond : m.hotCond = decide (m.thermal = .hot)
  limit : m.limit = pinionLimit z (v.convs.get x) m.thermal
  iref : m.iref = currentRef z m.thermal m.share
  excluded : m.excluded = e.excluded
  exclCount : m.exclCount = e.exclCount
  sensorCond : m.sensorCond = e.sensorCond

theorem PeriodWork.motor {z : SetTable} {v : StuView} {u c r w : Stu} (h : PeriodWork z v u c r w) (x : Side) :
    MotorWork z v x (u.motors.get x) (c.motors.get x) (w.motors.get x) := by
  obtain ⟨share, hm⟩ := stuTorque_motor z v c x
  have hc := stuChecks_motor z v u x
  rw [← h.checks] at hc
  have hspeed : (c.motors.get x).speed = speedEstimate z v.instant (v.teeth.get x) := (congrArg Motor.speed hc :)
  have hq : (c.motors.get x).q = (u.motors.get x).q := (congrArg Motor.q hc :)
  have hthermal : (c.motors.get x).thermal = (u.motors.get x).thermal := (congrArg Motor.thermal hc :)
  rw [h.motors, hm]
  exact ⟨hspeed, by rw [← hq]; rfl, by rw [← hthermal]; rfl, rfl, rfl, rfl, rfl, rfl, rfl⟩

theorem thermalNext_cases (z : SetTable) (q : Int) (k : Thermal) : thermalNext z q k =
    (if k = .hot then (if (min (z.num 59) (z.num 58) : Nat) ≤ q then .hot else .cool)
     else if q = z.num 58 then .hot else if (z.num 59 : Int) ≤ q then .warm else .cool) := thermalNext_eq z q k

theorem accountNext_eq (z : SetTable) (i : Nat) (q : Int) : accountNext z i q = max 0 (min (z.num 58 : Int)
    (q + Int.tdiv (((i : Int) * (i : Int)) - (z.num 55 : Int) * (z.num 55 : Int)) 16384)) := by
  rw [accountNext, clampInt_eq (Int.natCast_nonneg _)]
  rfl

theorem pinionLimit_eq (z : SetTable) (k : ConvState) (h : Thermal) : pinionLimit z k h =
    if k = .firing then min (min z.tpin (z.imax * z.kt / 16384)) (if h = .hot then z.num 55 * z.kt / 16384 else z.tpin)
    else 0 := by
  unfold pinionLimit
  split
  · split
    · rfl
    · rw [Nat.min_assoc, Nat.min_comm (z.imax * z.kt / 16384), ← Nat.min_assoc, Nat.min_self]
  · rfl

theorem currentRef_eq (z : SetTable) (h : Thermal) (share : Int) : currentRef z h share =
    min (min (share.toNat * 16384 / z.kt) z.imax) (if h = .hot then z.num 55 else z.imax) := by
  unfold currentRef
  split
  · rfl
  · rw [Nat.min_assoc, Nat.min_self]

theorem envelope_eq (z : SetTable) (level : Nat) (w : Option Nat) : envelope z level w =
    (if w.isSome then z.num 49 else z.num 50) * z.derateFactor level / 256 := by cases w <;> rfl

theorem rampStep_zero (down rr : Nat) : rampStep 0 0 down rr = rr - down := by
  unfold rampStep
  split
  · omega
  · split <;> omega

/-- The ramp target by the hold timer and the station's reference (R75). -/
def targetOf (z : SetTable) (hold : HoldTimer) (ref : Option Nat) : Nat :=
  min (match hold, ref with | .running _, some r => r | _, _ => z.fallback) z.speedMax

theorem rampTarget_eq (z : SetTable) (u : Stu) : rampTarget z u = targetOf z u.hold u.stationRef := by
  unfold rampTarget targetOf
  cases u.hold <;> cases u.stationRef <;> rfl

/-- The ramp of the period work (R75). -/
theorem PeriodWork.ramp {z : SetTable} {v : StuView} {u c r w : Stu} (h : PeriodWork z v u c r w) :
    w.rr = (match v.drive with
      | .starting | .run => rampStep (targetOf z w.hold u.stationRef) z.accel z.decel u.rr
      | .stopping => u.rr - z.decel
      | .tripStop => u.rr - z.tripDecel
      | .blocked | .closing | .coast | .tripped | .aux => 0) := by
  obtain ⟨c', hc', -, hhold, -, hstation, hrr, -⟩ := stuChecks_kept z v u
  obtain rfl : c' = c := hc'.trans h.checks.symm
  obtain ⟨b, hb, hbhold, hbstation, hbrr⟩ : ∃ b, stuRamped z v c' = stuRamp z v b ∧ b.hold = holdNext v.drive c'.hold ∧
      b.stationRef = c'.stationRef ∧ b.rr = c'.rr := by
    refine ⟨_, rfl, ?_⟩
    rw [stuHold_eq, stuWindow_eq]
    exact ⟨rfl, rfl, rfl⟩
  have htarget : rampTarget z b = targetOf z w.hold u.stationRef := by
    rw [rampTarget_eq, hbhold, hbstation, hhold, hstation, h.hold]
  have hbu : b.rr = u.rr := hbrr.trans hrr
  rw [h.rr, h.ramped, hb, stuRamp]
  dsimp only
  rw [htarget, hbu]
  cases v.drive with
  | stopping | tripStop => exact rampStep_zero ..
  | starting | run | blocked | closing | coast | tripped | aux => rfl

/-- The speed loop of the period work (R77, R78). -/
theorem PeriodWork.loop {z : SetTable} {v : StuView} {u c r w : Stu} (h : PeriodWork z v u c r w)
    (hd : loopRuns v.drive = true) {e y d : Int} (he : e = (w.rr : Int) - w.s)
    (hy : y = max 0 (min ((w.tenv : Int) * 256) (u.y + (z.kiS : Int) * e)))
    (hd' : d = Int.tdiv ((z.kpS : Int) * e) 256 + Int.tdiv y 256) :
    w.td = max 0 (min (w.tenv : Int) d) ∧
    w.y = (if ((w.tenv : Int) < d ∧ 0 < e) ∨ (d < 0 ∧ e < 0) then max 0 (min ((w.tenv : Int) * 256) u.y) else y) := by
  have herr : (r.rr : Int) - r.s = e := by rw [← h.rr, h.speedLoop, ← h.speed, he]
  have hcand : loopCandidate z r = y := by
    rw [loopCandidate, herr, h.tenvLoop, h.integ, clampInt_eq (by omega), hy]
  have hdem : loopDemand z r = d := by
    rw [loopDemand, herr, hcand, hd']
    rfl
  have hheld : loopHeld z r = decide (((w.tenv : Int) < d ∧ 0 < e) ∨ (d < 0 ∧ e < 0)) := by
    rw [loopHeld, hdem, h.tenvLoop]
    have h1 : r.s < r.rr ↔ 0 < e := by omega
    have h2 : r.rr < r.s ↔ e < 0 := by omega
    simp only [h1, h2, Bool.decide_or, Bool.decide_and]
  rw [h.td, h.y, stuLoop_eq]
  simp only [hd, if_true, hheld, hcand, hdem, h.tenvLoop, h.integ, decide_eq_true_eq]
  rw [clampInt_eq (by omega), clampInt_eq (by omega)]
  exact ⟨rfl, rfl⟩

/-- Settles O50: each field of the period work by its stage (`PeriodWork`, `MotorWork`). -/
theorem periodWorkBoundsTheTorque : Obligations.PeriodWorkBoundsTheTorque := by
  intro z v u w hw
  obtain ⟨c, r, h⟩ := stuWork_stages z v u
  have hfit := stuPeriod_fit z v u
  have hperiod : (stuPeriod z v u).1 = w := hw.symm
  rw [hperiod] at hfit
  rw [← hw] at h
  refine ⟨fun x => ?_, ?_, h.stationRef, fun hd => ⟨?_, fun target ht => ?_⟩, fun h1 h2 => ?_, fun hd => ?_, fun hd => ?_,
    fun hd e y d he hy hd' => ?_, h.split, hfit.nonneg, hfit.le, fun hd => ?_⟩
  · have hm := h.motor x
    exact ⟨hm.speed, hm.q.trans (accountNext_eq ..), hm.thermal.trans (thermalNext_cases ..), hm.hotCond,
      hm.limit.trans (pinionLimit_eq ..), hm.iref.trans (currentRef_eq ..)⟩
  · exact h.tenv.trans (envelope_eq ..)
  · rw [h.hold, holdNext_drives ((drives_iff _).mpr hd)]
    cases u.hold <;> rfl
  · have hramp := h.ramp
    have htarget : target = targetOf z w.hold u.stationRef := ht
    rw [htarget]
    rcases hd with hd | hd <;> rw [hd] at hramp <;> exact hramp
  · exact h.hold.trans (if_neg fun hd => ((drives_iff _).mp hd).elim h1 h2)
  · have hramp := h.ramp
    rw [hd] at hramp
    exact hramp
  · have hramp := h.ramp
    rw [hd] at hramp
    exact hramp
  · have hruns : loopRuns v.drive = true := by rcases hd with hd | hd | hd | hd <;> rw [hd] <;> rfl
    exact h.loop hruns he hy hd'
  · have hidle : loopRuns v.drive = false := by rcases hd with hd | hd | hd | hd | hd <;> rw [hd] <;> rfl
    obtain ⟨htd, hia, hib⟩ := hfit.idle hidle
    have hramp : w.rr = 0 := by
      have hramp := h.ramp
      rcases hd with hd | hd | hd | hd | hd <;> rw [hd] at hramp <;> exact hramp
    have hy : w.y = 0 := by
      rw [h.y, stuLoop_eq]
      exact if_neg (by rw [hidle]; exact Bool.false_ne_true)
    have ha := hfit.a.nonneg
    have hb := hfit.b.nonneg
    have hsum := hfit.sum
    exact ⟨hramp, hy, htd, by omega, by omega, hia, hib⟩

end Sys2Proof.Machine
end

section
/-! What the speed and torque unit's taking of a period event reports (R67 to R92), and the commands that are that taking
(log entries 7 and 11). -/

namespace Sys2Proof.Machine

/-! ### The speed checks -/

theorem stuChecks_means (z : SetTable) (v : StuView) (u : Stu) : ∃ c, c = stuChecks z v u ∧
    c.s = (if c.motors.a.excluded then c.motors.b.speed else if c.motors.b.excluded then c.motors.a.speed
      else (c.motors.a.speed + c.motors.b.speed) / 2) ∧
    c.overspeedCond = decide (z.overspeed < c.s) ∧
    c.mismatch = mismatchNext z (mismatchHolds z c) u.mismatch ∧
    c.mismatchCond = (mismatchHolds z c && (u.mismatchCond || decide (z.mismatchCount ≤ u.mismatch + 1))) := by
  refine ⟨_, rfl, ?_⟩
  unfold stuChecks
  rw [stuMismatch_eq, stuExclusion_eq]
  exact ⟨rfl, rfl, rfl, rfl⟩

/-- A motor after the exclusion test (R69). -/
theorem stuChecks_excluded (z : SetTable) (v : StuView) (u : Stu) (x : Side) : (stuChecks z v u).motors.get x =
    exclusionNext (u.motors.a.excluded || u.motors.b.excluded)
      (speedEstimate z v.instant (v.teeth.get (otherSide x)))
      { u.motors.get x with speed := speedEstimate z v.instant (v.teeth.get x) } := by
  have hmotors : (stuChecks z v u).motors = (stuExclusion (stuSpeeds z v u)).motors := by
    unfold stuChecks
    rw [stuMismatch_eq]
    rfl
  rw [hmotors, stuExclusion_eq]
  cases x <;> rfl

/-! ### The messages of the period work -/

/-- The conditions that the unit publishes, by kind (R69, R71, R72, R74, R84, R90, R92). -/
def stuCond (u : Stu) : Cause → Bool
  | .speedSensor x => (u.motors.get x).sensorCond
  | .thermalHot x => (u.motors.get x).hotCond
  | .pinionMismatch => u.mismatchCond
  | .overspeed => u.overspeedCond
  | .referenceHold => u.holdCond
  | .converterLost => u.lostCond
  | .stall => u.stallCond
  | _ => false

theorem cond_mem_condMsgs {j k : Cause} {n : Period} {b old new : Bool} :
    .cond j b ∈ condMsgs k n old new ↔ j = k ∧ b = new ∧ old ≠ new := by
  cases old <;> cases new <;> cases b <;> simp [condMsgs]

theorem report_mem_condMsgs {j k : Cause} {m n : Period} {old new : Bool} :
    .report j m ∈ condMsgs k n old new ↔ j = k ∧ m = n ∧ old = false ∧ new = true := by
  cases old <;> cases new <;> simp [condMsgs]

/-- A condition is published exactly where it changes, BREAKAWAY_FAILED apart (R140). -/
theorem cond_mem_stuMsgs {k : Cause} (hk : k ≠ .breakawayFailed) {n : Period} {failed b : Bool} {old new : Stu} :
    .cond k b ∈ stuMsgs n failed old new ↔ b = stuCond new k ∧ stuCond old k ≠ stuCond new k := by
  cases k with
  | speedSensor x | thermalHot x =>
    cases x <;> cases failed <;>
      simp [stuMsgs, sensorMsgs, hotMsgs, breakMsgs, holdMsgs, cond_mem_condMsgs, stuCond, Pair.get]
  | breakawayFailed => exact absurd rfl hk
  | _ =>
    cases failed <;> simp [stuMsgs, sensorMsgs, hotMsgs, breakMsgs, holdMsgs, cond_mem_condMsgs, stuCond]

/-- A kind is reported exactly where its condition comes to hold, BREAKAWAY_FAILED apart (R140). -/
theorem report_mem_stuMsgs {k : Cause} (hk : k ≠ .breakawayFailed) {m n : Period} {failed : Bool} {old new : Stu} :
    .report k m ∈ stuMsgs n failed old new ↔ m = n ∧ stuCond old k = false ∧ stuCond new k = true := by
  cases k with
  | speedSensor x | thermalHot x =>
    cases x <;> cases failed <;>
      simp [stuMsgs, sensorMsgs, hotMsgs, breakMsgs, holdMsgs, report_mem_condMsgs, stuCond, Pair.get]
  | breakawayFailed => exact absurd rfl hk
  | _ =>
    cases failed <;> simp [stuMsgs, sensorMsgs, hotMsgs, breakMsgs, holdMsgs, report_mem_condMsgs, stuCond]

/-! ### The unit's taking of a period event -/

/-- The kinds that are no channel's. -/
def noChannel (k : Cause) : Prop := (∀ i, k ≠ .vibDanger i) ∧ ∀ i, k ≠ .vibSensor i

theorem chanSpeeds_carried {K : Cause → Prop} (n : Chan) (s : State) : Carried K s (chanSpeeds n s).1 :=
  ⟨chanSpeeds_base n s, .of_eq rfl, .refl _, .refl _, .refl _, .refl, fun x => by cases x <;> exact .of_eq rfl, .refl _,
    fun _ _ => id, fun _ => rfl⟩

/-- The speeds that the channels take leave every kind that is no channel's. -/
theorem workStu_carried (o : Sched) (n : Period) (t : Tick) (later : List Taking) (f : Flow) :
    Carried noChannel (stuPosted o n t later f).state (workStu o n t later f).state := by
  rw [workStu_eq]
  exact eachChan_carried o later (fun i s => chanSpeeds_carried i s)
    (fun i s k hk => by rw [chanSpeeds_msgs]; exact chanPut_tells i _ s hk.1 hk.2) _

/-- The messages of the unit's taking of a period event. -/
def stuSent (n : Period) (t : Tick) (s : State) : List Msg := (stuPeriod s.set (s.stuView n t) s.stu).2

theorem cond_mem_stuSent {k : Cause} (hk : k ≠ .breakawayFailed) {n : Period} {t : Tick} {s : State} {w : Stu} {b : Bool}
    (hw : w = stuWork s.set (s.stuView n t) s.stu) :
    .cond k b ∈ stuSent n t s ↔ b = stuCond w k ∧ stuCond s.stu k ≠ stuCond w k := by
  rw [hw]
  exact cond_mem_stuMsgs hk

theorem report_mem_stuSent {k : Cause} (hk : k ≠ .breakawayFailed) {m n : Period} {t : Tick} {s : State} {w : Stu}
    (hw : w = stuWork s.set (s.stuView n t) s.stu) :
    .report k m ∈ stuSent n t s ↔ m = n ∧ stuCond s.stu k = false ∧ stuCond w k = true := by
  rw [hw]
  exact report_mem_stuMsgs hk

/-- The part once the unit has done its work and published its conditions. -/
def stuCalmed (n : Period) (t : Tick) (s : State) : State :=
  calmed (stuSent n t s) { s with stu := stuWork s.set (s.stuView n t) s.stu }

/-- The unit's work and its messages. -/
def stuDone (n : Period) (t : Tick) (s : State) : State × List Msg :=
  ({ s with stu := stuWork s.set (s.stuView n t) s.stu }, stuSent n t s)

theorem stuPosted_eq (o : Sched) (n : Period) (t : Tick) (later : List Taking) (f : Flow) :
    stuPosted o n t later f = Flow.post o later (stuDone n t f.state) f := rfl

theorem stuPosted_reported (o : Sched) (n : Period) (t : Tick) (later : List Taking) (f : Flow) :
    Reported (stuCalmed n t f.state) (stuPosted o n t later f).state := by
  rw [stuPosted_eq]
  exact Flow.post_reported o later (stuDone n t f.state) f

/-- From the published conditions on, a kind that is no channel's is left. -/
theorem workStu_settles (o : Sched) (n : Period) (t : Tick) (later : List Taking) (f : Flow) :
    Carried noChannel (stuCalmed n t f.state) (workStu o n t later f).state :=
  (stuPosted_reported o n t later f).carried.trans (workStu_carried o n t later f)

theorem stuCalmed_set (n : Period) (t : Tick) (s : State) : (stuCalmed n t s).set = s.set := (calmed_same ..).set

theorem stuCalmed_stu (n : Period) (t : Tick) (s : State) :
    (stuCalmed n t s).stu = stuWork s.set (s.stuView n t) s.stu := (calmed_same ..).stu

theorem workStu_stu (o : Sched) (n : Period) (t : Tick) (later : List Taking) (f : Flow) :
    StuKept (stuWork f.state.set (f.state.stuView n t) f.state.stu) (workStu o n t later f).state.stu := by
  have h := (workStu_settles o n t later f).stu
  rwa [stuCalmed_stu] at h

/-- A condition that comes to hold in the period work: it is in the view, and its report, where it does not wait, is
latched or a warning (R140, R142, R144, R145). -/
theorem workStu_reports (o : Sched) {n : Period} {t : Tick} (later : List Taking) {f : Flow} {k : Cause} {w : Stu}
    (hw : w = stuWork f.state.set (f.state.stuView n t) f.state.stu) (hk : noChannel k) (hb : k ≠ .breakawayFailed)
    (hhot : notHot k ∨ quietThermal f.state.set) (hold : stuCond f.state.stu k = false) (hnew : stuCond w k = true) :
    k ∈ (workStu o n t later f).state.pru.view ∧
    (Taking.report k ∉ later → (∀ z, SetSteady f.state.set z → z.classInForce k ≠ .w) →
      latchedActive k (workStu o n t later f).state.pru = true) ∧
    (Taking.report k ∉ later → (∀ z, SetSteady f.state.set z → z.classInForce k = .w) →
      k ∈ (workStu o n t later f).state.pru.warnings) := by
  have hcond : Msg.cond k true ∈ stuSent n t f.state := (cond_mem_stuSent hb hw).mpr ⟨hnew.symm, by
    rw [hold]; exact fun h => Bool.false_ne_true (h.trans hnew)⟩
  have hclear : Msg.cond k false ∉ stuSent n t f.state := fun h =>
    Bool.false_ne_true (((cond_mem_stuSent hb hw).mp h).1.trans hnew)
  have hreport : Msg.report k n ∈ stuSent n t f.state := (report_mem_stuSent hb hw).mpr ⟨rfl, hold, hnew⟩
  have hcarried := workStu_carried o n t later f
  have hquiet : notHot k ∨ quietThermal (stuPosted o n t later f).state.set :=
    hhot.imp id fun h => (stuPosted_carried o n t later f).set.quiet h
  refine ⟨?_, fun hl hc => ?_, fun hl hc => ?_⟩
  · have hsettles := workStu_settles o n t later f
    exact (hsettles.pru.view k ⟨hk, by rw [stuCalmed_set]; exact hhot⟩).mpr (calmed_joins hcond hclear _)
  · refine hcarried.pru.latched k ?_
    rw [stuPosted_eq]
    exact Flow.post_latches o (r := stuDone n t f.state) hreport hl f hc
  · refine hcarried.pru.warnings k ⟨hk, hquiet⟩ ?_
    rw [stuPosted_eq]
    exact Flow.post_warns o (r := stuDone n t f.state) hreport hl f hc hhot hcond hclear

/-- A condition that is clear again is neither in the view nor, reported, in the warning set (R140, R143). -/
theorem workStu_clears (o : Sched) {n : Period} {t : Tick} (later : List Taking) {f : Flow} {k : Cause} {w : Stu}
    (hw : w = stuWork f.state.set (f.state.stuView n t) f.state.stu) (hk : noChannel k) (hb : k ≠ .breakawayFailed)
    (hhot : notHot k ∨ quietThermal f.state.set) (hold : stuCond f.state.stu k = true) (hnew : stuCond w k = false) :
    k ∉ (workStu o n t later f).state.pru.view := by
  have hcond : Msg.cond k false ∈ stuSent n t f.state := (cond_mem_stuSent hb hw).mpr ⟨hnew.symm, by
    rw [hold]; exact fun h => Bool.false_ne_true (hnew.symm.trans h.symm)⟩
  have hset : Msg.cond k true ∉ stuSent n t f.state := fun h =>
    Bool.false_ne_true (hnew.symm.trans ((cond_mem_stuSent hb hw).mp h).1.symm)
  have hsettles := workStu_settles o n t later f
  exact fun h => (calmed_leaves hcond hset _).1
    ((hsettles.pru.view k ⟨hk, by rw [stuCalmed_set]; exact hhot⟩).mp h)

/-! ### THERMAL_HOT_x and its warning -/

/-- A kind is in the warning set only where it was before, or WARNING has been raised (R142), with Qmax and Qwarn left
alone. -/
structure Told (k : Cause) (s t : State) : Prop where
  links : LinksRaised s t
  quiet : quietThermal s.set → quietThermal t.set
  told : quietThermal s.set → k ∈ t.pru.warnings →
    k ∈ s.pru.warnings ∨ (.warning ∈ t.links.c.notices ∧ .warning ∈ t.links.p.notices)

theorem Told.refl (k : Cause) (s : State) : Told k s s := ⟨.refl s, id, fun _ => .inl⟩

theorem Told.trans {k : Cause} {s t u : State} (h : Told k s t) (h' : Told k t u) : Told k s u where
  links := LinksRaised.trans h.links h'.links
  quiet hq := h'.quiet (h.quiet hq)
  told hq hw := by
    rcases h'.told (h.quiet hq) hw with hw | hn
    · exact (h.told hq hw).imp id fun hn => ⟨(h'.links .c).notices _ hn.1, (h'.links .p).notices _ hn.2⟩
    · exact .inr hn

theorem Reported.told {k : Cause} {s t : State} (h : Reported s t)
    (hw : quietThermal s.set → k ∈ t.pru.warnings → k ∈ s.pru.warnings) : Told k s t :=
  ⟨h.links, h.set.quiet, fun hq hm => .inl (hw hq hm)⟩

theorem takeWarning_told (j k : Cause) (s : State) : Told k s (takeWarning j s) := by
  have hcarried := takeWarning_carried (K := fun _ => True) j s
  refine ⟨hcarried.links, hcarried.set.quiet, fun _ hm => ?_⟩
  unfold takeWarning at hm ⊢
  split
  · rename_i h
    rw [if_pos h] at hm
    exact .inl hm
  · exact .inr ⟨(raiseTo_noticed .warning (st := .c) (by simp) _).1, (raiseTo_noticed .warning (st := .p) (by simp) _).1⟩

theorem judge_told (j k : Cause) (n : Period) (s : State) : Told k s (judge j n s).1 := by
  by_cases hc : s.set.classInForce j = .w
  · rw [judge_warning n hc]
    exact takeWarning_told ..
  · refine (judge_reported j n s).told fun _ hm => ?_
    rwa [judge_cause n rfl hc, takeCause_pru, pruReport_warnings] at hm

theorem demand_told (o : Sched) (c : Class) (k : Cause) (s : State) : Told k s (demand o c s) := by
  refine (demand_reported o c s).told fun hq hm => ?_
  unfold demand at hm
  by_cases h : (dsqDemand c s.dsq).drive = s.dsq.drive
  · rwa [moveDrive_stay o h] at hm
  · exact ((moveDrive_moved o h).pru.warnings k (.inr (entryIds_quiet hq _))).mp hm

theorem Flow.report_told (o : Sched) (later : List Taking) (j k : Cause) (n : Period) (f : Flow) :
    Told k f.state (Flow.report o later j n f).state := by
  unfold Flow.report
  split
  · exact judge_told ..
  · refine (judge_told j k n f.state).trans ?_
    unfold Flow.send
    split
    · exact .refl ..
    · exact demand_told ..

theorem Flow.arrive_told (o : Sched) (later : List Taking) (j k : Cause) (n : Period) (f : Flow) :
    Told k f.state (Flow.arrive o later f (.report j n)).state := by
  unfold Flow.arrive
  split
  · exact .refl ..
  · exact Flow.report_told ..

theorem Flow.post_told (o : Sched) (later : List Taking) (r : State × List Msg) (k : Cause) (f : Flow) :
    Told k (calmed r.2 r.1) (Flow.post o later r f).state := by
  rw [Flow.post_eq]
  refine Flow.foldl_kept (R := Told k) (.refl k) .trans _ (fun g m hm => ?_) { f with state := calmed r.2 r.1 }
  obtain ⟨-, j, n, rfl⟩ := mem_reportMsgs.mp hm
  exact Flow.arrive_told ..

/-- What is no report brings no kind into the warning set. -/
theorem calmed_warnings {ms : List Msg} {k : Cause} {s : State} (h : k ∈ (calmed ms s).pru.warnings) :
    k ∈ s.pru.warnings := by
  have hall : ∀ (l : List Msg), noReports l → ∀ u : State, k ∈ (raiseAll l u).pru.warnings → k ∈ u.pru.warnings := by
    intro l
    induction l with
    | nil => exact fun _ _ => id
    | cons m l ih =>
      intro hl u hm
      obtain ⟨hn, hl⟩ := noReports_cons hl
      have hm := ih hl (takeMild u m) hm
      cases m with
      | cond j b =>
        cases b
        · exact (List.mem_filter.mp hm).1
        · exact hm
      | report j n => cases hn
      | notice j st | capture x c => exact hm
  exact hall _ (calmMsgs_noReports ms) s h

theorem calmed_told (ms : List Msg) (k : Cause) (s : State) : Told k s (calmed ms s) where
  links := (calmed_carried ms s).links
  quiet := (calmed_carried ms s).set.quiet
  told _ hm := .inl (calmed_warnings hm)

/-- The warnings after the unit's taking of a period event. -/
theorem workStu_told (o : Sched) (n : Period) (t : Tick) (later : List Taking) (k : Cause) (f : Flow) :
    Told k f.state (workStu o n t later f).state := by
  have hwork : Told k f.state { f.state with stu := stuWork f.state.set (f.state.stuView n t) f.state.stu } :=
    ⟨.of_eq rfl, id, fun _ => .inl⟩
  have hposted : Told k (stuCalmed n t f.state) (stuPosted o n t later f).state := by
    rw [stuPosted_eq]
    exact Flow.post_told o later (stuDone n t f.state) k f
  refine (hwork.trans (calmed_told ..)).trans (hposted.trans ?_)
  rw [workStu_eq]
  refine Flow.foldl_kept (R := Told k) (.refl k) .trans (chanOrder o) (fun g i _ => ?_) _
  have hspeeds : Told k g.state (chanSpeeds i g.state).1 := ⟨.of_eq rfl, id, fun _ => .inl⟩
  exact hspeeds.trans ((calmed_told ..).trans (Flow.post_told o later (chanSpeeds i g.state) k g))

/-- THERMAL_HOT_x once the conditions are published: right where it has changed, or where it was right before. -/
theorem calmed_hotView {ms : List Msg} {s : State} {x : Side} {old new : Bool}
    (hmem : ∀ b, .cond (.thermalHot x) b ∈ ms ↔ b = new ∧ old ≠ new) (h : old ≠ new ∨ HotView x old s.pru) :
    HotView x new (calmed ms s).pru := by
  by_cases hne : old = new
  · subst hne
    have huntold : ∀ b, Msg.cond (.thermalHot x) b ∉ calmMsgs ms := fun b hm =>
      ((hmem b).mp (cond_mem_calmMsgs.mp hm)).2 rfl
    obtain ⟨hview, hwarned⟩ := h.resolve_left (not_not.mpr rfl)
    have hmono : .thermalHot x ∈ s.pru.view → .thermalHot x ∈ (calmed ms s).pru.view := fun hm =>
      raiseAll_view_mono (calmMsgs_noReports ms) (huntold false) hm
    refine ⟨⟨fun hm => hview.mp ?_, fun hb => hmono (hview.mpr hb)⟩, fun hm => hmono (hwarned (calmed_warnings hm))⟩
    by_contra hn
    exact (raiseAll_view_anti (calmMsgs_noReports ms) (huntold true)).1 hn hm
  · cases new with
    | false =>
      obtain ⟨hv, hw⟩ := calmed_leaves ((hmem false).mpr ⟨rfl, hne⟩) (fun hm => nomatch ((hmem true).mp hm).1) s
      exact ⟨⟨fun hm => absurd hm hv, fun h => nomatch h⟩, fun hm => absurd hm hw⟩
    | true =>
      have hv := calmed_joins ((hmem true).mpr ⟨rfl, hne⟩) (fun hm => nomatch ((hmem false).mp hm).1) s
      exact ⟨⟨fun _ => rfl, fun _ => hv⟩, fun _ => hv⟩

theorem stuCalmed_hot {n : Period} {t : Tick} {s : State} {x : Side} {w : Stu}
    (hw : w = stuWork s.set (s.stuView n t) s.stu)
    (h : (s.stu.motors.get x).hotCond ≠ (w.motors.get x).hotCond ∨ HotRight x s) : HotRight x (stuCalmed n t s) := by
  have hmem := fun b => cond_mem_stuSent (k := .thermalHot x) (b := b) (fun h => nomatch h) hw
  unfold HotRight
  rw [stuCalmed_stu, ← hw]
  exact calmed_hotView hmem h

theorem noChannel_thermalHot (x : Side) : noChannel (.thermalHot x) := ⟨(fun _ h => nomatch h), (fun _ h => nomatch h)⟩

theorem workStu_hot (o : Sched) {n : Period} {t : Tick} (later : List Taking) {f : Flow} {x : Side} {w : Stu}
    (hw : w = stuWork f.state.set (f.state.stuView n t) f.state.stu)
    (h : (f.state.stu.motors.get x).hotCond ≠ (w.motors.get x).hotCond ∨ HotRight x f.state) :
    HotRight x (workStu o n t later f).state :=
  (workStu_settles o n t later f).hot x (noChannel_thermalHot x) (stuCalmed_hot hw h)

/-! ### The record unit's entry -/

theorem pushEntry_last (e : Entry) (ring : List Entry) : (pushEntry e ring).getLast? = some e := by
  have hlt : ring.length + 1 - ringCapacity < (ring ++ [e]).length := by
    simp only [ringCapacity, List.length_append, List.length_singleton]
    omega
  rw [pushEntry, List.getLast?_drop, if_neg (Nat.not_le.mpr hlt), List.getLast?_append]
  rfl

theorem rcuPeriod_ring (e : Entry) (u : Rcu) : (rcuPeriod e u).1.ring = pushEntry e u.ring := by
  unfold rcuPeriod
  generalize pushEntry e u.ring = ring
  exact (rcuFill_ring e _).1

theorem workRcu_last (n : Period) (s : State) : (workRcu n s).rcu.ring.getLast? = some (s.entry n) := by
  have hring : (workRcu n s).rcu.ring = pushEntry (s.entry n) s.rcu.ring :=
    (congrArg (fun u : State => u.rcu.ring) (workRcu_eq n s).1 :).trans (rcuPeriod_ring ..)
  rw [hring, pushEntry_last]

/-! ### The mean speed, the tests and the trim -/

theorem stuChecks_speed (z : SetTable) (v : StuView) (u : Stu) (x : Side) :
    ((stuChecks z v u).motors.get x).speed = speedEstimate z v.instant (v.teeth.get x) :=
  (congrArg Motor.speed (stuChecks_motor z v u x) :)

/-- The trim of the period work (R88). -/
theorem PeriodWork.trimTaken {z : SetTable} {v : StuView} {u c r w : Stu} (h : PeriodWork z v u c r w) {ta tb : Nat}
    (ha : ta = v.means.a * z.kt / 16384) (hb : tb = v.means.b * z.kt / 16384) : w.trim =
      (if w.splitLimited = true ∨ v.convs.a ≠ .firing ∨ v.convs.b ≠ .firing ∨ w.td < 1638 then u.trim
       else max (-(z.trimLimit : Int)) (min (z.trimLimit : Int)
        (u.trim - Int.tdiv (((ta : Int) - ((ta + tb) * z.share / 256 : Nat)) * (z.trimGain : Int)) 256))) := by
  have herror : sharingError z v.means = (ta : Int) - ((ta + tb) * z.share / 256 : Nat) := by
    rw [sharingError, measuredTorque, measuredTorque, ← ha, ← hb]
  have hfrozen : trimFrozen v { w with trim := u.trim } = true ↔
      w.splitLimited = true ∨ v.convs.a ≠ .firing ∨ v.convs.b ≠ .firing ∨ w.td < 1638 := by
    have hfloor : ((trimFloor : Nat) : Int) = 1638 := rfl
    simp only [trimFrozen, hfloor, Bool.or_eq_true, decide_eq_true_eq, or_assoc]
  rw [h.trim, stuTrim_eq]
  dsimp only
  by_cases hf : trimFrozen v { w with trim := u.trim } = true
  · rw [if_pos hf, if_pos (hfrozen.mp hf)]
  · rw [if_neg hf, if_neg (mt hfrozen.mpr hf), clampInt_eq (by omega), herror]
    rfl

/-- The mean speed by the motors after the period work (R70). -/
theorem PeriodWork.mean {z : SetTable} {v : StuView} {u c r w : Stu} (h : PeriodWork z v u c r w) : w.s =
    (if w.motors.a.excluded then w.motors.b.speed else if w.motors.b.excluded then w.motors.a.speed
      else (w.motors.a.speed + w.motors.b.speed) / 2) := by
  obtain ⟨c', hc', hs, -⟩ := stuChecks_means z v u
  obtain rfl : c' = c := hc'.trans h.checks.symm
  have hspeed : ∀ x, (c'.motors.get x).speed = (w.motors.get x).speed := fun x => by
    rw [h.checks, stuChecks_speed, (h.motor x).speed]
  have hexcluded : ∀ x, (c'.motors.get x).excluded = (w.motors.get x).excluded := fun x => (h.motor x).excluded.symm
  have ha := hspeed .a
  have hb := hspeed .b
  have ea := hexcluded .a
  have eb := hexcluded .b
  simp only [Pair.get] at ha hb ea eb
  rw [h.speed, hs, ha, hb, ea, eb]

/-- Settles O13: the fields by `PeriodWork`, what is reported by `workStu_reports` and `workStu_hot`. -/
theorem speedChecksLossAndTrim : Obligations.SpeedChecksLossAndTrim := by
  refine ⟨fun z v u w ta tb hw ha hb => ?_, fun o n t later f s u w hs hset htaken hw hu => ?_,
    fun o n t later f s hs htaken => ?_⟩
  · obtain ⟨c, r, h⟩ := stuWork_stages z v u
    rw [← hw] at h
    obtain ⟨c', hc', -, hover, -⟩ := stuChecks_means z v u
    obtain rfl : c' = c := hc'.trans h.checks.symm
    refine ⟨h.mean, ?_, h.grace, h.trimTaken ha hb, fun hd => ?_, fun h1 h2 => ?_, h.pub⟩
    · rw [h.overspeedCond, hover, h.speed]
    · rw [h.lostCond, (drives_iff _).mpr hd, Bool.true_and, lossHolds]
    · have hd : drives v.drive = false := Bool.eq_false_iff.mpr fun hd => ((drives_iff _).mp hd).elim h1 h2
      rw [h.lostCond, hd, Bool.false_and]
  · subst hs
    have hz := settingsRight_full hset
    have hwork : u = (workStu o n t later f).state :=
      hu.trans (congrArg Flow.state (takePeriod_due (b := .stu) htaken o t later))
    obtain ⟨c, r, h⟩ := stuWork_stages f.state.set (f.state.stuView n t) f.state.stu
    rw [← hw] at h
    have hstu := workStu_stu o n t later f
    rw [← hw, ← hwork] at hstu
    have hreports := fun k => workStu_reports (k := k) o later hw
    have hclears := fun k => workStu_clears (k := k) o later hw
    rw [← hwork] at hreports hclears
    have hclass : ∀ k z, SetSteady f.state.set z → z.classInForce k = f.state.set.classInForce k :=
      fun k z hs => hs.classInForce hz k
    refine ⟨?_, ?_, ?_, fun hnew hold hc hl => ?_, fun hnew hold hl => ?_, fun hnew hold => ?_, fun h57 h58 x => ?_,
      fun x hview hwarned => ?_⟩
    · exact (congrArg Stu.periodTaken hstu.rest :).trans h.taken
    · exact (congrArg Stu.s hstu.rest :)
    · exact (congrArg Stu.pub hstu.rest :)
    · obtain ⟨hv, hlatch, -⟩ := hreports .overspeed ⟨(fun _ h => nomatch h), (fun _ h => nomatch h)⟩ (fun h => nomatch h)
        (.inl fun _ h => nomatch h) hold hnew
      exact ⟨hv, hlatch hl fun z hs => by rw [hclass _ z hs]; exact hc⟩
    · obtain ⟨hv, hlatch, -⟩ := hreports .converterLost ⟨(fun _ h => nomatch h), (fun _ h => nomatch h)⟩
        (fun h => nomatch h) (.inl fun _ h => nomatch h) hold hnew
      exact ⟨hv, hlatch hl fun z hs h => nomatch h⟩
    · exact hclears .converterLost ⟨(fun _ h => nomatch h), (fun _ h => nomatch h)⟩ (fun h => nomatch h)
        (.inl fun _ h => nomatch h) hold hnew
    · have hquiet : quietThermal f.state.set := fun i v hi hv => by
        rcases hi with rfl | rfl
        · rw [h57] at hv
          cases hv
        · rw [h58] at hv
          cases hv
      refine ⟨fun hnew hold => ?_, fun hnew hold => ?_⟩
      · obtain ⟨hv, -, hwarn⟩ := hreports (.thermalHot x) (noChannel_thermalHot x) (fun h => nomatch h) (.inr hquiet)
          hold hnew
        refine ⟨hv, fun hl => ?_⟩
        have hwarned := hwarn hl fun _ _ => rfl
        refine ⟨hwarned, fun hnot => ?_⟩
        have htold := workStu_told o n t later (.thermalHot x) f
        rw [← hwork] at htold
        exact (htold.told hquiet hwarned).resolve_left hnot
      · have hv := hclears (.thermalHot x) (noChannel_thermalHot x) (fun h => nomatch h) (.inr hquiet) hold hnew
        have hright : HotRight x u := hwork ▸ workStu_hot o later hw (.inl fun h => by
          rw [hold, hnew] at h
          cases h)
        exact ⟨hv, fun hm => hv (hright.warned hm)⟩
    · have hright : HotRight x u := hwork ▸ workStu_hot o later hw (.inr ⟨hview, hwarned⟩)
      exact ⟨hright.view, hright.warned⟩
  · subst hs
    refine ⟨f.state.entry n, ?_, rfl, rfl, rfl, rfl, rfl, rfl, rfl, rfl, rfl, rfl, rfl, rfl, rfl, rfl, rfl⟩
    rw [takePeriod_due (b := .rcu) htaken o t later]
    exact workRcu_last n f.state

end Sys2Proof.Machine
end

section
/-! The commands that are the speed and torque unit's taking of the coming period event (log entries 7 and 11), and
SPEED REF. -/

namespace Sys2Proof.Machine

/-! ### The taking ahead -/

theorem reports_of_mem {k : Cause} {n : Period} {ms : List Msg} (h : .report k n ∈ ms) : reports k ms = true :=
  List.any_eq_true.mpr ⟨_, h, decide_eq_true rfl⟩

/-- The flow with which a block takes the coming period event ahead. -/
def aheadFlow (s : State) (t : Tick) : Flow := { state := { s with now := t, issued := s.edgeNoted t }, mail := [] }

theorem aheadFlow_stu (s : State) (n : Period) (t : Tick) : stuSent n t (aheadFlow s t).state = stuSent n t s := rfl

/-- A command that is the unit's taking of the coming period event. -/
theorem stuAhead_eq {k : Cause} {s : State} {t : Tick} (hn : nextPeriodEvent s.msy = some t)
    (hb : s.stu.periodTaken ≠ s.msy.period + 1#32)
    (hk : .report k (s.msy.period + 1#32) ∈ stuSent (s.msy.period + 1#32) t s) (o : Sched) :
    takeAhead .stu o (stuReports k s) s = (workStu o (s.msy.period + 1#32) t [] (aheadFlow s t)).state :=
  takeAhead_due (b := .stu) hn hb (reports_of_mem hk) o

/-- What the taking leaves of the timebase and the units that it does not change. -/
theorem stuAhead_base (o : Sched) (n : Period) (t : Tick) (s : State) {u : State}
    (hu : u = (workStu o n t [] (aheadFlow s t)).state) : u.now = t ∧ u.msy = s.msy ∧ u.meu = s.meu := by
  have h := ((stuPosted_carried o n t [] (aheadFlow s t)).base).trans (workStu_carried o n t [] (aheadFlow s t)).base
  rw [← hu] at h
  exact ⟨h.now, h.msy, h.meu⟩

/-- The unit after the period work at the coming period event. -/
def aheadWork (s : State) (t : Tick) : Stu :=
  stuWork s.set (s.stuView (s.msy.period + 1#32) t) s.stu

theorem stuAhead_stu (o : Sched) (t : Tick) (s : State) :
    StuKept (aheadWork s t) (workStu o (s.msy.period + 1#32) t [] (aheadFlow s t)).state.stu :=
  workStu_stu o (s.msy.period + 1#32) t [] (aheadFlow s t)

/-- A condition that comes to hold at the coming period event (`workStu_reports`). -/
theorem stuAhead_reports (o : Sched) {t : Tick} {s : State} {k : Cause} (hk : noChannel k) (hb : k ≠ .breakawayFailed)
    (hhot : notHot k) (hold : stuCond s.stu k = false) (hnew : stuCond (aheadWork s t) k = true) {u : State}
    (hu : u = (workStu o (s.msy.period + 1#32) t [] (aheadFlow s t)).state) :
    .report k (s.msy.period + 1#32) ∈ stuSent (s.msy.period + 1#32) t s ∧ k ∈ u.pru.view ∧
    ((∀ z, SetSteady s.set z → z.classInForce k ≠ .w) → latchedActive k u.pru = true) ∧
    ((∀ z, SetSteady s.set z → z.classInForce k = .w) → k ∈ u.pru.warnings) := by
  have hreport := (report_mem_stuSent hb (w := aheadWork s t) rfl).mpr ⟨rfl, hold, hnew⟩
  obtain ⟨hv, hl, hw⟩ := workStu_reports o [] (f := aheadFlow s t) (w := aheadWork s t) rfl hk hb (.inl hhot) hold hnew
  rw [← hu] at hv hl hw
  exact ⟨hreport, hv, hl List.not_mem_nil, hw List.not_mem_nil⟩

/-! ### HOLD_EXPIRED -/

theorem holdMsgs_notice (n : Period) {old new : Stu} (ho : old.holdCond = false) (hn : new.holdCond = true) :
    .notice .holdExpired .c ∈ holdMsgs n old new := by
  simp [holdMsgs, ho, hn]

theorem mem_stuMsgs_hold {m : Msg} {n : Period} {old new : Stu} (h : m ∈ holdMsgs n old new) (failed : Bool) :
    m ∈ stuMsgs n failed old new := by
  simp only [stuMsgs, List.mem_append, h, or_true, true_or]

/-- A notice among the unit's messages has been raised (R199). -/
theorem workStu_noticed (o : Sched) {n : Period} {t : Tick} (later : List Taking) {f : Flow} {k : Notice} {st : Station}
    (h : .notice k st ∈ stuSent n t f.state) : k ∈ ((workStu o n t later f).state.links.get st).notices ∧
      ((workStu o n t later f).state.links.get st).attention = true := by
  have hl := (workStu_settles o n t later f).links st
  obtain ⟨hk, ha⟩ := calmed_noticed h { f.state with stu := stuWork f.state.set (f.state.stuView n t) f.state.stu }
  exact ⟨hl.notices _ hk, hl.attention ha⟩

theorem holdExpired_taken {s : State} {t : Tick} (hn : nextPeriodEvent s.msy = some t)
    (hb : s.stu.periodTaken ≠ s.msy.period + 1#32) (hd : s.dsq.drive = .starting ∨ s.dsq.drive = .run)
    (hhold : s.stu.hold = .running 1) (hcond : s.stu.holdCond = false) (o : Sched) :
    ∃ u, exec (.holdExpired o) s = .next u ∧ u.now = t ∧ u.stu.periodTaken = s.msy.period + 1#32 ∧
      u.stu.hold = .expired ∧ u.stu.holdCond = true ∧ u.stu.stationRef = s.stu.stationRef ∧
      .referenceHold ∈ u.pru.view ∧ .referenceHold ∈ u.pru.warnings ∧
      .holdExpired ∈ u.links.c.notices ∧ u.links.c.attention = true ∧ u.msy = s.msy ∧ u.meu = s.meu := by
  obtain ⟨c, r, h⟩ := stuWork_stages s.set (s.stuView (s.msy.period + 1#32) t) s.stu
  have hdrives : drives s.dsq.drive = true := (drives_iff _).mpr hd
  have hwhold : (aheadWork s t).hold = .expired := by
    rw [aheadWork, h.hold, hhold]
    exact holdNext_drives hdrives _
  have hwcond : (aheadWork s t).holdCond = true := by
    have hexpires : holdExpires s.dsq.drive s.stu.hold = true := by rw [hhold, holdExpires, hdrives]; rfl
    rw [aheadWork, h.holdCond]
    exact Bool.or_eq_true_iff.mpr (.inr hexpires)
  obtain ⟨hreport, hv, -, hw⟩ := stuAhead_reports o (k := .referenceHold) (t := t) (s := s)
    ⟨(fun _ h => nomatch h), (fun _ h => nomatch h)⟩ (fun h => nomatch h) (fun _ h => nomatch h) hcond hwcond rfl
  have hexec : exec (.holdExpired o) s = .next (workStu o (s.msy.period + 1#32) t [] (aheadFlow s t)).state :=
    congrArg Host.Outcome.next (stuAhead_eq hn hb hreport o)
  obtain ⟨hnow, hmsy, hmeu⟩ := stuAhead_base o (s.msy.period + 1#32) t s rfl
  have hstu := (stuAhead_stu o t s).rest
  have hnotice : .notice .holdExpired .c ∈ stuSent (s.msy.period + 1#32) t s :=
    mem_stuMsgs_hold (holdMsgs_notice (s.msy.period + 1#32) hcond hwcond) _
  obtain ⟨hk, ha⟩ := workStu_noticed o [] (f := aheadFlow s t) hnotice
  exact ⟨_, hexec, hnow, (congrArg Stu.periodTaken hstu :).trans h.taken, (congrArg Stu.hold hstu :).trans hwhold,
    (congrArg Stu.holdCond hstu :).trans hwcond, (congrArg Stu.stationRef hstu :).trans h.stationRef, hv,
    hw fun _ _ => rfl, hk, ha, hmsy, hmeu⟩

/-! ### SPEED_SENSOR_EXCLUDED -/

theorem exclusionTest_excludes {other : Nat} {d : Motor} (hs : d.speed = 0) (ho : 2048 ≤ other) (hc : d.exclCount = 49) :
    exclusionTest other d = { d with exclCount := 0, excluded := true, sensorCond := true } := by
  have h1 : (d.speed = 0 && decide (sensorSpeed ≤ other)) = true := by
    simp only [hs, decide_true, Bool.true_and, decide_eq_true_eq]
    exact ho
  have h2 : exclusionCount ≤ d.exclCount + 1 := by rw [hc]; decide
  unfold exclusionTest
  rw [if_pos h1, if_pos h2]

/-- A motor whose count stays below its end is not excluded by the test (R69). -/
theorem exclusionTest_keeps {other : Nat} {d : Motor} (h : d.speed ≠ 0 ∨ d.exclCount < 49) :
    (exclusionTest other d).excluded = d.excluded ∧ (exclusionTest other d).sensorCond = d.sensorCond := by
  unfold exclusionTest
  split
  · rename_i ht
    split
    · rename_i hc
      have hspeed : d.speed = 0 := by
        simp only [Bool.and_eq_true, decide_eq_true_eq] at ht
        exact ht.1
      have hlt := h.resolve_left (not_not.mpr hspeed)
      exact absurd hc (by simp only [exclusionCount]; omega)
    · exact ⟨rfl, rfl⟩
  · exact ⟨rfl, rfl⟩

/-- A motor after the checks, while no pinion is excluded. -/
theorem stuChecks_tested {z : SetTable} {v : StuView} {u : Stu} (ha : u.motors.a.excluded = false)
    (hb : u.motors.b.excluded = false) (x : Side) : (stuChecks z v u).motors.get x =
      exclusionTest (speedEstimate z v.instant (v.teeth.get (otherSide x)))
        { u.motors.get x with speed := speedEstimate z v.instant (v.teeth.get x) } := by
  rw [stuChecks_excluded, ha, hb]
  exact if_neg Bool.false_ne_true

/-- A pinion that runs, or whose count is not at its end, is not excluded by the checks (R69). -/
theorem stuChecks_stays {z : SetTable} {v : StuView} {u c : Stu} (hc : c = stuChecks z v u)
    (ha : u.motors.a.excluded = false) (hb : u.motors.b.excluded = false) {x : Side}
    (h : speedEstimate z v.instant (v.teeth.get x) ≠ 0 ∨ (u.motors.get x).exclCount < 49) :
    (c.motors.get x).excluded = false := by
  have hx : (u.motors.get x).excluded = false := by cases x; exacts [ha, hb]
  rw [hc, stuChecks_tested ha hb]
  exact (exclusionTest_keeps (d := { u.motors.get x with speed := speedEstimate z v.instant (v.teeth.get x) }) h).1.trans hx

theorem speedSensorExcluded_taken {x : Side} {s : State} {t : Tick} (hn : nextPeriodEvent s.msy = some t)
    (hb : s.stu.periodTaken ≠ s.msy.period + 1#32) (hea : s.stu.motors.a.excluded = false)
    (heb : s.stu.motors.b.excluded = false) (hzero : speedEstimate s.set t (s.meu.teeth.get x) = 0)
    (hother : 2048 ≤ speedEstimate s.set t (s.meu.teeth.get (otherSide x)))
    (hcount : (s.stu.motors.get x).exclCount = 49) (hcond : (s.stu.motors.get x).sensorCond = false) (o : Sched) :
    ∃ u, exec (.speedSensorExcluded x o) s = .next u ∧ u.now = t ∧ (u.stu.motors.get x).excluded = true ∧
      (u.stu.motors.get x).exclCount = 0 ∧ (u.stu.motors.get x).sensorCond = true ∧ (u.stu.motors.get x).speed = 0 ∧
      (u.stu.motors.get (otherSide x)).excluded = false ∧
      u.stu.s = speedEstimate s.set t (s.meu.teeth.get (otherSide x)) ∧
      .speedSensor x ∈ u.pru.view ∧ .speedSensor x ∈ u.pru.warnings ∧ u.msy = s.msy ∧ u.meu = s.meu := by
  obtain ⟨c, r, h⟩ := stuWork_stages s.set (s.stuView (s.msy.period + 1#32) t) s.stu
  change PeriodWork s.set (s.stuView (s.msy.period + 1#32) t) s.stu c r (aheadWork s t) at h
  have hc : c.motors.get x = { s.stu.motors.get x with
      speed := speedEstimate s.set t (s.meu.teeth.get x), exclCount := 0, excluded := true, sensorCond := true } := by
    rw [h.checks, stuChecks_tested hea heb]
    exact exclusionTest_excludes (d := { s.stu.motors.get x with speed := speedEstimate s.set t (s.meu.teeth.get x) })
      hzero hother hcount
  have hco : (c.motors.get (otherSide x)).excluded = false := by
    have hfast : speedEstimate s.set t (s.meu.teeth.get (otherSide x)) ≠ 0 := by omega
    exact stuChecks_stays h.checks hea heb (.inl hfast)
  have hmx := h.motor x
  have hmo := h.motor (otherSide x)
  have hmean : (aheadWork s t).s = speedEstimate s.set t (s.meu.teeth.get (otherSide x)) := by
    have hx : ((aheadWork s t).motors.get x).excluded = true := by rw [hmx.excluded, hc]
    have ho : ((aheadWork s t).motors.get (otherSide x)).excluded = false := hmo.excluded.trans hco
    have hspeed : ((aheadWork s t).motors.get (otherSide x)).speed =
        speedEstimate s.set t (s.meu.teeth.get (otherSide x)) := hmo.speed
    rw [h.mean, ← hspeed]
    cases x with
    | a => exact if_pos hx
    | b => exact (if_neg fun hb => Bool.false_ne_true (ho.symm.trans hb)).trans (if_pos hx)
  have hsensor : ((aheadWork s t).motors.get x).sensorCond = true := by rw [hmx.sensorCond, hc]
  obtain ⟨hreport, hv, -, hw⟩ := stuAhead_reports o (k := .speedSensor x) (t := t) (s := s)
    ⟨(fun _ h => nomatch h), (fun _ h => nomatch h)⟩ (fun h => nomatch h) (fun _ h => nomatch h) hcond hsensor rfl
  have hexec : exec (.speedSensorExcluded x o) s = .next (workStu o (s.msy.period + 1#32) t [] (aheadFlow s t)).state :=
    congrArg Host.Outcome.next (stuAhead_eq hn hb hreport o)
  obtain ⟨hnow, hmsy, hmeu⟩ := stuAhead_base o (s.msy.period + 1#32) t s rfl
  have hstu := stuAhead_stu o t s
  have hux := hstu.motor x
  have huo := hstu.motor (otherSide x)
  refine ⟨_, hexec, hnow, ?_, ?_, ?_, ?_, ?_, (congrArg Stu.s hstu.rest :).trans hmean, hv, hw fun _ _ => rfl, hmsy, hmeu⟩
  · exact (congrArg Motor.excluded hux :).trans (by rw [hmx.excluded, hc])
  · exact (congrArg Motor.exclCount hux :).trans (by rw [hmx.exclCount, hc])
  · exact (congrArg Motor.sensorCond hux :).trans hsensor
  · exact (congrArg Motor.speed hux :).trans (hmx.speed.trans hzero)
  · exact (congrArg Motor.excluded huo :).trans (hmo.excluded.trans hco)

/-! ### SPEED REF -/

theorem exec_speedRef {s : State} (hfree : (s.links.get .c).reply = none) (g : Byte) (v : BitVec 16) (t : Tick) (o : Sched) :
    exec (.speedRef .c g v t o) s = .next (replied .c .speedRef g (reqSpeedRef o v.toNat { s with now := t })) := by
  refine congrArg Host.Outcome.next (arrives_eq .speedRef hfree rfl rfl ?_ g)
  rw [← beNat_operand2 v]
  rfl

theorem reqSpeedRef_eq (o : Sched) (value : Nat) (s : State) : reqSpeedRef o value s =
    plain (raiseAll (condMsgs .referenceHold s.stu.periodTaken s.stu.holdCond false)
      { s with stu := { s.stu with stationRef := some value, hold := .running s.set.holdTime, holdCond := false } })
      (if s.set.speedMax < value then .clamped else .ok) := by
  have hcalm : noReports (condMsgs .referenceHold s.stu.periodTaken s.stu.holdCond false) := fun m hm => by
    rcases mem_condMsgs hm with ⟨rfl, -⟩ | ⟨-, -, h⟩
    · rfl
    · cases h
  rw [reqSpeedRef]
  exact congrArg (fun u => plain u _) (deliver_calm o hcalm _)

/-- Settles O16. -/
theorem referenceHoldAndSilentPinion : Obligations.ReferenceHoldAndSilentPinion := by
  refine ⟨⟨fun o s t hn hb hd hhold hcond => holdExpired_taken hn hb hd hhold hcond o,
    fun x o s t hn hb hea heb hzero hother hcount hcond =>
      speedSensorExcluded_taken hn hb hea heb hzero hother hcount hcond o⟩, fun g v t o s hfree => ?_⟩
  have hexec := exec_speedRef hfree g v t o
  rw [reqSpeedRef_eq] at hexec
  have hreply : ∀ u : State, replied .c .speedRef g (plain u (if s.set.speedMax < v.toNat then .clamped else .ok)) =
      startReply .c [0x10#8, g, if s.set.speedMax < v.toNat then 0x01#8 else 0x00#8] u := fun u => by
    split <;> rfl
  rw [hexec]
  refine ⟨fun hcond => ?_, fun hcond => ?_⟩
  · dsimp only
    rw [hcond]
    exact congrArg Host.Outcome.next (hreply _)
  · dsimp only
    rw [hcond]
    exact congrArg Host.Outcome.next (hreply _)

/-! ### PINION_MISMATCH -/

/-- The class setting of PINION_MISMATCH names no warning (R141). -/
theorem mismatchClass {z : SetTable} (h : settingsRight z = true) : z.classInForce .pinionMismatch ≠ .w := by
  have hfit := (settingsRight_iff z).mp h
  obtain ⟨v, hv⟩ : ∃ v, z.active[79]? = some v := ⟨_, List.getElem?_eq_getElem (by rw [hfit.activeLength]; decide)⟩
  have hrange := hfit.active (i := 79) rfl hv
  cases v with
  | code k =>
    have hk : k = 2 ∨ k = 3 := by simpa [valueInRange] using hrange
    rw [SetTable.classInForce, SetTable.num, hv]
    rcases hk with rfl | rfl <;> decide
  | num | profile | action => cases hrange

/-- The mean speed while no pinion is excluded, after the checks (R70). -/
theorem stuChecks_meanOf {z : SetTable} {v : StuView} {u c : Stu} (hc : c = stuChecks z v u)
    (ha : c.motors.a.excluded = false) (hb : c.motors.b.excluded = false) :
    c.s = (speedEstimate z v.instant v.teeth.a + speedEstimate z v.instant v.teeth.b) / 2 := by
  obtain ⟨c', hc', hs, -⟩ := stuChecks_means z v u
  obtain rfl : c' = c := hc'.trans hc.symm
  have hsa := stuChecks_speed z v u .a
  have hsb := stuChecks_speed z v u .b
  rw [← hc] at hsa hsb
  simp only [Pair.get] at hsa hsb
  rw [hs, ha, hb, hsa, hsb, if_neg Bool.false_ne_true, if_neg Bool.false_ne_true]

theorem pinionMismatch_taken {s : State} {t : Tick} {sa sb : Nat} (hset : settingsRight s.set = true)
    (hn : nextPeriodEvent s.msy = some t) (hb : s.stu.periodTaken ≠ s.msy.period + 1#32)
    (hea : s.stu.motors.a.excluded = false) (heb : s.stu.motors.b.excluded = false)
    (hsa : sa = speedEstimate s.set t s.meu.teeth.a) (hsb : sb = speedEstimate s.set t s.meu.teeth.b) (hpa : 0 < sa)
    (hpb : 0 < sb) (hapart : sa + s.set.mismatchTol < sb ∨ sb + s.set.mismatchTol < sa) (hfast : 2048 ≤ (sa + sb) / 2)
    (hcount : s.set.mismatchCount ≤ s.stu.mismatch + 1) (hcond : s.stu.mismatchCond = false) (o : Sched) :
    ∃ u, exec (.pinionMismatch o) s = .next u ∧ u.now = t ∧ u.stu.motors.a.speed = sa ∧ u.stu.motors.b.speed = sb ∧
      u.stu.s = (sa + sb) / 2 ∧ u.stu.mismatch = s.set.mismatchCount ∧ u.stu.mismatchCond = true ∧
      .pinionMismatch ∈ u.pru.view ∧ latchedActive .pinionMismatch u.pru = true ∧ u.msy = s.msy ∧ u.meu = s.meu := by
  obtain ⟨c, r, h⟩ := stuWork_stages s.set (s.stuView (s.msy.period + 1#32) t) s.stu
  change PeriodWork s.set (s.stuView (s.msy.period + 1#32) t) s.stu c r (aheadWork s t) at h
  have hspeed : ∀ x, (c.motors.get x).speed = speedEstimate s.set t (s.meu.teeth.get x) := fun x => by
    rw [h.checks]
    exact stuChecks_speed ..
  have hca : (c.motors.get .a).excluded = false :=
    stuChecks_stays h.checks hea heb (.inl (show speedEstimate s.set t s.meu.teeth.a ≠ 0 by omega))
  have hcb : (c.motors.get .b).excluded = false :=
    stuChecks_stays h.checks hea heb (.inl (show speedEstimate s.set t s.meu.teeth.b ≠ 0 by omega))
  have hca' : c.motors.a.speed = sa := (hspeed .a).trans hsa.symm
  have hcb' : c.motors.b.speed = sb := (hspeed .b).trans hsb.symm
  have hmean : c.s = (sa + sb) / 2 := by
    rw [stuChecks_meanOf h.checks hca hcb, hsa, hsb]
    rfl
  obtain ⟨c', hc', -, -, hmis, hmisCond⟩ := stuChecks_means s.set (s.stuView (s.msy.period + 1#32) t) s.stu
  obtain rfl : c' = c := hc'.trans h.checks.symm
  have hholds : mismatchHolds s.set c' = true := by
    have hgap : s.set.mismatchTol < gapOf sa sb := by
      rw [gapOf]
      omega
    have ha : c'.motors.a.excluded = false := hca
    have hb : c'.motors.b.excluded = false := hcb
    have hs : sensorSpeed ≤ (sa + sb) / 2 := hfast
    rw [mismatchHolds, hca', hcb', hmean, ha, hb, decide_eq_true hgap, decide_eq_true hs]
    decide
  have hwmis : (aheadWork s t).mismatch = s.set.mismatchCount := by
    rw [h.mismatch, hmis, mismatchNext, if_pos hholds, if_pos hcount]
  have hwcond : (aheadWork s t).mismatchCond = true := by
    rw [h.mismatchCond, hmisCond, hholds, decide_eq_true hcount, Bool.or_true, Bool.true_and]
  obtain ⟨hreport, hv, hl, -⟩ := stuAhead_reports o (k := .pinionMismatch) (t := t) (s := s)
    ⟨(fun _ h => nomatch h), (fun _ h => nomatch h)⟩ (fun h => nomatch h) (fun _ h => nomatch h) hcond hwcond rfl
  have hexec : exec (.pinionMismatch o) s = .next (workStu o (s.msy.period + 1#32) t [] (aheadFlow s t)).state :=
    congrArg Host.Outcome.next (stuAhead_eq hn hb hreport o)
  obtain ⟨hnow, hmsy, hmeu⟩ := stuAhead_base o (s.msy.period + 1#32) t s rfl
  have hstu := stuAhead_stu o t s
  have hclass : ∀ z, SetSteady s.set z → z.classInForce .pinionMismatch ≠ .w := fun z hz => by
    rw [hz.classInForce (settingsRight_full hset)]
    exact mismatchClass hset
  exact ⟨_, hexec, hnow, (congrArg Motor.speed (hstu.motor .a) :).trans ((h.motor .a).speed.trans hsa.symm),
    (congrArg Motor.speed (hstu.motor .b) :).trans ((h.motor .b).speed.trans hsb.symm),
    (congrArg Stu.s hstu.rest :).trans (h.speed.trans hmean), (congrArg Stu.mismatch hstu.rest :).trans hwmis,
    (congrArg Stu.mismatchCond hstu.rest :).trans hwcond, hv, hl hclass, hmsy, hmeu⟩

/-! ### STALL -/

theorem stall_taken {s : State} {t : Tick} {w : Stu} (hset : settingsRight s.set = true)
    (hn : nextPeriodEvent s.msy = some t) (hb : s.stu.periodTaken ≠ s.msy.period + 1#32) (hd : s.dsq.drive = .run)
    (hw : w = stuTorque s.set (s.stuView (s.msy.period + 1#32) t)
      (stuChecks s.set (s.stuView (s.msy.period + 1#32) t) s.stu))
    (htd : w.td = w.tenv) (hslow : w.s < s.set.stallSpeed) (hcount : s.set.stallCount ≤ s.stu.stall + 1)
    (hcond : s.stu.stallCond = false) (o : Sched) :
    ∃ u, exec (.stall o) s = .next u ∧ u.now = t ∧ u.stu.stall = s.set.stallCount ∧ u.stu.stallCond = true ∧
      .stall ∈ u.pru.view ∧ (s.set.classInForce .stall = .s → latchedActive .stall u.pru = true) ∧
      (s.set.classInForce .stall = .w → .stall ∈ u.pru.warnings) ∧ u.msy = s.msy ∧ u.meu = s.meu := by
  obtain ⟨c, r, h⟩ := stuWork_stages s.set (s.stuView (s.msy.period + 1#32) t) s.stu
  change PeriodWork s.set (s.stuView (s.msy.period + 1#32) t) s.stu c r (aheadWork s t) at h
  obtain ⟨q, hq, hwork⟩ := stuWork_tests s.set (s.stuView (s.msy.period + 1#32) t) s.stu
  change aheadWork s t = _ at hwork
  obtain rfl : q = w := hq.trans hw.symm
  have hholds : stallHolds s.set (s.stuView (s.msy.period + 1#32) t) (aheadWork s t) = true := by
    have h1 : (aheadWork s t).td = q.td := (congrArg Stu.td hwork :)
    have h2 : (aheadWork s t).tenv = q.tenv := (congrArg Stu.tenv hwork :)
    have h3 : (aheadWork s t).s = q.s := (congrArg Stu.s hwork :)
    have hdrive : (s.stuView (s.msy.period + 1#32) t).drive = .run := hd
    rw [stallHolds, h1, h2, h3, htd, hdrive]
    simpa using hslow
  have hwstall : (aheadWork s t).stall = s.set.stallCount := by rw [h.stall, if_pos hholds, if_pos hcount]
  have hwcond : (aheadWork s t).stallCond = true := by
    rw [h.stallCond, hholds, decide_eq_true hcount, Bool.or_true, Bool.true_and]
  obtain ⟨hreport, hv, hl, hwarn⟩ := stuAhead_reports o (k := .stall) (t := t) (s := s)
    ⟨(fun _ h => nomatch h), (fun _ h => nomatch h)⟩ (fun h => nomatch h) (fun _ h => nomatch h) hcond hwcond rfl
  have hexec : exec (.stall o) s = .next (workStu o (s.msy.period + 1#32) t [] (aheadFlow s t)).state :=
    congrArg Host.Outcome.next (stuAhead_eq hn hb hreport o)
  obtain ⟨hnow, hmsy, hmeu⟩ := stuAhead_base o (s.msy.period + 1#32) t s rfl
  have hstu := (stuAhead_stu o t s).rest
  have hclass : ∀ z, SetSteady s.set z → z.classInForce .stall = s.set.classInForce .stall := fun z hz =>
    hz.classInForce (settingsRight_full hset) _
  exact ⟨_, hexec, hnow, (congrArg Stu.stall hstu :).trans hwstall, (congrArg Stu.stallCond hstu :).trans hwcond, hv,
    fun hc => hl fun z hz => by rw [hclass z hz, hc]; decide, fun hc => hwarn fun z hz => (hclass z hz).trans hc, hmsy, hmeu⟩

/-! ### BREAKAWAY_FAILED -/

/-- A closed breakaway window stays closed. -/
structure StaysShut (s t : State) : Prop where
  shut : s.stu.window = none → t.stu.window = none

theorem StaysShut.refl (s : State) : StaysShut s s := ⟨id⟩

theorem StaysShut.trans {s t u : State} (h : StaysShut s t) (k : StaysShut t u) : StaysShut s u := ⟨k.shut ∘ h.shut⟩

theorem SameDrive.shut {s t : State} (h : SameDrive s t) : StaysShut s t := ⟨fun hw => by rw [h.stu]; exact hw⟩

theorem stuDrive_shut {u : Stu} (h : u.window = none) {new : Drive} (hn : new ≠ .starting) (z : SetTable) (level : Nat)
    (old : Drive) : (stuDrive z level old new u).window = none := by
  have hentry : (stuEntry old new u).window = none := by
    cases new <;> exact h
  unfold stuDrive
  rw [if_neg hn]
  split
  · unfold stuCloseWindow
    rw [hentry]
    exact hentry
  · exact hentry

theorem dsqDemand_starts (c : Class) (d : Dsq) (h : (dsqDemand c d).drive = .starting) : d.drive = .starting := by
  cases hd : d.drive <;> cases c <;> simp_all [dsqDemand, dsqTripped, dsqEnter]

theorem demand_shut (o : Sched) (c : Class) (s : State) : StaysShut s (demand o c s) where
  shut hw := by
    unfold demand
    by_cases h : (dsqDemand c s.dsq).drive = s.dsq.drive
    · rw [moveDrive_stay o h]
      exact hw
    · have hn : (dsqDemand c s.dsq).drive ≠ .starting := fun hs => h (hs.trans (dsqDemand_starts c _ hs).symm)
      generalize dsqDemand c s.dsq = d at h hn
      have hentry : ∀ (old : Drive) (u : State), u.stu.window = none → (setEntry old d.drive u).stu.window = none :=
        fun old u hu => (congrArg Stu.window (setEntry_handed old d.drive u).2.2.2.rest :).trans hu
      unfold moveDrive
      rw [if_neg h]
      split
      · rw [driveTold_stu, (setEntry_units ..).1]
        exact stuDrive_shut (hentry s.dsq.drive { s with dsq := d } hw) hn ..
      · refine hentry _ _ ?_
        rw [driveTold_stu]
        exact stuDrive_shut hw hn ..

theorem Flow.arrive_shut (o : Sched) (later : List Taking) (f : Flow) (m : Msg) :
    StaysShut f.state (Flow.arrive o later f m).state := by
  cases hm : reportKind m with
  | none =>
    rw [Flow.arrive_calm o later f hm]
    exact (takeMild_same ..).shut
  | some k =>
    unfold Flow.arrive
    split
    · exact .refl _
    · cases m with
      | report k n =>
        rw [Flow.take]
        unfold Flow.report
        split
        · exact (judge_same ..).shut
        · refine (judge_same k n f.state).shut.trans ?_
          unfold Flow.send
          split
          · exact .refl _
          · exact demand_shut ..
      | cond k b | notice k st | capture x c => cases hm

theorem workStu_shut (o : Sched) {n : Period} {t : Tick} (later : List Taking) {f : Flow}
    (h : (stuWork f.state.set (f.state.stuView n t) f.state.stu).window = none) :
    (workStu o n t later f).state.stu.window = none := by
  have hpost : ∀ (r : State × List Msg) (g : Flow), StaysShut r.1 (Flow.post o later r g).state := fun r g =>
    Flow.foldl_kept StaysShut.refl StaysShut.trans _ (fun e m _ => Flow.arrive_shut o later e m) { g with state := r.1 }
  have hposted : (stuPosted o n t later f).state.stu.window = none := by
    rw [stuPosted_eq]
    exact (hpost (stuDone n t f.state) f).shut h
  have hchans : StaysShut (stuPosted o n t later f).state (workStu o n t later f).state := by
    rw [workStu_eq]
    refine Flow.foldl_kept StaysShut.refl StaysShut.trans (chanOrder o) (fun g i _ => ?_) _
    have hspeeds : StaysShut g.state (chanSpeeds i g.state).1 := ⟨id⟩
    exact hspeeds.trans (hpost (chanSpeeds i g.state) g)
  exact hchans.shut hposted

/-- A condition last published as clear is not in the view. -/
theorem calmed_last {as bs : List Msg} {k : Cause} (h : ∀ b, .cond k b ∉ bs) (s : State) :
    k ∉ (calmed (as ++ .cond k false :: bs) s).pru.view := by
  have hms : calmMsgs (as ++ .cond k false :: bs) = calmMsgs as ++ calmMsgs (.cond k false :: bs) := List.filter_append ..
  rw [calmed, hms, raiseAll_append]
  refine (raiseAll_leaves (calmMsgs_noReports _) (cond_mem_calmMsgs.mpr List.mem_cons_self) (fun hm => ?_) _).1
  rcases List.mem_cons.mp (cond_mem_calmMsgs.mp hm) with hm | hm
  · cases hm
  · exact h true hm

/-- The messages around those of BREAKAWAY_FAILED. -/
theorem stuMsgs_failed (n : Period) (old new : Stu) : ∃ as bs, stuMsgs n true old new =
    as ++ .cond .breakawayFailed false :: bs ∧ .report .breakawayFailed n ∈ as ∧
      ∀ b, .cond .breakawayFailed b ∉ bs := by
  refine ⟨sensorMsgs n old new ++ condMsgs .pinionMismatch n old.mismatchCond new.mismatchCond ++
    condMsgs .overspeed n old.overspeedCond new.overspeedCond ++ hotMsgs n old new ++
    [.cond .breakawayFailed true, .report .breakawayFailed n],
    holdMsgs n old new ++ condMsgs .converterLost n old.lostCond new.lostCond ++
    condMsgs .stall n old.stallCond new.stallCond, ?_, by simp, fun b hm => ?_⟩
  · simp [stuMsgs, breakMsgs]
  · simp [holdMsgs, cond_mem_condMsgs] at hm

theorem breakawayFailed_taken {s : State} {t : Tick} {k sa sb : Nat} (hn : nextPeriodEvent s.msy = some t)
    (hb : s.stu.periodTaken ≠ s.msy.period + 1#32) (hea : s.stu.motors.a.excluded = false)
    (heb : s.stu.motors.b.excluded = false) (hca : s.stu.motors.a.exclCount < 49) (hcb : s.stu.motors.b.exclCount < 49)
    (hsa : sa = speedEstimate s.set t s.meu.teeth.a) (hsb : sb = speedEstimate s.set t s.meu.teeth.b)
    (hwindow : s.stu.window = some k) (hslow : (sa + sb) / 2 < s.set.breakSpeed) (hend : s.set.breakTime ≤ k + 1)
    (o : Sched) :
    ∃ u, exec (.breakawayFailed o) s = .next u ∧ u.now = t ∧ u.stu.s = (sa + sb) / 2 ∧ u.stu.window = none ∧
      latchedActive .breakawayFailed u.pru = true ∧ .breakawayFailed ∉ u.pru.view ∧ u.msy = s.msy ∧ u.meu = s.meu := by
  obtain ⟨c, r, h⟩ := stuWork_stages s.set (s.stuView (s.msy.period + 1#32) t) s.stu
  change PeriodWork s.set (s.stuView (s.msy.period + 1#32) t) s.stu c r (aheadWork s t) at h
  obtain ⟨c', hc', hcwindow, -⟩ := stuChecks_kept s.set (s.stuView (s.msy.period + 1#32) t) s.stu
  obtain rfl : c' = c := hc'.trans h.checks.symm
  have hmean : c'.s = (sa + sb) / 2 := by
    rw [stuChecks_meanOf h.checks (stuChecks_stays h.checks hea heb (x := .a) (.inr hca))
      (stuChecks_stays h.checks hea heb (x := .b) (.inr hcb)), hsa, hsb]
    rfl
  have hfails : breakFails s.set c' = true := by
    rw [hwindow] at hcwindow
    simp only [breakFails, hcwindow, hmean, decide_eq_true hslow, decide_eq_true hend, Bool.and_self]
  obtain ⟨as, bs, hms, hreport, hclear⟩ := stuMsgs_failed (s.msy.period + 1#32) s.stu (aheadWork s t)
  have hsent : stuSent (s.msy.period + 1#32) t s = as ++ .cond .breakawayFailed false :: bs := by
    rw [← hms, ← hfails, h.checks]
    rfl
  have hmem : .report .breakawayFailed (s.msy.period + 1#32) ∈ stuSent (s.msy.period + 1#32) t s := by
    rw [hsent]
    exact List.mem_append_left _ hreport
  have hexec : exec (.breakawayFailed o) s = .next (workStu o (s.msy.period + 1#32) t [] (aheadFlow s t)).state :=
    congrArg Host.Outcome.next (stuAhead_eq hn hb hmem o)
  obtain ⟨hnow, hmsy, hmeu⟩ := stuAhead_base o (s.msy.period + 1#32) t s rfl
  have hstu := (stuAhead_stu o t s).rest
  have hshut : (aheadWork s t).window = none := by
    rw [h.window, hwindow, hmean, windowNext, if_neg (Nat.not_le.mpr hslow), if_pos hend]
  have hkind : noChannel .breakawayFailed := ⟨(fun _ h => nomatch h), (fun _ h => nomatch h)⟩
  refine ⟨_, hexec, hnow, (congrArg Stu.s hstu :).trans (h.speed.trans hmean),
    workStu_shut o [] (f := aheadFlow s t) hshut, ?_, fun hm => ?_, hmsy, hmeu⟩
  · refine (workStu_carried o (s.msy.period + 1#32) t [] (aheadFlow s t)).pru.latched _ ?_
    rw [stuPosted_eq]
    exact Flow.post_latches o (r := stuDone (s.msy.period + 1#32) t (aheadFlow s t).state) hmem List.not_mem_nil
      (aheadFlow s t) fun z _ h => nomatch h
  · have hsettles := workStu_settles o (s.msy.period + 1#32) t [] (aheadFlow s t)
    have hview := (hsettles.pru.view .breakawayFailed ⟨hkind, .inl fun _ h => nomatch h⟩).mp hm
    have hcalmed : stuCalmed (s.msy.period + 1#32) t (aheadFlow s t).state =
        calmed (as ++ .cond .breakawayFailed false :: bs) { (aheadFlow s t).state with stu := aheadWork s t } := by
      rw [← hsent]
      rfl
    rw [hcalmed] at hview
    exact calmed_last hclear _ hview

/-- Settles O17. -/
theorem causesOfTheSpeedAndTorqueUnit : Obligations.CausesOfTheSpeedAndTorqueUnit :=
  ⟨fun o _ _ _ _ hset hn hb hea heb hsa hsb hpa hpb hapart hfast hcount hcond =>
    pinionMismatch_taken hset hn hb hea heb hsa hsb hpa hpb hapart hfast hcount hcond o,
   fun o _ _ _ _ _ hn hb hea heb hca hcb hsa hsb hwindow hslow hend =>
    breakawayFailed_taken hn hb hea heb hca hcb hsa hsb hwindow hslow hend o,
   fun o _ _ _ hset hn hb hd hw htd hslow hcount hcond => stall_taken hset hn hb hd hw htd hslow hcount hcond o⟩

end Sys2Proof.Machine
end

section
/-! The sequencer's taking of a period event (R122, R123, R125, R127, R135 to R137) and the measurement unit's (R27). -/

namespace Sys2Proof.Machine

/-! ### Conditions published without a report -/

theorem Flow.post_calm (o : Sched) (later : List Taking) {r : State × List Msg} (h : noReports r.2) (f : Flow) :
    Flow.post o later r f = { f with state := raiseAll r.2 r.1 } := by
  have hr : reportMsgs o r.2 = [] := List.eq_nil_iff_forall_not_mem.mpr fun m hm => by
    obtain ⟨hm, k, n, rfl⟩ := mem_reportMsgs.mp hm
    cases h _ hm
  have hc : calmMsgs r.2 = r.2 := List.filter_eq_self.mpr fun m hm => by simp [h m hm]
  rw [Flow.post_eq, hr, calmed, hc]
  rfl

/-- A condition that does not come to hold is published without a report: it leaves the view where it ends. -/
theorem raiseAll_ends {k : Cause} {n : Period} {old new : Bool} (h : new = true → old = true) (s : State) :
    noReports (condMsgs k n old new) ∧ raiseAll (condMsgs k n old new) s =
      { s with pru := if old && !new then pruCond k false s.pru else s.pru } := by
  cases old <;> cases new
  · exact ⟨(fun m hm => nomatch hm), rfl⟩
  · exact absurd (h rfl) Bool.false_ne_true
  · exact ⟨fun m hm => by rw [List.mem_singleton.mp hm]; rfl, rfl⟩
  · exact ⟨(fun m hm => nomatch hm), rfl⟩

/-! ### The sequencer's work -/

theorem decayClear_eq (v : DsqView) (d : Dsq) : decayClear v d = { d with decayCond := d.decayCond && !v.low } := by
  unfold decayClear
  split
  · rename_i h
    rw [h, Bool.not_true, Bool.and_false]
  · rename_i h
    rw [Bool.eq_false_iff.mpr h, Bool.not_false, Bool.and_true]

/-- The sequencer as the test of the drive state finds it, where no release wait is in progress (R137). -/
theorem dsqWork_free {z : SetTable} {v : DsqView} {d : Dsq} (h : d.wait = .none) : dsqWork z v d =
    driveStep z v { d with periodTaken := v.number, decayCond := d.decayCond && !v.low } := by
  have hwait : waitStep z v { d with periodTaken := v.number } = { d with periodTaken := v.number } := by
    unfold waitStep
    simp only [h]
  rw [dsqWork, hwait, decayClear_eq]

/-- The part once the sequencer has taken a period event, where nothing is reported: CURRENT_NOT_DECAYING leaves the
view where it ends (R137). -/
def dsqTaken (o : Sched) (e : Dsq) (s : State) : State :=
  { moveDrive o e s with pru :=
    if s.dsq.decayCond && !e.decayCond then pruCond .currentNotDecaying false (moveDrive o e s).pru
    else (moveDrive o e s).pru }

/-- The sequencer's taking of a period event that reports nothing. -/
theorem workDsq_quiet (o : Sched) {n : Period} (later : List Taking) {f : Flow} {e : Dsq}
    (he : dsqWork f.state.set (f.state.dsqView n) f.state.dsq = e)
    (hd : e.decayCond = true → f.state.dsq.decayCond = true) (hl : e.lossCond = f.state.dsq.lossCond) :
    Flow.post o later (workDsq o n f.state) f = { f with state := dsqTaken o e f.state } := by
  have hwork : workDsq o n f.state =
      (moveDrive o e f.state, condMsgs .currentNotDecaying n f.state.dsq.decayCond e.decayCond) := by
    have hmsgs : (workDsq o n f.state).2 = condMsgs .currentNotDecaying n f.state.dsq.decayCond e.decayCond ++
        condMsgs .mainsLoss n f.state.dsq.lossCond e.lossCond := by
      rw [← he]
      rfl
    have hstate : (workDsq o n f.state).1 = moveDrive o e f.state := by
      rw [← he]
      rfl
    rw [hl, condMsgs_same, List.append_nil] at hmsgs
    exact Prod.ext hstate hmsgs
  obtain ⟨hcalm, hraise⟩ := raiseAll_ends (k := .currentNotDecaying) (n := n) hd (moveDrive o e f.state)
  rw [hwork, Flow.post_calm o later hcalm, hraise]
  rfl

/-- Where the drive state stays, the sequencer alone changes, and the view where CURRENT_NOT_DECAYING ends. -/
theorem dsqTaken_stay (o : Sched) {e : Dsq} {s : State} (h : e.drive = s.dsq.drive) : dsqTaken o e s =
    { s with dsq := e, pru := if s.dsq.decayCond && !e.decayCond then pruCond .currentNotDecaying false s.pru else s.pru } := by
  rw [dsqTaken, moveDrive_stay o h]

theorem dsqTaken_driveView (o : Sched) (e : Dsq) (s : State) :
    (dsqTaken o e s).pru.driveView = (moveDrive o e s).pru.driveView := by
  unfold dsqTaken
  cases s.dsq.decayCond && !e.decayCond <;> rfl

/-! ### An entry from STOPPING or TRIP_STOP into a stopped state -/

theorem stuEntry_stopped {new : Drive} (h : stoppedState new = true) (old : Drive) (u : Stu) :
    stuEntry old new u = stuIdle u := by
  cases new <;> cases h <;> rfl

theorem loopRuns_stopped {d : Drive} (h : stoppedState d = true) : loopRuns d = false := by
  cases d <;> cases h <;> rfl

/-- An entry into a stopped state leaves neither reference nor demand (R76, R78). -/
theorem moveDrive_idles (o : Sched) {d : Dsq} {s : State} (hne : d.drive ≠ s.dsq.drive)
    (hd : stoppedState d.drive = true) (hs : s.dsq.drive ≠ .starting) : (moveDrive o d s).stu.rr = 0 ∧
      (moveDrive o d s).stu.td = 0 ∧ (moveDrive o d s).stu.motors.a.iref = 0 ∧ (moveDrive o d s).stu.motors.b.iref = 0 := by
  have hidle : ∀ (z : SetTable) (level : Nat) (u : Stu), stuDrive z level s.dsq.drive d.drive u = stuIdle u := by
    intro z level u
    unfold stuDrive
    have hn : d.drive ≠ .starting := fun h => by
      rw [h] at hd
      cases hd
    rw [if_neg hn, if_neg hs]
    exact stuEntry_stopped hd ..
  unfold moveDrive
  rw [if_neg hne]
  split
  · rw [driveTold_stu, (setEntry_units ..).1, hidle]
    exact ⟨rfl, rfl, rfl, rfl⟩
  · have htold : (driveTold s.dsq { s with dsq := d }).stu = stuIdle s.stu := by
      rw [driveTold_stu]
      exact hidle ..
    have hfit : TorqueFit d.drive (driveTold s.dsq { s with dsq := d }).stu := by
      rw [htold]
      exact stuIdle_fit ..
    obtain ⟨htd, ha, hb⟩ := (setEntry_torque d.drive hfit).idle (loopRuns_stopped hd)
    have hrr := (setEntry_handed d.drive d.drive (driveTold s.dsq { s with dsq := d })).2.2.2.rest
    refine ⟨(congrArg Stu.rr hrr :).trans ?_, htd, ha, hb⟩
    rw [htold]
    rfl

/-! ### STARTING, STOPPING and TRIP_STOP -/

/-- In STARTING, STOPPING and TRIP_STOP the drive state's test leaves the conditions (R123, R125). -/
theorem driveStep_conds {z : SetTable} {v : DsqView} {d : Dsq}
    (h : d.drive = .starting ∨ d.drive = .stopping ∨ d.drive = .tripStop) :
    (driveStep z v d).decayCond = d.decayCond ∧ (driveStep z v d).lossCond = d.lossCond := by
  unfold driveStep
  rcases h with h | h | h <;> simp only [h] <;> split <;> exact ⟨rfl, rfl⟩

theorem driveStep_starting {z : SetTable} {v : DsqView} {d : Dsq} (h : d.drive = .starting) :
    driveStep z v d = if z.breakSpeed ≤ v.s then dsqEnter .run d else d := by
  simp only [driveStep, h]

theorem driveStep_stopping {z : SetTable} {v : DsqView} {d : Dsq} (h : d.drive = .stopping ∨ d.drive = .tripStop) :
    driveStep z v d =
      if v.s ≤ z.stopSpeed then dsqEnter (if d.drive = .stopping then .blocked else .tripped) d else d := by
  rcases h with h | h
  · simp only [driveStep, h, if_true]
  · simp only [driveStep, h, reduceCtorEq, if_false]

/-- The sequencer as its test of the drive state finds it at the period event `n`, with no release wait in progress. -/
def dsqFound (n : Period) (s : State) : Dsq :=
  { s.dsq with periodTaken := n, decayCond := s.dsq.decayCond && !(s.dsqView n).low }

/-- The sequencer's taking of a period event in STARTING, STOPPING or TRIP_STOP: it sends neither report nor demand. -/
theorem workDsq_moving (o : Sched) {n : Period} (later : List Taking) {f : Flow} (hw : f.state.dsq.wait = .none)
    (h : f.state.dsq.drive = .starting ∨ f.state.dsq.drive = .stopping ∨ f.state.dsq.drive = .tripStop) :
    Flow.post o later (workDsq o n f.state) f =
      ⟨dsqTaken o (driveStep f.state.set (f.state.dsqView n) (dsqFound n f.state)) f.state, f.mail⟩ := by
  obtain ⟨hdecay, hloss⟩ := driveStep_conds (z := f.state.set) (v := f.state.dsqView n) (d := dsqFound n f.state) h
  refine workDsq_quiet o later (dsqWork_free hw) (fun hd => ?_) hloss
  rw [hdecay] at hd
  exact (Bool.and_eq_true_iff.mp hd).1

theorem dsqEnter_run {d : Dsq} (h : d.enable = true) : dsqEnter .run d = { d with drive := .run, coast := .stopped } :=
  congrArg (fun b : Bool => ({ d with drive := .run, enable := b, coast := .stopped } : Dsq)) h.symm

theorem dsqEnter_waits {d : Dsq} {new : Drive} (hn : new = .blocked ∨ new = .tripped) (hc : d.contactor = true)
    (hw : d.wait = .none) :
    dsqEnter new d = { d with drive := new, enable := false, coast := .stopped, wait := .zeroWait 0 } := by
  have hwait : waitAtEntry new d = .zeroWait 0 := by
    rcases hn with rfl | rfl <;> simp [waitAtEntry, hc, hw]
  unfold dsqEnter
  rw [hwait]
  rcases hn with rfl | rfl <;> rfl

theorem dsqTaken_blocks (o : Sched) (e : Dsq) (s : State) : ∃ p, dsqTaken o e s = { moveDrive o e s with pru := p } ∧
    p.driveView = (moveDrive o e s).pru.driveView :=
  ⟨_, rfl, dsqTaken_driveView o e s⟩

/-- STARTING enters RUN: the window closes, the ramped reference stays (R81, R123). -/
theorem dsqTaken_run (o : Sched) {e : Dsq} {s : State} (hd : s.dsq.drive = .starting) (he : e.drive = .run)
    (hen : e.enable = s.dsq.enable) {u : State} (hu : u = dsqTaken o e s) :
    u.dsq = e ∧ u.stu.window = none ∧ u.stu.rr = s.stu.rr ∧ u.pru.driveView = .run ∧ u.rcu.driveView = .run ∧
      u.set.driveView = .run ∧ u.cca = s.cca ∧ u.ccb = s.ccb ∧ .driveState ∈ u.links.c.notices ∧
      .driveState ∈ u.links.p.notices := by
  have hne : e.drive ≠ s.dsq.drive := by
    rw [he, hd]
    decide
  obtain ⟨p, hp, hview⟩ := dsqTaken_blocks o e s
  rw [moveDrive_quiet o hne (quietEntry_running (by rw [he]; rfl) _)] at hp hview
  have hq := quietMove_eq e s
  have hstu : (quietMove e s).stu = stuCloseWindow s.set s.vwa.level .run { s.stu with grace := s.stu.grace || false } := by
    rw [hq]
    change stuDrive s.set s.vwa.level s.dsq.drive e.drive s.stu = _
    rw [he, hd]
    rfl
  have hclose : ∀ u : Stu, (stuCloseWindow s.set s.vwa.level .run u).window = none ∧
      (stuCloseWindow s.set s.vwa.level .run u).rr = u.rr := fun u => by
    unfold stuCloseWindow
    cases hw : u.window with
    | none => exact ⟨hw, rfl⟩
    | some k =>
      have hrest := (stuReform_hand s.set s.vwa.level .run { u with window := none }).rest
      exact ⟨(congrArg Stu.window hrest :), (congrArg Stu.rr hrest :)⟩
  have hconv : ∀ c, convTakeEnable s.dsq.enable e.enable s.msy.sync c = c := fun c => by
    rw [hen]
    exact convTakeEnable_same ..
  have hnotice := fun k (hk : k ≠ Station.m) => (quietMove_noticed e s hk).1
  rw [hu, hp]
  dsimp only
  rw [hstu, hview]
  refine ⟨?_, (hclose _).1, (hclose _).2, ?_, ?_, ?_, ?_, ?_, hnotice .c (by decide), hnotice .p (by decide)⟩
  · rw [hq]
  · rw [hq]
    exact he
  · rw [hq]
    exact he
  · rw [hq]
    exact he
  · rw [hq]
    exact hconv _
  · rw [hq]
    exact hconv _

/-- STOPPING and TRIP_STOP end: the enable is withdrawn (R41, R76, R78, R125). -/
theorem dsqTaken_stopped (o : Sched) {e : Dsq} {s : State} (hd : s.dsq.drive = .stopping ∨ s.dsq.drive = .tripStop)
    (he : stoppedState e.drive = true) (hold : s.dsq.enable = true) (hnew : e.enable = false) {u : State}
    (hu : u = dsqTaken o e s) : u.dsq = e ∧
      (∀ x : Side, (s.conv x).state = .firing → (u.conv x).state = .retard ∧ (u.conv x).retardCount = 0) ∧
      u.stu.rr = 0 ∧ u.stu.td = 0 ∧ u.stu.motors.a.iref = 0 ∧ u.stu.motors.b.iref = 0 ∧
      .driveState ∈ u.links.c.notices ∧ .driveState ∈ u.links.p.notices := by
  have hne : e.drive ≠ s.dsq.drive := fun h => by
    rw [h] at he
    rcases hd with hd | hd <;> rw [hd] at he <;> cases he
  have hs : s.dsq.drive ≠ .starting := fun h => by rcases hd with hd | hd <;> rw [hd] at h <;> cases h
  obtain ⟨hrr, htd, ha, hb⟩ := moveDrive_idles o hne he hs
  have hmoved := moveDrive_moved o hne
  obtain ⟨p, hp, -⟩ := dsqTaken_blocks o e s
  rw [hu, hp]
  refine ⟨hmoved.dsq, fun x hx => ?_, hrr, htd, ha, hb, (hmoved.noticed .c (by decide)).1, (hmoved.noticed .p (by decide)).1⟩
  have hconv : ({ moveDrive o e s with pru := p } : State).conv x = (moveDrive o e s).conv x := by cases x <;> rfl
  have hretard : convTakeEnable s.dsq.enable e.enable s.msy.sync (s.conv x) =
      { s.conv x with state := .retard, retardCount := 0 } := by
    rw [hold, hnew, convTakeEnable, if_neg (by decide), if_neg Bool.false_ne_true, convDisable]
    simp only [hx]
  rw [hconv, hmoved.conv x, hretard, convHand]
  split <;> exact ⟨rfl, rfl⟩

/-- Settles O14. -/
theorem driveStatesMoveAtThePeriodEvent : Obligations.DriveStatesMoveAtThePeriodEvent := by
  refine ⟨fun o n t later f s d hs htaken hw hd => ?_, fun o n t later f x d htaken hd => ?_⟩
  · subst hs
    have hfound : dsqFound n f.state = d := hd.symm
    have hdrive : d.drive = f.state.dsq.drive := by rw [hd]
    have hwork : takePeriod o n t .dsq later f = Flow.post o later (workDsq o n f.state) f :=
      takePeriod_due (b := .dsq) htaken o t later
    refine ⟨_, rfl, fun h => ?_, fun h hbreak hen => ?_, fun h => ?_, fun h hstop hc hen => ?_⟩
    · rw [hwork, workDsq_moving o later hw h]
    · have henable : d.enable = true := by rw [hd]; exact hen
      have hruns : driveStep f.state.set (f.state.dsqView n) d = { d with drive := .run, coast := .stopped } :=
        ((driveStep_starting (hdrive.trans h)).trans (if_pos hbreak)).trans (dsqEnter_run henable)
      rw [hwork, workDsq_moving o later hw (.inl h), hfound, hruns]
      exact dsqTaken_run o (e := { d with drive := .run, coast := .stopped }) h rfl (henable.trans hen.symm) rfl
    · have hstays : driveStep f.state.set (f.state.dsqView n) d = d := by
        rcases h with ⟨h, hslow⟩ | ⟨h, hfast⟩
        · exact (driveStep_starting (hdrive.trans h)).trans (if_neg (Nat.not_le.mpr hslow))
        · exact (driveStep_stopping (by rw [hdrive]; exact h)).trans (if_neg (Nat.not_le.mpr hfast))
      have hmoving : f.state.dsq.drive = .starting ∨ f.state.dsq.drive = .stopping ∨ f.state.dsq.drive = .tripStop :=
        h.imp (·.1) (·.1)
      rw [hwork, workDsq_moving o later hw hmoving, hfound, hstays, dsqTaken_stay o hdrive]
      exact ⟨rfl, rfl⟩
    · have hdd : d.drive = .stopping ∨ d.drive = .tripStop := hdrive ▸ h
      have hnew : (if d.drive = .stopping then Drive.blocked else .tripped) = .blocked ∨
          (if d.drive = .stopping then Drive.blocked else .tripped) = .tripped := by split <;> simp
      have hends : driveStep f.state.set (f.state.dsqView n) d = _ :=
        ((driveStep_stopping hdd).trans (if_pos hstop)).trans
          (dsqEnter_waits hnew (by rw [hd]; exact hc) (by rw [hd]; exact hw))
      rw [hwork, workDsq_moving o later hw (.inr h), hfound, hends, hdrive]
      refine dsqTaken_stopped o h ?_ hen rfl rfl
      dsimp only
      split <;> rfl
  · rw [takePeriod_due (b := .meu) htaken o t later, hd]
    cases x <;> exact ⟨rfl, rfl⟩

end Sys2Proof.Machine
end

section
/-! The sequencer's timers as they go on and run out (R122, R127, R135 to R137). -/

namespace Sys2Proof.Machine

/-! ### The release wait -/

/-- The release wait where it goes on, with the sequencer as it finds it (R135, R136, R137). -/
def WaitGoesOn (z : SetTable) (off low : Bool) (d : Dsq) (w : ReleaseWait) : Prop :=
  (∃ k, d.wait = .zeroWait k ∧ off = false ∧ w = .zeroWait 0) ∨
  (∃ k, d.wait = .zeroWait k ∧ off = true ∧ low = true ∧ 0 < z.releaseDelay ∧ w = .delay 0 k) ∨
  (∃ k, d.wait = .zeroWait k ∧ off = true ∧ low = false ∧ k + 1 < z.decayTime ∧ w = .zeroWait (k + 1)) ∨
  (∃ k, d.wait = .zeroWait k ∧ off = true ∧ low = false ∧ z.decayTime ≤ k + 1 ∧ d.decayCond = true ∧
    w = .zeroWait z.decayTime) ∨
  (∃ c k, d.wait = .delay c k ∧ low = false ∧ w = .zeroWait k) ∨
  (∃ c k, d.wait = .delay c k ∧ low = true ∧ c + 1 < z.releaseDelay ∧ w = .delay (c + 1) k)

theorem waitStep_goesOn {z : SetTable} {v : DsqView} {d : Dsq} {w : ReleaseWait} (h : WaitGoesOn z v.off v.low d w) :
    waitStep z v d = { d with wait := w } := by
  rcases h with ⟨k, hw, hoff, rfl⟩ | ⟨k, hw, hoff, hlow, hz, rfl⟩ | ⟨k, hw, hoff, hlow, hz, rfl⟩ |
      ⟨k, hw, hoff, hlow, hz, hc, rfl⟩ | ⟨c, k, hw, hlow, rfl⟩ | ⟨c, k, hw, hlow, hz, rfl⟩
  · simp only [waitStep, hw, hoff, Bool.not_false, if_true]
  · have hdelay : z.releaseDelay ≠ 0 := by omega
    simp only [waitStep, hw, hoff, hlow, Bool.not_true, Bool.false_eq_true, if_false, if_true, hdelay]
  · have hdecay : ¬ z.decayTime ≤ k + 1 := by omega
    simp only [waitStep, hw, hoff, hlow, Bool.not_true, Bool.false_eq_true, if_false, hdecay]
  · simp only [waitStep, hw, hoff, hlow, Bool.not_true, Bool.false_eq_true, if_false, hz, if_true]
    rw [← hc]
  · simp only [waitStep, hw, hlow, Bool.not_false, if_true]
  · have hdelay : ¬ z.releaseDelay ≤ c + 1 := by omega
    simp only [waitStep, hw, hlow, Bool.not_true, Bool.false_eq_true, if_false, hdelay]

/-- The release wait ends (R135, R136). -/
theorem waitStep_ends {z : SetTable} {v : DsqView} {d : Dsq} {k : Nat} (hlow : v.low = true)
    (h : (d.wait = .zeroWait k ∧ v.off = true ∧ z.releaseDelay = 0) ∨ ∃ c, d.wait = .delay c k ∧ z.releaseDelay ≤ c + 1) :
    waitStep z v d = { d with contactor := false, wait := .none } := by
  rcases h with ⟨hw, hoff, hz⟩ | ⟨c, hw, hz⟩
  · simp only [waitStep, hw, hoff, hlow, Bool.not_true, Bool.false_eq_true, if_false, if_true, hz]
  · simp only [waitStep, hw, hlow, Bool.not_true, Bool.false_eq_true, if_false, hz, if_true]

/-- The decay count reaches its setting (R137). -/
theorem waitStep_decays {z : SetTable} {v : DsqView} {d : Dsq} {k : Nat} (hlow : v.low = false) (hoff : v.off = true)
    (hw : d.wait = .zeroWait k) (hz : z.decayTime ≤ k + 1) :
    waitStep z v d = { d with wait := .zeroWait z.decayTime, decayCond := true } := by
  simp only [waitStep, hw, hoff, hlow, Bool.not_true, Bool.false_eq_true, if_false, hz, if_true]

/-- In BLOCKED and TRIPPED the release wait is all of the sequencer's work. -/
theorem driveStep_stopped {z : SetTable} {v : DsqView} {d : Dsq} (h : d.drive = .blocked ∨ d.drive = .tripped) :
    driveStep z v d = d := by
  rcases h with h | h <;> simp only [driveStep, h]

/-- The sequencer's work in BLOCKED and TRIPPED, with the sequencer `e` as the release wait leaves it. -/
theorem dsqWork_waits {z : SetTable} {v : DsqView} {d e : Dsq} (h : d.drive = .blocked ∨ d.drive = .tripped)
    (he : waitStep z v { d with periodTaken := v.number } = e) (hd : e.drive = d.drive) :
    dsqWork z v d = { e with decayCond := e.decayCond && !v.low } := by
  rw [dsqWork, he, decayClear_eq]
  exact driveStep_stopped (hd ▸ h)

/-! ### A taking at which the drive state stays -/

theorem pruCond_clears (k : Cause) (p : Pru) : k ∉ (pruCond k false p).view := by
  simp [pruCond]

/-- The sequencer's taking of a period event that leaves the drive state and reports nothing. -/
theorem takePeriod_dsq_stays (o : Sched) {n : Period} (t : Tick) (later : List Taking) {f : Flow} {e : Dsq} {low : Bool}
    (hb : f.state.dsq.periodTaken ≠ n) (he : dsqWork f.state.set (f.state.dsqView n) f.state.dsq = e)
    (hd : e.drive = f.state.dsq.drive) (hdecay : e.decayCond = (f.state.dsq.decayCond && !low))
    (hl : e.lossCond = f.state.dsq.lossCond) : takePeriod o n t .dsq later f =
      ⟨{ f.state with
          dsq := e,
          pru := if f.state.dsq.decayCond && low then pruCond .currentNotDecaying false f.state.pru else f.state.pru },
       f.mail⟩ := by
  have hquiet := workDsq_quiet o later he (fun h => by
    rw [hdecay] at h
    exact (Bool.and_eq_true_iff.mp h).1) hl
  have hends : (f.state.dsq.decayCond && !e.decayCond) = (f.state.dsq.decayCond && low) := by
    rw [hdecay]
    cases f.state.dsq.decayCond <;> cases low <;> rfl
  rw [dsqTaken_stay o hd, hends] at hquiet
  exact (takePeriod_due (b := .dsq) hb o t later).trans hquiet

/-- CONTACTOR_RELEASE: the release wait ends (R135, R136). -/
theorem contactorRelease_taken (o : Sched) {s : State} {t : Tick} {k : Nat} (hn : nextPeriodEvent s.msy = some t)
    (hb : s.dsq.periodTaken ≠ s.msy.period + 1#32) (hd : s.dsq.drive = .blocked ∨ s.dsq.drive = .tripped)
    (hc : s.dsq.contactor = true) (hlow : (s.dsqView (s.msy.period + 1#32)).low = true)
    (hw : (s.dsq.wait = .zeroWait k ∧ (s.dsqView (s.msy.period + 1#32)).off = true ∧ s.set.releaseDelay = 0) ∨
      ∃ c, s.dsq.wait = .delay c k ∧ s.set.releaseDelay ≤ c + 1) :
    ∃ u, exec (.contactorRelease o) s = .next u ∧
      u.dsq = { s.dsq with contactor := false, wait := .none, decayCond := false, periodTaken := s.msy.period + 1#32 } ∧
      { u with dsq := s.dsq, pru := s.pru } = { s with now := t, issued := s.edgeNoted t } := by
  have hwait : dsqWork s.set (s.dsqView (s.msy.period + 1#32)) s.dsq = { s.dsq with
      contactor := false, wait := .none, decayCond := s.dsq.decayCond && !true, periodTaken := s.msy.period + 1#32 } := by
    have hends := dsqWork_waits (d := s.dsq) hd
      (waitStep_ends (d := { s.dsq with periodTaken := s.msy.period + 1#32 }) hlow hw) rfl
    rwa [hlow] at hends
  have hdue : (s.dsq.contactor && !(dsqWork s.set (s.dsqView (s.msy.period + 1#32)) s.dsq).contactor) = true := by
    rw [hwait, hc]
    rfl
  have hexec : exec (.contactorRelease o) s = .next
      (takePeriod o (s.msy.period + 1#32) t .dsq [] (aheadFlow s t)).state := by
    have hahead := takeAhead_due (b := .dsq) (due := fun n _ => s.dsq.contactor &&
      !(dsqWork s.set (s.dsqView n) s.dsq).contactor) hn hb hdue o
    rw [takePeriod_due (b := .dsq) (f := aheadFlow s t) hb]
    exact congrArg Host.Outcome.next hahead
  have htaken := takePeriod_dsq_stays o t [] (f := aheadFlow s t) hb hwait rfl rfl rfl
  rw [htaken] at hexec
  exact ⟨_, hexec, by rw [Bool.not_true, Bool.and_false], rfl⟩

/-! ### A taking that reports one cause -/

theorem takeMild_episode (s : State) (m : Msg) : SameEpisode s.pru (takeMild s m).pru := by
  cases m with
  | cond k b => exact pruCond_episode k b s.pru
  | notice k st => exact .refl _
  | capture x c => exact .refl _
  | report k n => exact (takeWarning_unopened k s).episode

/-- Messages other than reports leave the episode. -/
theorem calmed_episode (ms : List Msg) (s : State) : SameEpisode s.pru (calmed ms s).pru := by
  unfold calmed raiseAll
  generalize calmMsgs ms = l
  induction l generalizing s with
  | nil => exact .refl _
  | cons m l ih => exact (takeMild_episode s m).trans (ih _)

/-- The sequencer takes the coming period event ahead and reports `k`, of a class other than W: the report is taken
with the others' messages before it. -/
theorem dsqAhead_reports (o : Sched) {s : State} {t : Tick} {e : Dsq} {ms : List Msg} {k : Cause}
    (hn : nextPeriodEvent s.msy = some t) (hb : s.dsq.periodTaken ≠ s.msy.period + 1#32)
    (he : dsqWork s.set (s.dsqView (s.msy.period + 1#32)) s.dsq = e) (hd : e.drive = s.dsq.drive)
    (hms : condMsgs .currentNotDecaying (s.msy.period + 1#32) s.dsq.decayCond e.decayCond ++
      condMsgs .mainsLoss (s.msy.period + 1#32) s.dsq.lossCond e.lossCond = ms)
    (hk : ms.filter (fun m => (reportKind m).isSome) = [.report k (s.msy.period + 1#32)]) :
    takeAhead .dsq o (fun n _ => dsqReports k s n) s =
      takeReport o k (s.msy.period + 1#32) (calmed ms { s with now := t, issued := s.edgeNoted t, dsq := e }) := by
  have hwork : workDsq o (s.msy.period + 1#32) { s with now := t, issued := s.edgeNoted t } =
      ({ s with now := t, issued := s.edgeNoted t, dsq := e }, ms) := by
    have hperiod : dsqPeriod s.set (s.dsqView (s.msy.period + 1#32)) s.dsq = (e, ms) := by
      rw [dsqPeriod, he]
      exact Prod.ext rfl hms
    have hmove : moveDrive o e { s with now := t, issued := s.edgeNoted t } =
        { s with now := t, issued := s.edgeNoted t, dsq := e } := moveDrive_stay o hd
    have hw : workDsq o (s.msy.period + 1#32) { s with now := t, issued := s.edgeNoted t } =
        (moveDrive o (dsqPeriod s.set (s.dsqView (s.msy.period + 1#32)) s.dsq).1 { s with now := t, issued := s.edgeNoted t },
         (dsqPeriod s.set (s.dsqView (s.msy.period + 1#32)) s.dsq).2) := rfl
    rw [hw, hperiod, hmove]
  have hdue : dsqReports k s (s.msy.period + 1#32) = true := by
    have hmem : .report k (s.msy.period + 1#32) ∈ ms := List.mem_of_mem_filter (hk ▸ List.mem_singleton_self _)
    rw [← hms, ← he] at hmem
    exact reports_of_mem hmem
  have hone : reportMsgs o ms = [.report k (s.msy.period + 1#32)] :=
    List.perm_singleton.mp ((reportMsgs_perm o ms).trans (.of_eq hk))
  have hpost : Flow.post o [] (workDsq o (s.msy.period + 1#32) { s with now := t, issued := s.edgeNoted t })
      (aheadFlow s t) = ⟨takeReport o k (s.msy.period + 1#32)
        (calmed ms { s with now := t, issued := s.edgeNoted t, dsq := e }), []⟩ := by
    rw [Flow.post_now, hwork, deliver_reports, hone]
    rfl
  exact (takeAhead_due (b := .dsq) hn hb hdue o).trans (congrArg Flow.state hpost)

/-- A report of a class other than W taken with no episode ACTIVE: the episode it opens, and the sequencer. -/
theorem takeReport_opened (o : Sched) {k : Cause} (n : Period) {s : State} {c : Class} (h : s.set.classInForce k = c)
    (hc : c ≠ .w) (hi : s.pru.active = false) {u : State} (hu : u = takeReport o k n s) :
    u.pru.active = true ∧ u.pru.cls = some c ∧ u.pru.firstOut = some k ∧ u.pru.latched = [{ kind := k, cls := c }] ∧
      u.pru.trip = decide (c = .b) ∧ u.dsq = dsqDemand c s.dsq := by
  have hepisode := takeReport_episode o n (s := s) (k := k) (by rw [h]; exact hc)
  have hopen : pruReport k (s.set.classInForce k) s.rcu.counter s.pru =
      { pruOpen k c s.pru with record := some s.rcu.counter } := by
    rw [h]
    exact if_neg (by rw [hi]; exact Bool.false_ne_true)
  rw [hopen, ← hu] at hepisode
  refine ⟨hepisode.active, hepisode.cls, hepisode.firstOut, hepisode.latched, hepisode.trip, ?_⟩
  rw [hu, takeReport_opens o n h hc hi, (demand_rest ..).2.2.2, (openEpisode_same ..).dsq]

/-- The coast timer runs out (R127). -/
theorem driveStep_coast {z : SetTable} {v : DsqView} {d : Dsq} (h : d.drive = .coast) : driveStep z v d = coastStep z d := by
  simp only [driveStep, h]

theorem coastStep_expires {z : SetTable} {d : Dsq} {k : Nat} (h : d.coast = .running k) (hz : z.coastTime ≤ k + 1) :
    coastStep z d = { d with coast := .expired, lossCond := true } := by
  simp only [coastStep, h, hz, if_true]

theorem coastStep_runs {z : SetTable} {d : Dsq} {k : Nat} (h : d.coast = .running k) (hz : k + 1 < z.coastTime) :
    coastStep z d = { d with coast := .running (k + 1) } := by
  simp only [coastStep, h, Nat.not_le.mpr hz, if_false]

theorem coastStep_expired {z : SetTable} {d : Dsq} (h : d.coast = .expired) : coastStep z d = d := by
  simp only [coastStep, h]

/-- The trip demand of class S in COAST with the coast timer EXPIRED (R128, R129, R135). -/
theorem dsqDemand_timeout {d : Dsq} (h : d.drive = .coast) (hk : d.coast = .expired) (hc : d.contactor = true)
    (hw : d.wait = .none) : dsqDemand .s d =
      { d with drive := .tripped, enable := false, coast := .stopped, exit := .timeout, wait := .zeroWait 0, auxEn := false } := by
  simp [dsqDemand, h, dsqTripped, exitAt, hk, dsqEnter, waitAtEntry, hc, hw, enableOf, coastAtEntry]

/-- COAST_TIMEOUT: the coast timer expires and MAINS_LOSS opens an episode of class S (R127, R129). -/
theorem coastTimeout_taken (o : Sched) {s : State} {t : Tick} {k : Nat} (hn : nextPeriodEvent s.msy = some t)
    (hb : s.dsq.periodTaken ≠ s.msy.period + 1#32) (hd : s.dsq.drive = .coast) (hk : s.dsq.coast = .running k)
    (hz : s.set.coastTime ≤ k + 1) (hloss : s.dsq.lossCond = false) (hw : s.dsq.wait = .none)
    (hc : s.dsq.contactor = true) (hi : s.pru.active = false) :
    ∃ u, exec (.coastTimeout o) s = .next u ∧ u.now = t ∧ u.dsq.drive = .tripped ∧ u.dsq.exit = .timeout ∧
      u.dsq.coast = .stopped ∧ u.dsq.lossCond = true ∧ u.dsq.contactor = true ∧ u.dsq.wait = .zeroWait 0 ∧
      u.pru.active = true ∧ u.pru.cls = some .s ∧ u.pru.firstOut = some .mainsLoss ∧
      u.pru.latched = [{ kind := .mainsLoss, cls := .s }] ∧ u.pru.trip = false ∧ .mainsLoss ∈ u.pru.view ∧
      u.msy = s.msy ∧ u.meu = s.meu := by
  have hwork : dsqWork s.set (s.dsqView (s.msy.period + 1#32)) s.dsq =
      { dsqFound (s.msy.period + 1#32) s with coast := .expired, lossCond := true } := by
    exact (dsqWork_free hw).trans ((driveStep_coast (d := dsqFound (s.msy.period + 1#32) s) hd).trans
      (coastStep_expires hk hz))
  obtain ⟨ms, hms⟩ : ∃ ms, condMsgs .currentNotDecaying (s.msy.period + 1#32) s.dsq.decayCond
      (dsqFound (s.msy.period + 1#32) s).decayCond ++ condMsgs .mainsLoss (s.msy.period + 1#32) s.dsq.lossCond true = ms :=
    ⟨_, rfl⟩
  have hone : ms.filter (fun m => (reportKind m).isSome) = [.report .mainsLoss (s.msy.period + 1#32)] ∧
      .cond .mainsLoss true ∈ ms ∧ .cond .mainsLoss false ∉ ms := by
    rw [← hms, hloss, dsqFound]
    cases s.dsq.decayCond <;> cases (s.dsqView (s.msy.period + 1#32)).low <;> simp [condMsgs, reportKind]
  obtain ⟨honce, htold, huntold⟩ := hone
  have hahead := dsqAhead_reports o hn hb hwork rfl hms honce
  have hsame := calmed_same ms { s with
    now := t, issued := s.edgeNoted t,
    dsq := { dsqFound (s.msy.period + 1#32) s with coast := .expired, lossCond := true } }
  have hview := calmed_joins htold huntold { s with
    now := t, issued := s.edgeNoted t,
    dsq := { dsqFound (s.msy.period + 1#32) s with coast := .expired, lossCond := true } }
  have hepisode := calmed_episode ms { s with
    now := t, issued := s.edgeNoted t,
    dsq := { dsqFound (s.msy.period + 1#32) s with coast := .expired, lossCond := true } }
  generalize calmed ms _ = g at hahead hsame hview hepisode
  obtain ⟨u, hu⟩ : ∃ u, takeReport o .mainsLoss (s.msy.period + 1#32) g = u := ⟨_, rfl⟩
  obtain ⟨hactive, hcls, hfirst, hlatched, htrip, hdsq⟩ := takeReport_opened o (s.msy.period + 1#32) (k := .mainsLoss)
    (c := .s) rfl (by decide) (hepisode.active.trans hi) hu.symm
  have hcarried : Carried (fun _ => True) g u := hu ▸ takeReport_carried o .mainsLoss (s.msy.period + 1#32) g
  have hbase := hsame.toSameBase.trans hcarried.base
  rw [hsame.dsq] at hdsq
  have hdsq := hdsq.trans (dsqDemand_timeout hd rfl hc hw)
  have hjoined : .mainsLoss ∈ u.pru.view := (hcarried.pru.view .mainsLoss ⟨trivial, .inl fun _ h => nomatch h⟩).mpr hview
  exact ⟨u, congrArg Host.Outcome.next (hahead.trans hu), hbase.now, (congrArg Dsq.drive hdsq :),
    (congrArg Dsq.exit hdsq :), (congrArg Dsq.coast hdsq :), (congrArg Dsq.lossCond hdsq :),
    (congrArg Dsq.contactor hdsq :).trans hc, (congrArg Dsq.wait hdsq :), hactive, hcls, hfirst, hlatched, htrip, hjoined,
    hbase.msy, hbase.meu⟩

/-! ### CURRENT_NOT_DECAYING -/

/-- The part as the report of CURRENT_NOT_DECAYING at the coming period event is taken (R137). -/
def decayHolds (s : State) (t : Tick) : State :=
  { s with
    now := t, issued := s.edgeNoted t, pru := pruCond .currentNotDecaying true s.pru,
    dsq := { s.dsq with
      wait := .zeroWait s.set.decayTime, decayCond := true, periodTaken := s.msy.period + 1#32 } }

theorem exec_currentNotDecaying (o : Sched) {s : State} {t : Tick} {k : Nat} (hn : nextPeriodEvent s.msy = some t)
    (hb : s.dsq.periodTaken ≠ s.msy.period + 1#32) (hd : s.dsq.drive = .blocked ∨ s.dsq.drive = .tripped)
    (hw : s.dsq.wait = .zeroWait k) (hoff : (s.dsqView (s.msy.period + 1#32)).off = true)
    (hlow : (s.dsqView (s.msy.period + 1#32)).low = false) (hz : s.set.decayTime ≤ k + 1)
    (hcond : s.dsq.decayCond = false) : exec (.currentNotDecaying o) s =
      .next (takeReport o .currentNotDecaying (s.msy.period + 1#32) (decayHolds s t)) := by
  have hwork : dsqWork s.set (s.dsqView (s.msy.period + 1#32)) s.dsq = (decayHolds s t).dsq := by
    have hdecays := dsqWork_waits (d := s.dsq) hd
      (waitStep_decays (d := { s.dsq with periodTaken := s.msy.period + 1#32 }) hlow hoff hw hz) rfl
    rwa [hlow] at hdecays
  have hms : condMsgs .currentNotDecaying (s.msy.period + 1#32) s.dsq.decayCond true ++
        condMsgs .mainsLoss (s.msy.period + 1#32) s.dsq.lossCond s.dsq.lossCond =
      [.cond .currentNotDecaying true, .report .currentNotDecaying (s.msy.period + 1#32)] := by
    rw [hcond, condMsgs_same]
    rfl
  exact congrArg Host.Outcome.next (dsqAhead_reports o hn hb hwork rfl hms rfl)

theorem dsqDemand_decayCond (c : Class) (d : Dsq) : (dsqDemand c d).decayCond = d.decayCond := by
  cases c <;> cases hd : d.drive <;> simp only [dsqDemand, hd, dsqTripped, dsqEnter]

/-- A cause that is not latched, taken with an episode of a weaker class ACTIVE: the class rises (R145, R146). -/
theorem takeReport_rises (o : Sched) {k : Cause} (n : Period) {s : State} {c : Class} (h : s.set.classInForce k = c)
    (hc : c ≠ .w) (ha : s.pru.active = true) (hl : latchOf k s.pru.latched = none) (hr : classRises c s.pru = true) :
    takeReport o k n s = demand o c (raiseTo .episode [.c, .p, .m]
      { s with pru := pruLatch k c s.pru, rcu := rcuSub k n s.rcu }) := by
  have hlatch : latchReport k n c s = (raiseTo .episode [.c, .p, .m]
      { s with pru := pruLatch k c s.pru, rcu := rcuSub k n s.rcu }, some c) := by
    have hfresh : latchingOf k c s.pru = .fresh := by simp only [latchingOf, hl]
    simp only [latchReport, hfresh, classRise, hr, if_true]
  have hjudge : judge k n s = takeCause k n c s := judge_cause n h hc
  rw [takeCause, if_pos ha, hlatch] at hjudge
  unfold takeReport
  rw [hjudge]

theorem takeReport_risen (o : Sched) {k : Cause} (n : Period) {s : State} {c : Class} (h : s.set.classInForce k = c)
    (hc : c ≠ .w) (ha : s.pru.active = true) (hl : latchOf k s.pru.latched = none) (hr : classRises c s.pru = true)
    {u : State} (hu : u = takeReport o k n s) : SameEpisode (pruLatch k c s.pru) u.pru ∧
      u.rcu.slots = (rcuSub k n s.rcu).slots ∧ u.dsq = dsqDemand c s.dsq ∧
      ∀ j : Station, .episode ∈ (u.links.get j).notices := by
  have hrises := takeReport_rises o n h hc ha hl hr
  have hnotices : ∀ j : Station, .episode ∈ ((raiseTo .episode [.c, .p, .m]
      { s with pru := pruLatch k c s.pru, rcu := rcuSub k n s.rcu }).links.get j).notices := fun j =>
    (raiseTo_noticed .episode (by cases j <;> decide) _).1
  rw [hu, hrises]
  rw [raiseTo_eq] at hnotices ⊢
  generalize (raiseTo _ _ _).links = l at hnotices ⊢
  obtain ⟨-, hrcu, hlinks, hdsq⟩ := demand_rest o c { s with pru := pruLatch k c s.pru, rcu := rcuSub k n s.rcu, links := l }
  exact ⟨demand_episode o c { s with pru := pruLatch k c s.pru, rcu := rcuSub k n s.rcu, links := l },
    (congrArg Rcu.slots hrcu :), hdsq, fun j => (hlinks j).notices _ (hnotices j)⟩

/-- The sequencer after the class B demand of CURRENT_NOT_DECAYING: the release wait is over (R130). -/
theorem decayHolds_demanded {s : State} {t : Tick} {d : Dsq} (h : d = dsqDemand .b (decayHolds s t).dsq) :
    d.drive = .tripped ∧ d.decayCond = true ∧ d.contactor = false ∧ d.wait = .none := by
  obtain ⟨hdrive, hcontactor, hwait⟩ := dsqDemand_b (decayHolds s t).dsq
  rw [h]
  exact ⟨hdrive, dsqDemand_decayCond .b (decayHolds s t).dsq, hcontactor, hwait⟩

theorem currentNotDecaying_opens (o : Sched) (s : State) (t : Tick) (hi : s.pru.active = false) {u : State}
    (hu : u = takeReport o .currentNotDecaying (s.msy.period + 1#32) (decayHolds s t)) :
    u.now = t ∧ u.dsq.drive = .tripped ∧ u.dsq.decayCond = true ∧ u.dsq.contactor = false ∧ u.dsq.wait = .none ∧
      u.pru.active = true ∧ u.pru.cls = some .b ∧ u.pru.firstOut = some .currentNotDecaying ∧
      u.pru.latched = [{ kind := .currentNotDecaying, cls := .b }] ∧ u.pru.trip = true ∧ u.msy = s.msy ∧ u.meu = s.meu := by
  obtain ⟨hactive, hcls, hfirst, hlatched, htrip, hdsq⟩ := takeReport_opened o (s.msy.period + 1#32)
    (k := .currentNotDecaying) (s := decayHolds s t) (c := .b) rfl (by decide) hi hu
  obtain ⟨hdrive, hdecay, hcontactor, hwait⟩ := decayHolds_demanded hdsq
  have hbase : SameBase (decayHolds s t) u := by
    rw [hu]
    exact (takeReport_carried (K := fun _ => True) o _ _ _).base
  exact ⟨hbase.now, hdrive, hdecay, hcontactor, hwait, hactive, hcls, hfirst, hlatched, htrip, hbase.msy, hbase.meu⟩

theorem currentNotDecaying_rises (o : Sched) (s : State) (t : Tick) (ha : s.pru.active = true)
    (hcls : s.pru.cls = some .f ∨ s.pru.cls = some .s) (hfresh : ∀ e ∈ s.pru.latched, e.kind ≠ .currentNotDecaying)
    {u : State} (hu : u = takeReport o .currentNotDecaying (s.msy.period + 1#32) (decayHolds s t)) :
    u.now = t ∧ u.dsq.drive = .tripped ∧ u.dsq.decayCond = true ∧ u.dsq.contactor = false ∧ u.dsq.wait = .none ∧
      u.pru.active = true ∧ u.pru.cls = some .b ∧ u.pru.firstOut = s.pru.firstOut ∧ u.pru.record = s.pru.record ∧
      u.pru.trip = true ∧
      (tripRight s.pru = true → ∀ e : Latch, e ∈ u.pru.latched ↔
        e ∈ s.pru.latched ∨ e = { kind := .currentNotDecaying, cls := .b }) ∧
      (∀ j : Station, .episode ∈ (u.links.get j).notices) ∧
      (∀ (i : SlotIx) (r : Record), s.rcu.filling = some i → s.rcu.slots.get i = some r → s.rcu.pinned = some r.number →
        r.subs.length < 8 → u.rcu.slots.get i = some { r with subs := r.subs ++
          [{ kind := .currentNotDecaying, period := s.msy.period + 1#32 }] }) ∧
      u.msy = s.msy ∧ u.meu = s.meu := by
  have hnone : latchOf .currentNotDecaying s.pru.latched = none :=
    List.find?_eq_none.mpr fun e he => by simpa using hfresh e he
  have hrises : classRises .b s.pru = true := by
    rcases hcls with h | h <;> rw [classRises, h] <;> rfl
  obtain ⟨hepisode, hslots, hdsq, hnotices⟩ := takeReport_risen o (s.msy.period + 1#32) (k := .currentNotDecaying)
    (s := decayHolds s t) (c := .b) rfl (by decide) ha hnone hrises hu
  obtain ⟨hdrive, hdecay, hcontactor, hwait⟩ := decayHolds_demanded hdsq
  have hbase : SameBase (decayHolds s t) u := by
    rw [hu]
    exact (takeReport_carried (K := fun _ => True) o _ _ _).base
  have hcls : u.pru.cls = some .b := hepisode.cls.trans (if_pos hrises)
  have htrip : u.pru.trip = true := hepisode.trip.trans (Bool.or_true _)
  refine ⟨hbase.now, hdrive, hdecay, hcontactor, hwait, hepisode.active.trans ha, hcls, hepisode.firstOut,
    hepisode.record, htrip, fun hright e => ?_, hnotices, fun i r hf hr hp hlen => ?_, hbase.msy, hbase.meu⟩
  · rw [hepisode.latched]
    exact mem_putLatch_fresh (kinds_nodup ((tripRight_iff _).mp hright).inOrder) hfresh .b e
  · have hsub := rcuSub_slots hf hr .currentNotDecaying (s.msy.period + 1#32)
    have hget : u.rcu.slots = s.rcu.slots.put i (some (addSub .currentNotDecaying (s.msy.period + 1#32) r)) :=
      hslots.trans (hsub.trans (if_pos hp))
    rw [hget, Six.get_put, addSub, if_pos hlen]

/-! ### The end of the close delay -/

theorem convEnable_off {c : Conv} (h : c.state = .off) (sync : SyncState) : convEnable sync c =
    if c.fault = false ∧ (sync = .locked ∨ sync = .holdover) then { c with state := .firing, integ := -4194304 } else c := by
  have htest : (firingAllowed sync && !c.fault) = true ↔ c.fault = false ∧ (sync = .locked ∨ sync = .holdover) := by
    rw [firingAllowed, Bool.and_eq_true, Bool.or_eq_true, decide_eq_true_eq, decide_eq_true_eq, Bool.not_eq_true', and_comm]
  simp only [convEnable, h, htest]
  rfl

theorem stuDrive_closing_starting (z : SetTable) (level : Nat) (u : Stu) :
    (stuDrive z level .closing .starting u).grace = true ∧
    (u.motors.a.thermal ≠ .hot → u.motors.b.thermal ≠ .hot → (stuDrive z level .closing .starting u).window = some 0) ∧
    (u.motors.a.thermal = .hot ∨ u.motors.b.thermal = .hot →
      (stuDrive z level .closing .starting u).window = u.window) := by
  have hentry : stuEntry .closing .starting u = { u with grace := true } := by simp [stuEntry, graceEntry, drives]
  rw [stuDrive, if_pos rfl, hentry, stuOpenWindow]
  refine ⟨?_, fun ha hb => ?_, fun h => ?_⟩
  · split
    · rfl
    · exact (stuReform_rest ..).2
  · rw [if_neg (not_or.mpr ⟨ha, hb⟩)]
    exact (stuReform_rest ..).1
  · rw [if_pos h]

/-- CLOSING enters STARTING: the enable is given, the breakaway window opens unless a motor is HOT (R40, R80, R89). -/
theorem dsqTaken_starting (o : Sched) {e : Dsq} {s : State} (hd : s.dsq.drive = .closing) (he : e.drive = .starting)
    (hold : s.dsq.enable = false) (hnew : e.enable = true) {u : State} (hu : u = dsqTaken o e s) :
    u.dsq = e ∧ (∀ x, u.conv x = convEnable s.msy.sync (s.conv x)) ∧
      u.stu = stuDrive s.set s.vwa.level .closing .starting s.stu ∧ u.pru.driveView = .starting ∧
      u.rcu.driveView = .starting ∧ u.set.driveView = .starting ∧ u.now = s.now ∧ u.msy = s.msy ∧ u.meu = s.meu := by
  have hne : e.drive ≠ s.dsq.drive := by
    rw [he, hd]
    decide
  obtain ⟨p, hp, hview⟩ := dsqTaken_blocks o e s
  rw [moveDrive_quiet o hne (quietEntry_running (by rw [he]; rfl) _)] at hp hview
  have hstu := quietMove_stu e s
  rw [he, hd] at hstu
  have hconv : ∀ x, u.conv x = convEnable s.msy.sync (s.conv x) := fun x => by
    have hx : u.conv x = (quietMove e s).conv x := by
      rw [hu, hp]
      cases x <;> rfl
    rw [hx, quietMove_conv, hold, hnew]
    rfl
  rw [quietMove_eq, he] at hview
  rw [hu, hp] at hconv ⊢
  refine ⟨?_, hconv, hstu, hview, ?_, ?_, ?_, ?_, ?_⟩
  all_goals dsimp only; rw [quietMove_eq]
  · exact he
  · exact he

/-- CLOSE_DELAY_END: STARTING is entered (R40, R80, R122). -/
theorem closeDelayEnd_taken (o : Sched) {s : State} {t : Tick} (hn : nextPeriodEvent s.msy = some t)
    (hb : s.dsq.periodTaken ≠ s.msy.period + 1#32) (hd : s.dsq.drive = .closing) (hen : s.dsq.enable = false)
    (hw : s.dsq.wait = .none) (hz : s.set.closeDelay ≤ s.dsq.closeCount + 1) :
    ∃ u, exec (.closeDelayEnd o) s = .next u ∧ u.now = t ∧ u.dsq.drive = .starting ∧ u.dsq.enable = true ∧
      u.dsq.contactor = s.dsq.contactor ∧ u.dsq.closeCount = s.dsq.closeCount + 1 ∧ u.dsq.coast = .stopped ∧
      (∀ x : Side, (s.conv x).state = .off → u.conv x =
        (if (s.conv x).fault = false ∧ (s.msy.sync = .locked ∨ s.msy.sync = .holdover)
         then { s.conv x with state := .firing, integ := -4194304 } else s.conv x)) ∧
      (s.stu.motors.a.thermal ≠ .hot → s.stu.motors.b.thermal ≠ .hot → u.stu.window = some 0) ∧
      (s.stu.motors.a.thermal = .hot ∨ s.stu.motors.b.thermal = .hot → u.stu.window = s.stu.window) ∧
      u.stu.grace = true ∧ u.pru.driveView = .starting ∧ u.rcu.driveView = .starting ∧ u.set.driveView = .starting ∧
      u.msy = s.msy ∧ u.meu = s.meu := by
  have hwork : dsqWork s.set (s.dsqView (s.msy.period + 1#32)) s.dsq = { dsqFound (s.msy.period + 1#32) s with
      drive := .starting, enable := true, coast := .stopped, closeCount := s.dsq.closeCount + 1 } := by
    rw [dsqWork_free hw]
    simp only [driveStep, hd, closingStep, hz, if_true]
    rfl
  have hdue : (decide (s.dsq.drive = .closing) &&
      decide ((dsqWork s.set (s.dsqView (s.msy.period + 1#32)) s.dsq).drive = .starting)) = true := by
    rw [hwork, hd]
    rfl
  have hquiet := workDsq_quiet o [] (f := aheadFlow s t) hwork (fun h => (Bool.and_eq_true_iff.mp h).1) rfl
  have hahead := takeAhead_due (b := .dsq) (due := fun n _ => decide (s.dsq.drive = .closing) &&
    decide ((dsqWork s.set (s.dsqView n) s.dsq).drive = .starting)) hn hb hdue o
  have hexec := hahead.trans (congrArg Flow.state hquiet)
  obtain ⟨hdsq, hconv, hstu, hpru, hrcu, hset, hnow, hmsy, hmeu⟩ := dsqTaken_starting o (s := (aheadFlow s t).state)
    (e := { dsqFound (s.msy.period + 1#32) s with
      drive := .starting, enable := true, coast := .stopped, closeCount := s.dsq.closeCount + 1 }) hd rfl hen rfl rfl
  obtain ⟨hgrace, hcold, hhot⟩ := stuDrive_closing_starting s.set s.vwa.level s.stu
  rw [← show _ = stuDrive s.set s.vwa.level .closing .starting s.stu from hstu] at hgrace hcold hhot
  exact ⟨_, congrArg Host.Outcome.next hexec, hnow, (congrArg Dsq.drive hdsq :), (congrArg Dsq.enable hdsq :),
    (congrArg Dsq.contactor hdsq :), (congrArg Dsq.closeCount hdsq :), (congrArg Dsq.coast hdsq :),
    fun x hx => (hconv x).trans (convEnable_off hx _), hcold, hhot, hgrace, hpru, hrcu, hset, hmsy, hmeu⟩

/-- Settles O18. -/
theorem sequencerTimersRunOut : Obligations.SequencerTimersRunOut := by
  refine ⟨fun o s t hn hb hd hen hw hz => closeDelayEnd_taken o hn hb hd hen hw hz,
    fun o s t k hn hb hd hk hz hloss hw hc hi => coastTimeout_taken o hn hb hd hk hz hloss hw hc hi,
    fun o s t k hn hb hd hc ha hbm hw => ?_, fun o n t later f s u d off low hs hb hu hoff hlow hdd => ?_,
    fun o s t k hn hb hd hw hca hcb hhigh hz hcond => ?_⟩
  · have hlow : (s.dsqView (s.msy.period + 1#32)).low = true :=
      Bool.and_eq_true_iff.mpr ⟨decide_eq_true ha, decide_eq_true hbm⟩
    refine contactorRelease_taken o hn hb hd hc hlow (k := k) (hw.imp (fun ⟨hw, hca, hcb, hz⟩ => ⟨hw, ?_, hz⟩) id)
    exact Bool.and_eq_true_iff.mpr ⟨decide_eq_true hca, decide_eq_true hcb⟩
  · subst hs
    refine ⟨fun w hd hw => ?_, fun hd hw => ⟨fun k hk hz => ?_, fun hk => ?_⟩⟩
    · have hwork : dsqWork f.state.set (f.state.dsqView n) f.state.dsq = { d with wait := w } := by
        have hgoes : WaitGoesOn f.state.set (f.state.dsqView n).off (f.state.dsqView n).low
            { f.state.dsq with periodTaken := n } w := by
          rw [hoff, hlow] at hw
          exact hw
        rw [hdd, hlow]
        exact dsqWork_waits hd (waitStep_goesOn hgoes) rfl
      have htaken := takePeriod_dsq_stays o t later (low := low) hb hwork (by rw [hdd]) (by rw [hdd]) (by rw [hdd])
      rw [hu, htaken]
      refine ⟨rfl, rfl, fun h1 h2 => ?_, fun h => ?_, rfl⟩
      · rw [h1, h2]
        exact pruCond_clears .currentNotDecaying f.state.pru
      · have hstays : (f.state.dsq.decayCond && low) = false := Bool.and_eq_false_iff.mpr h
        exact if_neg fun hends => Bool.false_ne_true (hstays.symm.trans hends)
    · have hwork : dsqWork f.state.set (f.state.dsqView n) f.state.dsq = { d with coast := .running (k + 1) } := by
        rw [hdd, hlow]
        exact (dsqWork_free hw).trans ((driveStep_coast (d := dsqFound n f.state) hd).trans (coastStep_runs hk hz))
      have htaken := takePeriod_dsq_stays o t later (low := low) hb hwork (by rw [hdd]) (by rw [hdd]) (by rw [hdd])
      rw [hu, htaken]
      exact ⟨rfl, rfl⟩
    · have hwork : dsqWork f.state.set (f.state.dsqView n) f.state.dsq = d := by
        rw [hdd, hlow]
        exact (dsqWork_free hw).trans ((driveStep_coast (d := dsqFound n f.state) hd).trans (coastStep_expired hk))
      have htaken := takePeriod_dsq_stays o t later (low := low) hb hwork (by rw [hdd]) (by rw [hdd]) (by rw [hdd])
      rw [hu, htaken]
      exact ⟨rfl, rfl⟩
  · have hlow : (s.dsqView (s.msy.period + 1#32)).low = false := by
      refine Bool.eq_false_iff.mpr fun h => ?_
      obtain ⟨ha, hbm⟩ := Bool.and_eq_true_iff.mp h
      rcases hhigh with hhigh | hhigh
      · exact absurd (of_decide_eq_true ha) (Nat.not_le.mpr hhigh)
      · exact absurd (of_decide_eq_true hbm) (Nat.not_le.mpr hhigh)
    have hoff : (s.dsqView (s.msy.period + 1#32)).off = true :=
      Bool.and_eq_true_iff.mpr ⟨decide_eq_true hca, decide_eq_true hcb⟩
    have hexec := exec_currentNotDecaying o hn hb hd hw hoff hlow hz hcond
    exact ⟨fun hi => ⟨_, hexec, currentNotDecaying_opens o s t hi rfl⟩,
      fun ha hcls hfresh => ⟨_, hexec, currentNotDecaying_rises o s t ha hcls hfresh rfl⟩⟩

end Sys2Proof.Machine
end

section
/-! A fault arrival and a period event at one instant, in either order (R59, R90, R145). -/

namespace Sys2Proof.Machine

/-! ### What is sent while the sequencer's taking of demands is still to come -/

/-- A stage of the takings at which the sequencer takes no demand: sequencer and converters stay, and the demands that
are sent wait behind those that wait already. -/
structure Deferred (f g : Flow) : Prop where
  dsq : g.state.dsq = f.state.dsq
  conv : ∀ x, g.state.conv x = f.state.conv x
  mail : ∃ cs : List Class, g.mail = f.mail ++ cs.map Mail.demand

theorem Deferred.of_state {f g : Flow} (hd : g.state.dsq = f.state.dsq) (hc : ∀ x, g.state.conv x = f.state.conv x)
    (hm : g.mail = f.mail) : Deferred f g :=
  ⟨hd, hc, [], by rw [hm, List.map_nil, List.append_nil]⟩

theorem Deferred.refl (f : Flow) : Deferred f f := .of_state rfl (fun _ => rfl) rfl

theorem Deferred.trans {f g h : Flow} (a : Deferred f g) (b : Deferred g h) : Deferred f h where
  dsq := b.dsq.trans a.dsq
  conv x := (b.conv x).trans (a.conv x)
  mail := by
    obtain ⟨cs, hc⟩ := a.mail
    obtain ⟨es, he⟩ := b.mail
    exact ⟨cs ++ es, by rw [he, hc, List.map_append, List.append_assoc]⟩

theorem Deferred.of_same {f : Flow} {s : State} (h : SameDrive f.state s) : Deferred f { f with state := s } :=
  .of_state h.dsq h.conv rfl

/-- Sends of a fold of stages. -/
theorem Deferred.foldl {α : Type} {step : Flow → α → Flow} (h : ∀ f a, Deferred f (step f a)) (l : List α) (f : Flow) :
    Deferred f (l.foldl step f) := by
  induction l generalizing f with
  | nil => exact .refl f
  | cons a l ih => exact (h f a).trans (ih _)

section
variable (o : Sched) {later : List Taking}

theorem Flow.send_waits (h : later.contains .demand = true) (c : Class) (f : Flow) :
    Flow.send o later c f = { f with mail := f.mail ++ [.demand c] } := if_pos h

theorem Flow.report_deferred (h : later.contains .demand = true) (k : Cause) (n : Period) (f : Flow) :
    Deferred f (Flow.report o later k n f) := by
  have hjudge : Deferred f { f with state := (judge k n f.state).1 } := .of_same (judge_same k n f.state)
  unfold Flow.report
  split
  · exact hjudge
  · rename_i c _
    rw [Flow.send_waits o h]
    exact hjudge.trans ⟨rfl, fun _ => rfl, [c], rfl⟩

theorem Flow.arrive_deferred (h : later.contains .demand = true) (hr : ∀ k, Taking.report k ∉ later) (f : Flow) (m : Msg) :
    Deferred f (Flow.arrive o later f m) := by
  cases hm : reportKind m with
  | none =>
    rw [Flow.arrive_calm o later f hm]
    exact .of_same (takeMild_same ..)
  | some k =>
    cases m with
    | report k n =>
      have hnow : mustWait later (.report k n) = false :=
        Bool.eq_false_iff.mpr fun hw => hr k (List.contains_iff_mem.mp hw)
      rw [Flow.arrive, hnow]
      exact Flow.report_deferred o h k n f
    | cond k b | notice k st | capture x c => cases hm

/-- A block that leaves sequencer and converters sends its messages. -/
theorem Flow.post_deferred (h : later.contains .demand = true) (hr : ∀ k, Taking.report k ∉ later) {r : State × List Msg}
    {f : Flow} (hf : Deferred f { f with state := r.1 }) : Deferred f (Flow.post o later r f) :=
  hf.trans (.foldl (fun f m => Flow.arrive_deferred o h hr f m) _ _)

theorem workStu_deferred (h : later.contains .demand = true) (hr : ∀ k, Taking.report k ∉ later) (n : Period) (t : Tick)
    (f : Flow) : Deferred f (workStu o n t later f) := by
  have hposted : Deferred f (stuPosted o n t later f) := by
    rw [stuPosted_eq]
    exact Flow.post_deferred o h hr (.of_state rfl (fun x => by cases x <;> rfl) rfl)
  rw [workStu_eq]
  refine hposted.trans (.foldl (fun g i => ?_) (chanOrder o) _)
  exact Flow.post_deferred o h hr (.of_state rfl (fun x => by cases x <;> rfl) rfl)

end

/-! ### The demands that waited are taken -/

/-- Demands taken one after the other. -/
def demands (o : Sched) (cs : List Class) (s : State) : State := cs.foldl (fun s c => demand o c s) s

theorem Flow.collect_demands (o : Sched) (cs : List Class) (s : State) :
    Flow.collect o [] isDemand ⟨s, cs.map Mail.demand⟩ = ⟨demands o cs s, []⟩ := by
  have hall : (cs.map Mail.demand).filter isDemand = cs.map Mail.demand :=
    List.filter_eq_self.mpr fun m hm => by
      obtain ⟨c, -, rfl⟩ := List.mem_map.mp hm
      rfl
  have hnone : (cs.map Mail.demand).filter (fun m => !isDemand m) = [] :=
    List.filter_eq_nil_iff.mpr fun m hm => by
      obtain ⟨c, -, rfl⟩ := List.mem_map.mp hm
      exact Bool.false_ne_true
  have hopen : ∀ (es : List Class) (u : State),
      (es.map Mail.demand).foldl (Flow.open o []) ⟨u, []⟩ = ⟨demands o es u, []⟩ := fun es => by
    induction es with
    | nil => exact fun _ => rfl
    | cons e es ih => exact fun u => ih (demand o e u)
  unfold Flow.collect
  dsimp only
  rw [hall, hnone]
  exact hopen cs s

theorem demands_reported (o : Sched) (cs : List Class) (s : State) : Reported s (demands o cs s) := by
  induction cs generalizing s with
  | nil => exact .refl s
  | cons c cs ih => exact (demand_reported o c s).trans (ih _)

/-- A drive that is TRIPPED stays so at every demand. -/
theorem demands_tripped (o : Sched) (cs : List Class) {s : State} (h : s.dsq.drive = .tripped) :
    (demands o cs s).dsq.drive = .tripped := by
  induction cs generalizing s with
  | nil => exact h
  | cons c cs ih =>
    refine ih ?_
    rw [(demand_rest o c s).2.2.2]
    cases c <;> simp only [dsqDemand, h]

theorem convEnable_faulted {c : Conv} (hs : c.state = .off) (hf : c.fault = true) (sync : SyncState) :
    convEnable sync c = c := by
  rw [convEnable_off hs, if_neg fun h => Bool.false_ne_true (h.1.symm.trans hf)]

/-- A converter in OFF with its fault line active stays in OFF at every demand (R40, R42). -/
theorem demands_off (o : Sched) (cs : List Class) {x : Side} {s : State} (hs : (s.conv x).state = .off)
    (hf : (s.conv x).fault = true) : ((demands o cs s).conv x).state = .off := by
  induction cs generalizing s with
  | nil => exact hs
  | cons c cs ih =>
    suffices h : ((demand o c s).conv x).state = .off ∧ ((demand o c s).conv x).fault = true from ih h.1 h.2
    unfold demand
    by_cases hd : (dsqDemand c s.dsq).drive = s.dsq.drive
    · rw [moveDrive_stay o hd]
      have hconv : ({ s with dsq := dsqDemand c s.dsq } : State).conv x = s.conv x := by cases x <;> rfl
      rw [hconv]
      exact ⟨hs, hf⟩
    · have htake : convTakeEnable s.dsq.enable (dsqDemand c s.dsq).enable s.msy.sync (s.conv x) = s.conv x := by
        unfold convTakeEnable
        split
        · rfl
        · split
          · exact convEnable_faulted hs hf _
          · simp only [convDisable, hs]
      rw [(moveDrive_moved o hd).conv x, htake, convHand]
      split <;> exact ⟨hs, hf⟩

/-! ### The fault arrival -/

/-- The controller after a fault arrival in FIRING answered by BLOCK (R57, R59, R63). -/
def blockedOff (k : FaultCapture) (c : Conv) : Conv := convOff { arrived k c with faultCond := true }

theorem convArrival_block {z : SetTable} {x : Side} {c : Conv} {g : Origin} (hf : c.fault = false) (hs : c.state = .firing)
    (hg : c.lastOrigin = some g) (hc : c.faultCond = false) (hr : z.response x = .block) (t : Tick) (i : Nat) :
    convArrival z x t i c = (blockedOff (captureOf t i g) c,
      [.capture x (captureOf t i g), .cond (.convFault x) true, .report (.convFault x) g.period]) := by
  have hrespond : convRespond z x (arrived (captureOf t i g) c) = blockedOff (captureOf t i g) c := by
    simp only [convRespond, hr]
    rfl
  have hmsgs : convMsgs x c (blockedOff (captureOf t i g) c) =
      [.cond (.convFault x) true, .report (.convFault x) g.period] := by
    rw [convMsgs_of_origin (show (blockedOff (captureOf t i g) c).lastOrigin = some g from hg), hc]
    have htrans : (blockedOff (captureOf t i g) c).transCond = c.transCond := rfl
    rw [htrans, condMsgs_same]
    rfl
  rw [convArrival_active hf (.inl hs) hg, hrespond, hmsgs]

/-- The part as the report of CONV_x_FAULT at the arrival is taken. -/
def blockReported (x : Side) (t : Tick) (k : FaultCapture) (s : State) : State :=
  takeCond (.convFault x) true (faulted x t k (blockedOff k (s.conv x)) s)

/-- What the arrival sends, all but the report, is taken at once. -/
theorem calmed_arrival (x : Side) (t : Tick) (k : FaultCapture) (n : Period) (s : State) :
    calmed [.capture x k, .cond (.convFault x) true, .report (.convFault x) n]
      ({ s with now := t }.putConv x (blockedOff k (s.conv x))) = blockReported x t k s := by
  cases x <;> rfl

theorem blockReported_rest (x : Side) (t : Tick) (k : FaultCapture) (s : State) :
    (blockReported x t k s).dsq = s.dsq ∧ (blockReported x t k s).stu = s.stu ∧ (blockReported x t k s).set = s.set ∧
      (blockReported x t k s).msy = s.msy ∧ (blockReported x t k s).pru.active = s.pru.active ∧
      (blockReported x t k s).conv x = blockedOff k (s.conv x) := by
  cases x <;> exact ⟨rfl, rfl, rfl, rfl, rfl, rfl⟩

/-- The one report among the messages of the arrival. -/
theorem reportMsgs_arrival (o : Sched) (x : Side) (k : FaultCapture) (n : Period) :
    reportMsgs o [.capture x k, .cond (.convFault x) true, .report (.convFault x) n] = [.report (.convFault x) n] :=
  List.perm_singleton.mp ((reportMsgs_perm o _).trans (.of_eq rfl))

/-- With no order of takings the demand of CONV_x_FAULT is taken before the coming period event (R59, R90). -/
theorem faultArrival_demandFirst (o : Sched) {x : Side} {t : Tick} {s : State} {g : Origin} (hf : (s.conv x).fault = false)
    (hs : (s.conv x).state = .firing) (hg : (s.conv x).lastOrigin = some g) (hc : (s.conv x).faultCond = false)
    (hr : s.set.response x = .block) (hd : s.dsq.drive = .starting ∨ s.dsq.drive = .run) (hi : s.pru.active = false)
    (ho : o.takings = []) :
    ∃ u, exec (.faultArrival x t o) s = .next u ∧ u.dsq.drive = .tripped ∧ u.pru.firstOut = some (.convFault x) ∧
      u.pru.latched = [{ kind := .convFault x, cls := .f }] ∧ StuKept s.stu u.stu := by
  have hexec := exec_faultArrival (t := t) (s := s) (.inr ho) x
  rw [convArrival_block hf hs hg hc hr, deliver_reports, calmed_arrival, reportMsgs_arrival] at hexec
  obtain ⟨hdsq, hstu, -, -, hactive, -⟩ := blockReported_rest x t (captureOf t (s.meu.sides.get x).lastSample g) s
  generalize blockReported x t _ s = v at hexec hdsq hstu hactive
  obtain ⟨-, -, hfirst, hlatched, -, hdemand⟩ := takeReport_opened o g.period (k := .convFault x) (s := v) (c := .f) rfl
    (by decide) (hactive.trans hi) rfl
  refine ⟨takeReport o (.convFault x) g.period v, hexec, ?_, hfirst, hlatched, ?_⟩
  · rw [hdemand, hdsq]
    rcases hd with hd | hd <;> simp only [dsqDemand, hd] <;> rfl
  · exact hstu ▸ (takeReport_carried (K := fun _ => True) o _ _ v).stu

/-- The episode that CONV_x_FAULT opens while the sequencer's taking of demands is still to come: the demand waits. -/
theorem post_arrival (o : Sched) {later : List Taking} (hl : later.contains .demand = true)
    (hr : ∀ k, Taking.report k ∉ later) (x : Side) (t : Tick) (k : FaultCapture) (n : Period) {s : State}
    (hi : s.pru.active = false) : Flow.post o later ({ s with now := t }.putConv x (blockedOff k (s.conv x)),
      [.capture x k, .cond (.convFault x) true, .report (.convFault x) n]) ⟨s, []⟩ =
    ⟨openEpisode (.convFault x) .f (blockReported x t k s), [.demand .f]⟩ := by
  have hactive : (blockReported x t k s).pru.active = false := (blockReported_rest x t k s).2.2.2.2.1.trans hi
  rw [Flow.post_eq, calmed_arrival, reportMsgs_arrival]
  generalize blockReported x t k s = v at hactive
  have hjudge : judge (.convFault x) n v = (openEpisode (.convFault x) .f v, some .f) :=
    (judge_cause n (c := .f) rfl (by decide)).trans (if_neg (by rw [hactive]; exact Bool.false_ne_true))
  have hnow : mustWait later (.report (.convFault x) n) = false :=
    Bool.eq_false_iff.mpr fun hw => hr _ (List.contains_iff_mem.mp hw)
  have harrive : Flow.arrive o later ⟨v, []⟩ (.report (.convFault x) n) = Flow.report o later (.convFault x) n ⟨v, []⟩ := by
    rw [Flow.arrive, hnow]
    rfl
  have hreport : Flow.report o later (.convFault x) n ⟨v, []⟩ =
      Flow.send o later .f ⟨openEpisode (.convFault x) .f v, []⟩ := by
    unfold Flow.report
    dsimp only
    rw [hjudge]
  rw [List.foldl_cons, List.foldl_nil, harrive, hreport, Flow.send_waits o hl]
  rfl

theorem episode_carried {K : Cause → Prop} {s t : State} (h : Carried K s t) {k j : Cause} (ha : s.pru.active = true)
    (hf : s.pru.firstOut = some k) (hl : latchedActive j s.pru = true) :
    t.pru.active = true ∧ t.pru.firstOut = some k ∧ latchedActive j t.pru = true :=
  ⟨(h.pru.active ha).1, (h.pru.active ha).2.1.trans hf, h.pru.latched j hl⟩

/-- The speed and torque unit takes the period event with a converter in OFF: CONVERTER_LOST (R90). -/
theorem stuWork_loses {s : State} {x : Side} (hd : s.dsq.drive = .starting ∨ s.dsq.drive = .run)
    (hg : s.stu.grace = false) (hs : s.set.singleDrive = false) (hx : (s.conv x).state = .off) (n : Period) (t : Tick) :
    (stuWork s.set (s.stuView n t) s.stu).lostCond = true ∧ (stuWork s.set (s.stuView n t) s.stu).periodTaken = n := by
  obtain ⟨c, r, h⟩ := stuWork_stages s.set (s.stuView n t) s.stu
  refine ⟨?_, h.taken⟩
  have hdrives : drives (s.stuView n t).drive = true := (drives_iff _).mpr hd
  rw [h.lostCond, hdrives, hg, Bool.true_and, if_neg Bool.false_ne_true, lossHolds, hs, if_neg Bool.false_ne_true,
    Bool.or_eq_true]
  cases x with
  | a => exact .inl (decide_eq_true hx)
  | b => exact .inr (decide_eq_true hx)

/-- The speed and torque unit takes the period event `n` while a demand of class F waits: CONVERTER_LOST is latched in the
episode ACTIVE, and then the demand is taken (R90, R145). -/
theorem workStu_loses (o : Sched) {n : Period} (t : Tick) {x : Side} {k : Cause} {f : Flow}
    (hd : f.state.dsq.drive = .starting ∨ f.state.dsq.drive = .run) (hgrace : f.state.stu.grace = false)
    (hsingle : f.state.set.singleDrive = false) (hlost : f.state.stu.lostCond = false)
    (hoff : (f.state.conv x).state = .off) (hfault : (f.state.conv x).fault = true) (ha : f.state.pru.active = true)
    (hfirst : f.state.pru.firstOut = some k) (hlatch : latchedActive k f.state.pru = true) (hmail : f.mail = [.demand .f]) :
    ∃ u, Flow.collect o [] isDemand (workStu o n t [.demand] f) = ⟨u, []⟩ ∧ u.dsq.drive = .tripped ∧
      u.pru.firstOut = some k ∧ latchedActive k u.pru = true ∧ latchedActive .converterLost u.pru = true ∧
      .converterLost ∈ u.pru.view ∧ u.stu.lostCond = true ∧ u.stu.periodTaken = n ∧ (u.conv x).state = .off := by
  have hnone : ∀ j, Taking.report j ∉ [Taking.demand] := fun j hj => by simp at hj
  obtain ⟨hloses, htaken⟩ := stuWork_loses hd hgrace hsingle hoff n t
  obtain ⟨hview, hlatched, -⟩ := workStu_reports o [.demand] (n := n) (t := t) (f := f) (k := .converterLost) rfl
    ⟨(fun _ h => nomatch h), (fun _ h => nomatch h)⟩ (fun h => nomatch h) (.inl fun _ h => nomatch h) hlost hloses
  have hstu := workStu_stu o n t [.demand] f
  have hdefer := workStu_deferred o rfl hnone n t f
  obtain ⟨hpactive, hpfirst, hplatch⟩ := episode_carried (stuPosted_carried o n t [.demand] f) ha hfirst hlatch
  obtain ⟨hactive, hfirst, hlatch⟩ := episode_carried (workStu_carried o n t [.demand] f) hpactive hpfirst hplatch
  generalize workStu o n t [.demand] f = w at hview hlatched hstu hdefer hactive hfirst hlatch
  obtain ⟨v, mail⟩ := w
  obtain ⟨cs, rfl⟩ : ∃ cs : List Class, mail = (.f :: cs).map Mail.demand := by
    obtain ⟨cs, hcs⟩ := hdefer.mail
    exact ⟨cs, by rw [← show _ = mail from hcs.symm, hmail]; rfl⟩
  have hreported := demands_reported o (.f :: cs) v
  obtain ⟨-, hufirst, hulatch⟩ := episode_carried hreported.toCarried hactive hfirst hlatch
  have hlost := hlatched (hnone _) fun _ _ h => nomatch h
  have hustu := (hstu.trans hreported.stu).rest
  have htrips : (demand o .f v).dsq.drive = .tripped := by
    rw [(demand_rest o .f v).2.2.2, hdefer.dsq]
    rcases hd with hd | hd <;> simp only [dsqDemand, hd] <;> rfl
  have hconv : v.conv x = f.state.conv x := hdefer.conv x
  exact ⟨demands o (.f :: cs) v, Flow.collect_demands o (.f :: cs) v, demands_tripped o cs htrips, hufirst, hulatch,
    hreported.pru.latched _ hlost, (hreported.pru.view .converterLost ⟨trivial, .inl fun _ h => nomatch h⟩).mpr hview,
    (congrArg Stu.lostCond hustu :).trans hloses, (congrArg Stu.periodTaken hustu :).trans htaken,
    demands_off o (.f :: cs) (by rw [hconv]; exact hoff) (by rw [hconv]; exact hfault)⟩

/-- The takings of the period event `n` ahead of the demands that wait. -/
theorem runTakings_periodFirst (o : Sched) {n : Period} (t : Tick) {e u : State} (hb : e.stu.periodTaken ≠ n)
    (hm : e.msy.period ≠ n) (h : Flow.collect o [] isDemand
      (workStu o n t [.demand] ⟨{ e with issued := e.edgeNoted t }, [.demand .f]⟩) = ⟨u, []⟩) :
    runTakings o n t none [.period .stu, .demand] ⟨e, [.demand .f]⟩ = ⟨u, []⟩ := by
  have hissue : Flow.issue n t ⟨e, [.demand .f]⟩ = ⟨{ e with issued := e.edgeNoted t }, [.demand .f]⟩ := if_neg hm
  have hrun : runTakings o n t none [.period .stu, .demand] ⟨e, [.demand .f]⟩ =
      Flow.collect o [] (fun _ => true) (Flow.collect o [] isDemand
        (takePeriod o n t .stu [.demand] (Flow.issue n t ⟨e, [.demand .f]⟩))) := rfl
  have htake := takePeriod_due (b := .stu) (f := ⟨{ e with issued := e.edgeNoted t }, [.demand .f]⟩) hb o t [.demand]
  rw [hrun, hissue, htake]
  exact (congrArg (Flow.collect o [] fun _ => true) h).trans (Flow.collect_empty o [] _ rfl)

/-- With the period event taken by the speed and torque unit before the demand, CONVERTER_LOST joins the episode of
CONV_x_FAULT, and then the drive is TRIPPED (R90, R144, R145). -/
theorem faultArrival_periodFirst (o : Sched) {x : Side} {t : Tick} {s : State} {g : Origin}
    (hn : nextPeriodEvent s.msy = some t) (hb : s.stu.periodTaken ≠ s.msy.period + 1#32)
    (hf : (s.conv x).fault = false) (hs : (s.conv x).state = .firing) (hg : (s.conv x).lastOrigin = some g)
    (hc : (s.conv x).faultCond = false) (hr : s.set.response x = .block)
    (hd : s.dsq.drive = .starting ∨ s.dsq.drive = .run) (hgrace : s.stu.grace = false) (hsingle : s.set.singleDrive = false)
    (hlost : s.stu.lostCond = false) (hi : s.pru.active = false) (ho : o.takings = [.period .stu, .demand]) :
    ∃ u, exec (.faultArrival x t o) s = .next u ∧ u.dsq.drive = .tripped ∧
      u.pru.firstOut = some (.convFault x) ∧ latchedActive (.convFault x) u.pru = true ∧
      latchedActive .converterLost u.pru = true ∧ .converterLost ∈ u.pru.view ∧ u.stu.lostCond = true ∧
      u.stu.periodTaken = s.msy.period + 1#32 ∧ (u.conv x).state = .off := by
  have hahead : aheadOf o t s.msy = [.period .stu, .demand] := by
    rw [aheadOf, if_pos hn, aheadTakings, ho]
    rfl
  have hexec : exec (.faultArrival x t o) s = .next (runTakings o (s.msy.period + 1#32) t none (aheadOf o t s.msy)
      (Flow.post o (aheadOf o t s.msy)
        ({ s with now := t }.putConv x (convArrival s.set x t (s.meu.sides.get x).lastSample (s.conv x)).1,
          (convArrival s.set x t (s.meu.sides.get x).lastSample (s.conv x)).2) ⟨s, []⟩)).state := rfl
  have hnone : ∀ k, Taking.report k ∉ [.period .stu, .demand] := fun k hk => by simp at hk
  rw [hahead, convArrival_block hf hs hg hc hr, post_arrival o rfl hnone x t _ g.period hi] at hexec
  obtain ⟨hdsq, hstu, hset, hmsy, hactive, hconv⟩ :=
    blockReported_rest x t (captureOf t (s.meu.sides.get x).lastSample g) s
  obtain ⟨e, he⟩ : ∃ e, openEpisode (.convFault x) .f
    (blockReported x t (captureOf t (s.meu.sides.get x).lastSample g) s) = e := ⟨_, rfl⟩
  have hopen := openEpisode_same (.convFault x) .f (blockReported x t (captureOf t (s.meu.sides.get x).lastSample g) s)
  have hepisode : e.pru.active = true ∧ e.pru.firstOut = some (.convFault x) ∧ latchedActive (.convFault x) e.pru = true := by
    rw [← he, openEpisode_eq]
    refine ⟨rfl, rfl, ?_⟩
    rw [latchedActive_iff]
    simp [pruOpen]
  rw [he] at hexec hopen
  have hbe : e.stu.periodTaken ≠ s.msy.period + 1#32 := by rw [hopen.stu, hstu]; exact hb
  have hme : e.msy.period ≠ s.msy.period + 1#32 := by
    rw [hopen.msy, hmsy]
    bv_omega
  have hblocked : (e.conv x).state = .off ∧ (e.conv x).fault = true := by
    rw [hopen.conv, hconv]
    exact ⟨rfl, rfl⟩
  obtain ⟨u, hu, htripped⟩ := workStu_loses o (n := s.msy.period + 1#32) t (x := x)
    (f := ⟨{ e with issued := e.edgeNoted t }, [.demand .f]⟩)
    (by rw [hopen.dsq, hdsq]; exact hd) (by rw [hopen.stu, hstu]; exact hgrace) (by rw [hopen.set, hset]; exact hsingle)
    (by rw [hopen.stu, hstu]; exact hlost) (by cases x <;> exact hblocked.1) (by cases x <;> exact hblocked.2)
    hepisode.1 hepisode.2.1 hepisode.2.2 rfl
  exact ⟨u, hexec.trans (congrArg (fun f : Flow => Host.Outcome.next f.state) (runTakings_periodFirst o t hbe hme hu)),
    htripped⟩

/-- Settles O24. -/
theorem faultAndPeriodEventInEitherOrder : Obligations.FaultAndPeriodEventInEitherOrder := by
  intro x t o s g _ hn hb hf hs hg hc hr hd hgrace hsingle hlost hi
  refine ⟨fun ho => ?_, fun ho _ =>
    faultArrival_periodFirst o hn hb hf hs hg hc hr hd hgrace hsingle hlost hi ho⟩
  obtain ⟨u, hu, hdrive, hfirst, hlatched, hstu⟩ := faultArrival_demandFirst o (t := t) hf hs hg hc hr hd hi ho
  exact ⟨u, hu, hdrive, hfirst, hlatched, (congrArg Stu.lostCond hstu.rest :).trans hlost, hstu.periodTaken⟩

end Sys2Proof.Machine
end
